-- ==== Sys2Proof/Word.lean ====
section
/-! DEFINITION. The words of the ES216: bytes of frames and of the EEPROM, the sixteen-flag field, the step count. -/

namespace Sys2Proof

/-- One byte of a frame or of the EEPROM (chapter 12). -/
abbrev Byte := BitVec 8

/-- A flag field: 16 bits, one bit per flag (R173). -/
abbrev FlagSet := BitVec 16

/-- The step count, modulo 4 (R14). -/
abbrev StepCount := BitVec 2

/-- An instant of oscillator time, or of check-oscillator time while OSC_IN is lost, in ns (R1, R9). -/
abbrev Instant := Int

/-- A second count, 0 to 4,294,967,295 (R1). -/
abbrev Second := Nat

end Sys2Proof
end

