-- ==== Sys2Proof/Config.lean ====
section
/-! DEFINITION. What the ES216 fixes: the constants of its rules, the settings it reads in LOAD with their
defaults (R169), and the one value the manual leaves open. -/

namespace Sys2Proof

/-- The bus rates (R49, R169). -/
inductive BusRate where
  | kbit250 | kbit500 | kbit1000
  deriving DecidableEq, Repr

/-- The modes of AUX_OUT (R7). -/
inductive AuxMode where
  | off | ppsCopy | sourceIndicator
  deriving DecidableEq, Repr

/-- The configuration fields in use, with their defaults (the table of R169). -/
structure Settings where
  busRate : BusRate := .kbit500
  busDelay : Nat := 150
  cableDelay : Nat := 0
  decimation : Nat := 16
  lmin : Int := -500
  lmax : Int := 500
  lwin : Nat := 16
  lcnt : Nat := 4
  qualification : Nat := 120
  holdoff : Nat := 300
  filterConstant : Nat := 8
  peerLimit : Nat := 300
  markInterval : Nat := 2
  statusInterval : Nat := 10
  pointInterval : Nat := 16
  disagreeThreshold : Nat := 1000
  disagreeCount : Nat := 4
  tauRef : Nat := 1024
  tauFollow : Nat := 256
  stepThreshold : Nat := 1000
  lockThreshold : Nat := 100
  warmup : Nat := 900
  tauEns : Nat := 2048
  sigmaFloor : Nat := 50
  sigmaAging : Nat := 20
  holdoverLimit : Nat := 10000
  muteOnExhaustion : Bool := false
  slewRate : Nat := 100
  auxMode : AuxMode := .ppsCopy
  alertEnables : FlagSet := 0xFF5F#16
  deriving DecidableEq, Repr

namespace Config

/-- Nanoseconds in a whole second. -/
abbrev second : Int := 1000000000

/-- The second count runs modulo 2^32 (R1). -/
abbrev secondModulus : Nat := 4294967296

/-- The guard of R11, R12 and R161: 50 ms. -/
abbrev guard : Int := 50000000

/-- The limit of F, in ppt (R111). -/
abbrev limitF : Int := 2000000

/-- The limit of the loop integral, in millionths of a ppt (R111). -/
abbrev limitI : Int := 2000000000000

/-- The limit of the operator trim, in ns (R13). -/
abbrev limitTrim : Int := 1000000

/-- The saturated uncertainty, in ns (R131). -/
abbrev saturatedU : Nat := 2097151

/-- The greatest magnitude of an observation and of a loop input, in ns (R25, R110). -/
abbrev limitObservation : Int := 32767

/-- The fixed acquisition time constant tau_acq, in s (chapter 7). -/
abbrev tauAcq : Nat := 64

/-- Where the counters of R20, R52, R62 and R71 hold. -/
abbrev counterTop : Nat := 65535

/-- FREE VALUE. R2 holds Φ as a signed 64-bit quantity and states no result for a sum outside that range: what Φ then
holds is this unknown function of the exact sum. -/
opaque phiBeyond : Int → BitVec 64

end Config
end Sys2Proof
end

