-- ==== Sys2Proof/Syntax.lean ====
section
/-! DEFINITION. The commands of the ES216: one constructor of `Instr` for each row of spec/opcode_table.json. The
part runs no program: a command is an event at a pin, on the bus or in one of its timers, with what that event brings.
An operand `t` is the instant of the event on the clock that carries own time (oscillator time, or check-oscillator time
while OSC_IN is lost). Events whose instant the part itself holds (a boundary, a timer) carry none. -/

namespace Sys2Proof

/-- The classes a station reports to its peers (R102); `none` of an Option is the class none. -/
inductive StationClass where
  | ref | follow | hold | free
  deriving DecidableEq, Repr

/-- The five kinds of bus error (R56). -/
inductive BusError where
  | bit | stuff | crc | form | acknowledgement
  deriving DecidableEq, Repr

/-- The parts of one boundary's work that the manual allows in either order (sections 1.2, 6.4, 7.9, 8.4, 9.4):
the latch of F, the oscillator monitor's report, and the work of each block. -/
inductive BoundaryTask where
  | latch | oscillator | monitor | peers | engine | learning | bus
  deriving DecidableEq, Repr

/-- A frame as its reception completes: remote and 29-bit marks, the 11-bit identifier, the data bytes (R49, R52). -/
structure RawFrame where
  remote : Bool
  extended : Bool
  ident : BitVec 11
  data : List Byte
  deriving DecidableEq, Repr

/-- The fields of a FOLLOW frame (R174). -/
structure FollowData where
  seq : BitVec 8
  cls : StationClass
  txTime : BitVec 30
  stepCount : StepCount
  slewing : Bool
  u : BitVec 21
  deriving DecidableEq, Repr

/-- The fields of a COMMAND frame beside its code: target mask, byte 3 less its spare bit, argument (R174). -/
structure CommandFrame where
  target : BitVec 16
  byte3 : BitVec 7
  argument : BitVec 32
  deriving DecidableEq, Repr

/-- What the bus brings to an own attempt: the instant since which it is idle, and the instant at which the driven edge
reaches the station's own receive pin (R50, R57). -/
structure BusTimes where
  idle : Instant
  seen : Instant
  deriving DecidableEq, Repr

/-- What the bus brings with the start-of-frame edge of another party's frame: the instant since which the bus was idle,
and the instant at which the edge reaches the station's receive pin (R50, R57). -/
structure BusEdge where
  idle : Instant
  time : Instant
  deriving DecidableEq, Repr

/-- The commands, in the table's order. Station addresses 1 to 16 are `Fin 16`, counted from 0. -/
inductive Instr where
  | supplyGood
  | supplyLoss (pageTaken : Bool)
  | resetNAssert (lowNs : Nat) (pageTaken : Bool)
  | resetNRelease
  | openSecond0 (cycles : Nat) (straps : BitVec 4) (sitePwr : Bool)
  | configurationRead (acknowledged : Bool)
  | learningBlockRead (acknowledged : Bool)
  | busJoin
  | ownBoundary (order : List BoundaryTask)
  | staleBlock
  | qualificationTimerExpiry
  | holdoffExpiry
  | peerExpiry (peer : Fin 16)
  | quarantineEnd (peer : Fin 16)
  | steerLimitReached
  | warmupExpiry
  | agingSample
  | temperatureConversionEnd (t : Instant) (reading : Option Int)
  | stalenessTimerExpiry
  | markDue
  | statusPeriodicOffer
  | ppsPulseEnd
  | oscGap (t : Instant)
  | checkWindowEnd (t : Instant) (cycles : Nat)
  | refPulse (t : Instant)
  | missingPulseEvent
  | sitePwrEdge (t : Instant) (high : Bool)
  | sitePwrFilterExpiry
  | transmitAttemptStart (t : Instant) (bus : BusTimes)
  | attemptCompleted (t : Instant)
  | arbitrationLost (t : Instant)
  | transmitError (t : Instant) (kind : BusError) (inDataField : Bool)
  | receiveError (t : Instant) (kind : BusError)
  | busOffRecovery
  | markDeadline
  | followDeadline
  | pageDeadline (position : Fin 2)
  | frameReceived (t : Instant) (frame : RawFrame)
  | markFrame (t : Instant) (source : Fin 16) (seq : BitVec 8)
  | followFrame (t : Instant) (source : Fin 16) (data : FollowData)
  | pendingTimerExpiry (peer : Fin 16)
  | invalidCommandCode (t : Instant) (code : BitVec 8) (c : CommandFrame)
  | statusQuery (t : Instant) (c : CommandFrame)
  | clearErrors (t : Instant) (c : CommandFrame)
  | alertEnable (t : Instant) (c : CommandFrame)
  | alertDisable (t : Instant) (c : CommandFrame)
  | errorSet (t : Instant) (c : CommandFrame)
  | phaseStep (t : Instant) (c : CommandFrame)
  | phaseSlew (t : Instant) (c : CommandFrame)
  | adjustAbort (t : Instant) (c : CommandFrame)
  | refInhibit (t : Instant) (c : CommandFrame)
  | refRelease (t : Instant) (c : CommandFrame)
  | historyRelease (t : Instant) (c : CommandFrame)
  | tableRead (t : Instant) (c : CommandFrame)
  | learnSave (t : Instant) (c : CommandFrame)
  | learnClear (t : Instant) (c : CommandFrame)
  | restart (t : Instant) (c : CommandFrame)
  | eepromPageWriteDone
  | eepromFailure (pageTaken : Bool)
  | startOfFrameEdgeSeen (edge : BusEdge)
  | recoveryCountRise
  deriving DecidableEq, Repr

end Sys2Proof
end

