-- ==== Sys2Proof/Decode.lean ====
section
/-! DEFINITION. Reading a command from a word. No row of spec/opcode_table.json gives bits: a command is an event at a
pin, on the bus or in a timer, and no word spells one. -/

namespace Sys2Proof

/-- The command that a word of the table's bits spells: none, as the table gives no row any bits. -/
def decodeTableWord (_nbits _w : Nat) : Option Instr := none

end Sys2Proof
end

