-- ==== Sys2Proof/Machine/Arith.lean ====
section
/-! DEFINITION. The numerical words of section 4.2 of the scope file: round, edge placement, round up, clamp, fold, and
second counts modulo 2^32. All arithmetic is exact; each rule narrows where it says so. -/

namespace Sys2Proof.Machine

/-- Round the quotient `n / d` (with `d` above 0) to the nearest integer, exact halves away from zero (section 4.2). -/
def roundDiv (n d : Int) : Int :=
  if 0 ≤ n then (2 * n + d) / (2 * d) else -((2 * -n + d) / (2 * d))

/-- Round the quotient up: the least integer not below it (section 4.2, R133). -/
def ceilDiv (n d : Nat) : Nat := (n + (d - 1)) / d

/-- Replace a value outside the range `lo` to `hi` by the nearer limit (section 4.2). -/
def clamp (lo hi x : Int) : Int := if x < lo then lo else if hi < x then hi else x

/-- Clamp to the range from `-limit` to `limit`. -/
def clampAbs (limit x : Int) : Int := clamp (-limit) limit x

/-- Add or subtract whole periods until the value lies above half a period below zero and at or below half a period
above it (section 4.2; R72, R78). -/
def fold (period x : Int) : Int :=
  let r := x % period
  if period < 2 * r then r - period else r

/-- The instant of boundary `index` for the phase correction `phi` in ps: rounded to the nearest ns, an exact half to
the later instant (R2, section 4.2). -/
def place (index : Nat) (phi : Int) : Instant :=
  ((index : Int) * 1000000000000 - phi + 500) / 1000

/-- The difference `a - b` of two second counts, modulo 2^32 (R27, R76, R82, R125, R148). -/
def secondsSince (a b : Second) : Nat :=
  (a + (Config.secondModulus - b % Config.secondModulus)) % Config.secondModulus

/-- The second count `d` seconds after `a`. -/
def secondAfter (a d : Nat) : Second := (a + d) % Config.secondModulus

/-- A counter that runs from 0 to 65,535 and holds there (R20, R52, R62, R71, R144). -/
def countUp (n : Nat) : Nat := if n < Config.counterTop then n + 1 else n

/-- The greatest power of two at or below `n` (for `n` from 1 to 16,384), used by R169. -/
def powerBelow (n : Nat) : Nat := 2 ^ n.log2

/-- Φ as a signed 64-bit quantity (R2): the exact sum where it fits, the free value of `Config.phiBeyond` where not. -/
def narrowPhi (x : Int) : Int :=
  if -(2 ^ 63) ≤ x ∧ x < 2 ^ 63 then x else (Config.phiBeyond x).toInt

/-- The sum of a list of integers. -/
def sumInt : List Int → Int
  | [] => 0
  | x :: xs => x + sumInt xs

/-- The rounded mean of a list, halves away from zero (R117). -/
def meanInt (xs : List Int) : Int := roundDiv (sumInt xs) xs.length

/-- Append at the newest end of a list that holds at most `cap` entries, dropping the oldest first (R35, R76, R77,
R117, R147). -/
def pushBounded {α : Type} (cap : Nat) (xs : List α) (x : α) : List α :=
  (if cap ≤ xs.length then xs.drop (xs.length + 1 - cap) else xs) ++ [x]

/-- The number of OUT verdicts, held as `true`, in a window (R35, R79). -/
def outCount (w : List Bool) : Nat := w.count true

/-! ### Bytes, most significant first (section 12.1) -/

/-- A 16-bit field as bytes. -/
def be16 (v : BitVec 16) : List Byte := [v.extractLsb' 8 8, v.extractLsb' 0 8]

/-- A 24-bit field as bytes. -/
def be24 (v : BitVec 24) : List Byte := [v.extractLsb' 16 8, v.extractLsb' 8 8, v.extractLsb' 0 8]

/-- A 32-bit field as bytes. -/
def be32 (v : BitVec 32) : List Byte :=
  [v.extractLsb' 24 8, v.extractLsb' 16 8, v.extractLsb' 8 8, v.extractLsb' 0 8]

/-- An unsigned field read back from its bytes. -/
def readBytes : List Byte → Nat
  | [] => 0
  | b :: bs => b.toNat * 256 ^ bs.length + readBytes bs

/-- A signed (two's complement) field of the given bytes. -/
def readSigned (bs : List Byte) : Int :=
  let n := readBytes bs
  let m := 256 ^ bs.length
  if 2 * n < m then (n : Int) else (n : Int) - m

/-- The 16-bit sum, modulo 65,536, of bytes (R175). -/
def checkSum (bs : List Byte) : BitVec 16 :=
  bs.foldl (fun acc b => acc + b.zeroExtend 16) 0

end Sys2Proof.Machine
end

