-- ==== Sys2Proof/Machine/State.lean ====
section
/-! DEFINITION. The state of the ES216, block by block, as plain data, and the state after reset. Each block's record
follows the state table of its chapter; INVENTORY.md lists every field with the rule that names it. -/

namespace Sys2Proof.Machine

/-! ### Timescale Generator (chapter 1) -/

/-- OSC_IN as the oscillator monitor holds it: present, lost (R9), or found good again but with the origin of
oscillator time not yet moved, which happens at the next own boundary (R10). -/
inductive OscState where
  | present | lost | returning
  deriving DecidableEq, Repr

/-- Who asked for an adjustment (R11). -/
inductive Origin where
  | engine | command
  deriving DecidableEq, Repr

/-- The kind of an adjustment (R11). -/
inductive AdjustKind where
  | step | slew
  deriving DecidableEq, Repr

/-- The record of the adjustment slot (R11). -/
structure AdjustRecord where
  origin : Origin
  kind : AdjustKind
  requested : Int
  remaining : Int
  due : Second
  started : Bool
  deriving DecidableEq, Repr

/-- The amount committed to the next boundary (R11, R13), with what its application needs: origin and kind of its
record, whether it is a slew's first portion, and whether its record has been emptied from the slot (R14, R15). -/
structure Committed where
  amount : Int
  origin : Origin
  kind : AdjustKind
  first : Bool
  detached : Bool
  deriving DecidableEq, Repr

/-- The cycle of FREQ_OUT that ended at the last boundary (R6): whole, cut short, or stretched, by the ns given (DESIGN
CHOICE, log entry 19). -/
inductive FreqCycle where
  | whole
  | cutShort (ns : Int)
  | stretched (ns : Int)
  deriving DecidableEq, Repr

/-- The state of the Timescale Generator (R1 to R17). `now` is the instant of the latest event. The second count is the
boundary index modulo 2^32 (R2). FREQ_OUT makes `freqSteps` steps of 1 ns in the second in progress, `freqMade` of them
by the instant `freqFrom` at which its boundary was last scheduled (R6). -/
structure Timescale where
  now : Instant
  boundaryIndex : Nat
  lastBoundary : Instant
  nextBoundary : Instant
  phi : Int
  phiNext : Int
  fInForce : Int
  fSet : Int
  slot : Option AdjustRecord
  committed : Option Committed
  trim : Int
  stepCount : StepCount
  slewing : Bool
  outputsRunning : Bool
  ppsOut : Bool
  auxOut : Bool
  freqCycle : FreqCycle
  freqSteps : Int
  freqMade : Int
  freqFrom : Instant
  osc : OscState
  windowGap : Bool
  deriving DecidableEq, Repr

/-! ### Reference Monitor (chapters 2 and 3) -/

/-- The qualification state of the reference (chapter 3). -/
inductive Qualification where
  | absent | candidate | qualified | disqualified
  deriving DecidableEq, Repr

/-- A pulse with the boundary it is measured against, its tag (R21). -/
structure Pulse where
  instant : Instant
  tag : Second
  deriving DecidableEq, Repr

/-- How far the monitor's work for the last boundary has come (R45): done; stopped at a stale block; or stopped at a
timer that has reached 0. -/
inductive MonitorStage where
  | idle | stale | expiry
  deriving DecidableEq, Repr

/-- The residual history ring (R37). -/
structure HistoryRing where
  slots : Vector Int 8
  fill : Nat
  pointer : Fin 8
  frozen : Bool
  deriving DecidableEq, Repr

/-- The empty ring (R38, R48). -/
def HistoryRing.empty : HistoryRing := ⟨Vector.replicate 8 0, 0, 7, false⟩

/-- The out-of-limit window that a disqualification order cleared, and the instant of the order: a residual fault that
falls together with the order is still found on it (R46; DESIGN CHOICE, log entry 26). -/
structure OrderedWindow where
  instant : Instant
  verdicts : List Bool
  deriving DecidableEq, Repr

/-- The state of the Reference Monitor (R18 to R48). The out-of-limit window holds `true` for OUT, oldest first. -/
structure Monitor where
  lastPulse : Option Pulse
  missingDue : Option Instant
  held : Option Pulse
  blockSum : Int
  blockCount : Nat
  blockOpen : Option Second
  seedRequest : Bool
  extraCount : Nat
  missingCount : Nat
  qual : Qualification
  prediction : Option Int
  window : List Bool
  ordered : Option OrderedWindow
  history : HistoryRing
  consecutiveMissing : Nat
  qualTimer : Option Nat
  holdoffTimer : Option Nat
  stage : MonitorStage
  deriving DecidableEq, Repr

/-! ### Bus Interface (chapter 4) -/

/-- The bus error state (R57, R58). -/
inductive BusState where
  | errorActive | errorPassive | busOff
  deriving DecidableEq, Repr

/-- A start-of-frame timestamp: the second count and the nanoseconds, a multiple of 10 (R50), with the instant of the
boundary that opened that second, from which its own instant follows. -/
structure Stamp where
  second : Second
  ns : Nat
  opened : Instant
  deriving DecidableEq, Repr

/-- What a MARK attempt notes at its drive timestamp (R50). -/
structure Snapshot where
  stepCount : StepCount
  slewing : Bool
  cls : Option StationClass
  u : Nat
  deriving DecidableEq, Repr

/-- The MARK slot: sequence number and deadline (R62, R63). -/
structure MarkEntry where
  seq : BitVec 8
  deadline : Instant
  deriving DecidableEq, Repr

/-- The FOLLOW slot: the frame's fields and its deadline (R62, R64). -/
structure FollowEntry where
  data : FollowData
  deadline : Instant
  deriving DecidableEq, Repr

/-- A PAGE slot: the eight bytes and the deadline (R62, R163). -/
structure PageEntry where
  bytes : List Byte
  deadline : Instant
  deriving DecidableEq, Repr

/-- The slots of the transmit queue, as the arbiter names them (R59). -/
inductive SlotKind where
  | mark | follow | alert | status0 | status1 | page
  deriving DecidableEq, Repr

/-- An own attempt that is open (R61): the slot it serves, whether its frame is still in that slot, whether its deadline
has passed meanwhile (R62), the drive timestamp, a MARK's snapshot, and the frame on the bus. -/
structure Attempt where
  slot : SlotKind
  inSlot : Bool
  expired : Bool
  drive : Stamp
  snapshot : Option Snapshot
  frame : RawFrame
  deriving DecidableEq, Repr

/-- The state of the Bus Interface (R49 to R66). `wait0` and `wait1` are STATUS content that waits for a slot under
attempt, `aside` the flags held aside for an ALERT under attempt (R60); the two PAGE slots are in the order queued;
`waitSince` is, while an ERROR_PASSIVE wait has not been found over, the end of the own attempt it follows, or the edge
of another party's frame that came within it (R57). -/
structure Bus where
  joined : Bool
  error : BusState
  transmitErrors : Nat
  receiveErrors : Nat
  recovery : Nat
  dataErrors : Nat
  listenOnly : Bool
  sequence : BitVec 8
  mark : Option MarkEntry
  follow : Option FollowEntry
  status0 : Option (List Byte)
  status1 : Option (List Byte)
  wait0 : Option (List Byte)
  wait1 : Option (List Byte)
  alert : Option FlagSet
  aside : FlagSet
  pages : List PageEntry
  attempt : Option Attempt
  seen : Option Stamp
  waitSince : Option Instant
  badFrames : Nat
  marksLate : Nat
  markDue : Option Instant
  statusDue : Bool
  deriving DecidableEq, Repr

/-! ### Peer Table Unit (chapters 5 and 6) -/

/-- A pending mark (R67), with the instant at which its timer runs out (R68). -/
structure PendingMark where
  seq : BitVec 8
  rxNs : Nat
  rxSecond : Second
  correction : Int
  timer : Instant
  deriving DecidableEq, Repr

/-- The states of a peer entry other than EMPTY (R73). -/
inductive PeerState where
  | learning | active | quarantined
  deriving DecidableEq, Repr

/-- A peer entry that is not EMPTY (R73). The limit window holds `true` for OUT, oldest first. -/
structure PeerEntry where
  state : PeerState
  lf16 : Option Int
  cls : StationClass
  u : Nat
  stepSeen : StepCount
  slewing : Bool
  run : Nat
  window : List Bool
  stepTimes : List Second
  quarantine : Nat
  lastHeard : Second
  deriving DecidableEq, Repr

/-- The fields of a tier result that has a consensus (R93, R94). -/
structure Consensus where
  value : Int
  spread : Int
  count : Nat
  weight : Nat
  leastU : Nat
  deriving DecidableEq, Repr

/-- The result held for one tier: a consensus or none, and the point that formed it (section 6.1). -/
structure TierResult where
  consensus : Option Consensus
  point : Option Second
  deriving DecidableEq, Repr

/-- How far the unit's work for the last boundary has come (R83): done, stopped at an entry to expire, or stopped at an
entry whose quarantine has ended. -/
inductive PeerStage where
  | idle | expiry | quarantine
  deriving DecidableEq, Repr

/-- The state of the Peer Table Unit (R67 to R100); entry `a` is that of address `a + 1`, `none` is EMPTY. `lapsed`
holds the pending marks that entries lost by expiring at the boundary just taken, for a sample that is taken at the
same instant after it (R82, log entry 31). -/
structure PeerUnit where
  marks : Vector (Option PendingMark) 16
  lapsed : Vector (Option PendingMark) 16
  peers : Vector (Option PeerEntry) 16
  unpaired : Nat
  orphan : Nat
  tier1 : TierResult
  tier2 : TierResult
  stage : PeerStage
  deriving DecidableEq, Repr

/-! ### Discipline Engine (chapters 7 and 8) -/

/-- The engine states (chapter 7). -/
inductive EngineState where
  | warmup | acquire | locked | follow | holdover | freerun | fault
  deriving DecidableEq, Repr

/-- The tiers of the consensus (chapter 6). -/
inductive Tier where
  | one | two
  deriving DecidableEq, Repr

/-- What the loop steers to (chapter 7). -/
inductive Source where
  | reference
  | tier (t : Tier)
  deriving DecidableEq, Repr

/-- The last consensus used, with its tier (R112). -/
structure LastConsensus where
  value : Int
  tier : Tier
  deriving DecidableEq, Repr

/-- The holdover record (R123). -/
structure HoldoverRecord where
  entrySecond : Second
  base : Int
  entryBin : Option (Fin 64)
  sigma : Nat
  u0 : Nat
  deriving DecidableEq, Repr

/-- The record of the Discipline Engine (R102 to R138). F set is held in the Timescale Generator (R3). -/
structure Engine where
  state : EngineState
  source : Option Source
  integral : Int
  pt : Int
  ring : List Int
  lockCount : Nat
  largeCount : Nat
  steerCount : Nat
  warmupLeft : Nat
  inhibit : Bool
  lastY : Option Int
  lastC : Option LastConsensus
  disagree : Nat
  record : Option HoldoverRecord
  nudge : Int
  lastPrediction : Option Int
  followedU : Option Nat
  u : Nat
  exhaustionOrder : Bool
  deriving DecidableEq, Repr

/-! ### Learning Unit (chapter 9) -/

/-- The sampling state (R140). -/
inductive Sampling where
  | waiting | fresh | stale
  deriving DecidableEq, Repr

/-- One bin of the temperature table (R142). -/
structure Bin where
  count : Nat
  mean : Int
  deviation : Nat
  deriving DecidableEq, Repr

/-- An unpopulated bin (R142). -/
def Bin.empty : Bin := ⟨0, 0, 0⟩

/-- A sample of the aging ring (R147). -/
structure AgingSample where
  z : Int
  second : Second
  deriving DecidableEq, Repr

/-- A save in flight (R150): the page it has reached, the check sum so far, and the aging ring as the first aging page
read it, each sample with its age. -/
structure SaveProgress where
  page : Nat
  check : BitVec 16
  aging : List (Int × Nat)
  deriving DecidableEq, Repr

/-- A page write on the 2-wire link (R151): its two-byte memory address, its bytes, and whether it is a write of the
save in flight (a RESTART abandons the save and lets the write run to its end). -/
structure PageWrite where
  addr : BitVec 16
  bytes : List Byte
  ofSave : Bool
  deriving DecidableEq, Repr

/-- The state of the Learning Unit (R139 to R153). `save = none` is IDLE. -/
structure Learning where
  sampling : Sampling
  lastReading : Option Int
  staleDue : Instant
  converting : Bool
  table : Vector Bin 64
  agingClock : Nat
  aging : List AgingSample
  rate : Int
  save : Option SaveProgress
  pageWrite : Option PageWrite
  deriving DecidableEq, Repr

/-! ### Status and Command Unit, Start-up and Power Controller (chapters 10 and 11) -/

/-- The last refusal cause (R160). -/
inductive Cause where
  | none | busy | late | invalid | state
  deriving DecidableEq, Repr

/-- The state of the Status and Command Unit (R154 to R165). ALERT_N is low exactly when the two sets share a flag. -/
structure StatusUnit where
  raised : FlagSet
  enabled : FlagSet
  cause : Cause
  deriving DecidableEq, Repr

/-- The power states (chapter 11). -/
inductive PowerState where
  | load | runNormal | runSave
  deriving DecidableEq, Repr

/-- The reads of LOAD that remain (R166). -/
inductive LoadStage where
  | configuration | learning | done
  deriving DecidableEq, Repr

/-- The state of the Start-up and Power Controller (R166 to R172), with the input pins it watches. `opened` says that
second 0 has opened since the last reset. -/
structure Power where
  supplyGood : Bool
  resetLow : Bool
  opened : Bool
  state : PowerState
  stage : LoadStage
  address : Fin 16
  sitePwr : Bool
  filtered : Bool
  filterDue : Option Instant
  deriving DecidableEq, Repr

/-- The contents of the EEPROM: address and byte, addresses rising, no byte listed that an unlisted address reads as. -/
abbrev Memory := List Host.Cell

/-- The whole state, with the queue of waiting commands, first in, first out. -/
structure State where
  tsg : Timescale
  mon : Monitor
  bus : Bus
  ptu : PeerUnit
  eng : Engine
  lrn : Learning
  scu : StatusUnit
  pwr : Power
  cfg : Settings
  eeprom : Memory
  pending : List Instr
  deriving DecidableEq, Repr

/-- Why a step stops with a fault. The ES216 has no such stop: every finding of its blocks is a flag and an action of
the block (chapter 10), so this type has no constructor. -/
inductive Fault where
  deriving DecidableEq, Repr

/-- Why a step is refused. -/
inductive Refusal where
  /-- Raised by an arm of `exec` whose command has no meaning yet. Safe: nothing is claimed of it. -/
  | notModelled (mnemonic : String)
  deriving DecidableEq, Repr

/-! ### Updates -/

def State.withTsg (s : State) (x : Timescale) : State := { s with tsg := x }
def State.withMon (s : State) (x : Monitor) : State := { s with mon := x }
def State.withBus (s : State) (x : Bus) : State := { s with bus := x }
def State.withPtu (s : State) (x : PeerUnit) : State := { s with ptu := x }
def State.withEng (s : State) (x : Engine) : State := { s with eng := x }
def State.withLrn (s : State) (x : Learning) : State := { s with lrn := x }
def State.withScu (s : State) (x : StatusUnit) : State := { s with scu := x }
def State.withPwr (s : State) (x : Power) : State := { s with pwr := x }
def State.withCfg (s : State) (x : Settings) : State := { s with cfg := x }
def State.withEeprom (s : State) (x : Memory) : State := { s with eeprom := x }
def State.withPending (s : State) (x : List Instr) : State := { s with pending := x }

/-! ### Reset -/

/-- R17. The instants of a part whose second 0 has not opened stand at 0 (DESIGN CHOICE, log entry 2). The oscillator
monitor starts with fresh check windows; that it holds OSC_IN as present until the first of them has ended, where the
manual gives no finding, is a choice (DESIGN CHOICE, log entry 32). -/
def Timescale.reset : Timescale where
  now := 0
  boundaryIndex := 0
  lastBoundary := 0
  nextBoundary := Config.second
  phi := 0
  phiNext := 0
  fInForce := 0
  fSet := 0
  slot := none
  committed := none
  trim := 0
  stepCount := 0
  slewing := false
  outputsRunning := false
  ppsOut := false
  auxOut := false
  freqCycle := .whole
  freqSteps := 0
  freqMade := 0
  freqFrom := 0
  osc := .present
  windowGap := false

/-- R32, R48: the same values after every kind of reset. -/
def Monitor.reset : Monitor where
  lastPulse := none
  missingDue := none
  held := none
  blockSum := 0
  blockCount := 0
  blockOpen := none
  seedRequest := false
  extraCount := 0
  missingCount := 0
  qual := .absent
  prediction := none
  window := []
  ordered := none
  history := HistoryRing.empty
  consecutiveMissing := 0
  qualTimer := none
  holdoffTimer := none
  stage := .idle

/-- R66. -/
def Bus.reset : Bus where
  joined := false
  error := .errorActive
  transmitErrors := 0
  receiveErrors := 0
  recovery := 0
  dataErrors := 0
  listenOnly := false
  sequence := 0
  mark := none
  follow := none
  status0 := none
  status1 := none
  wait0 := none
  wait1 := none
  alert := none
  aside := 0
  pages := []
  attempt := none
  seen := none
  waitSince := none
  badFrames := 0
  marksLate := 0
  markDue := none
  statusDue := false

/-- R88, R100: the same values after every kind of reset. -/
def PeerUnit.reset : PeerUnit where
  marks := Vector.replicate 16 none
  lapsed := Vector.replicate 16 none
  peers := Vector.replicate 16 none
  unpaired := 0
  orphan := 0
  tier1 := ⟨none, none⟩
  tier2 := ⟨none, none⟩
  stage := .idle

/-- R101, R122, R137. -/
def Engine.reset : Engine where
  state := .warmup
  source := none
  integral := 0
  pt := 0
  ring := []
  lockCount := 0
  largeCount := 0
  steerCount := 0
  warmupLeft := 0
  inhibit := false
  lastY := none
  lastC := none
  disagree := 0
  record := none
  nudge := 0
  lastPrediction := none
  followedU := none
  u := Config.saturatedU
  exhaustionOrder := false

/-- R153. -/
def Learning.reset : Learning where
  sampling := .waiting
  lastReading := none
  staleDue := 4000000000
  converting := false
  table := Vector.replicate 64 Bin.empty
  agingClock := 0
  aging := []
  rate := 0
  save := none
  pageWrite := none

/-- R165. -/
def StatusUnit.reset : StatusUnit where
  raised := 0
  enabled := 0
  cause := .none

/-- The controller of a part that is out of reset and whose second 0 has not opened. The address before the straps are
sampled, and the level of SITE_PWR before it is sampled, are the model's (DESIGN CHOICE, log entry 2). -/
def Power.reset : Power where
  supplyGood := true
  resetLow := false
  opened := false
  state := .load
  stage := .configuration
  address := 0
  sitePwr := false
  filtered := false
  filterDue := none

/-- The machine right after reset: the supply is good, RESET_N is high, the first check window of OSC_IN runs, and every
block holds its power-up values. The EEPROM, a memory outside the part, has nothing listed. -/
def State.reset : State where
  tsg := Timescale.reset
  mon := Monitor.reset
  bus := Bus.reset
  ptu := PeerUnit.reset
  eng := Engine.reset
  lrn := Learning.reset
  scu := StatusUnit.reset
  pwr := Power.reset
  cfg := {}
  eeprom := []
  pending := []

end Sys2Proof.Machine
end

