-- ==== Sys2Proof/Machine/Ops.lean ====
section
/-! DEFINITION. The named operations that every block shares: the EEPROM's bytes, own time, the station's class and
weight-bearing readings, and whether the part runs. -/

namespace Sys2Proof.Machine

/-! ### The EEPROM as memory (R150, R175) -/

/-- What a byte that nothing has written reads as (DESIGN CHOICE, log entry 1: the manual gives none). -/
def Memory.blank : Byte := 0

/-- Read one byte. -/
def Memory.read : Memory → Nat → Byte
  | [], _ => Memory.blank
  | (a, b) :: rest, addr => if a = addr then b else Memory.read rest addr

/-- Write one byte, keeping the canonical form: the blank value is not listed. -/
def Memory.write : Memory → Nat → Byte → Memory
  | [], addr, v => if v = Memory.blank then [] else [(addr, v)]
  | (a, b) :: rest, addr, v =>
    if addr < a then (if v = Memory.blank then (a, b) :: rest else (addr, v) :: (a, b) :: rest)
    else if addr = a then (if v = Memory.blank then rest else (addr, v) :: rest)
    else (a, b) :: Memory.write rest addr v

/-- Write bytes at consecutive addresses. -/
def Memory.writeAll (m : Memory) (addr : Nat) : List Byte → Memory
  | [] => m
  | b :: bs => Memory.writeAll (m.write addr b) (addr + 1) bs

/-- Read `n` bytes at consecutive addresses. -/
def Memory.readAll (m : Memory) (addr : Nat) : Nat → List Byte
  | 0 => []
  | n + 1 => m.read addr :: Memory.readAll m (addr + 1) n

/-- Whether every listed address lies above `low`, addresses rise, and no blank byte is listed. -/
def Memory.wfAbove (low : Nat) : Memory → Bool
  | [] => true
  | (a, b) :: rest => low ≤ a && b != Memory.blank && Memory.wfAbove (a + 1) rest

/-- The canonical form. -/
def Memory.wf (m : Memory) : Bool := Memory.wfAbove 0 m

/-! ### Time (R1, R50) -/

/-- The second count: the boundary index modulo 2^32 (R1, R2). -/
def State.second (s : State) : Second := s.tsg.boundaryIndex % Config.secondModulus

/-- The state at instant `t`. -/
def State.at (s : State) (t : Instant) : State := s.withTsg { s.tsg with now := t }

/-- Own time at instant `t`, nanoseconds truncated to a multiple of 10 (R4, R50). -/
def State.stamp (s : State) (t : Instant) : Stamp :=
  ⟨s.second, ((t - s.tsg.lastBoundary) / 10 * 10).toNat, s.tsg.lastBoundary⟩

/-- Own time at an instant `t` to come, by the next boundary as it stands scheduled: past that boundary it is time of
the second which that boundary opens (R50; at the boundary's own instant, of the second in force: log entry 17). -/
def State.stampAhead (s : State) (t : Instant) : Stamp :=
  if s.tsg.nextBoundary < t then
    ⟨secondAfter s.second 1, ((t - s.tsg.nextBoundary) / 10 * 10).toNat, s.tsg.nextBoundary⟩
  else s.stamp t

/-- The instant a timestamp names. -/
def Stamp.instant (st : Stamp) : Instant := st.opened + st.ns

/-! ### Whether the part runs (R17, R49, R172) -/

/-- Held in reset: RESET_N low, or the supply not good (R172). -/
def State.held (s : State) : Bool := !s.pwr.supplyGood || s.pwr.resetLow

/-- Second 0 has opened and the part is not held in reset. -/
def State.running (s : State) : Bool := s.pwr.opened && !s.held

/-- On the bus: LOAD has ended and the 11 recessive bits were seen (R49). -/
def State.onBus (s : State) : Bool := s.running && s.bus.joined

/-! ### Class and standing (R102) -/

/-- The class reported in each engine state (R102). -/
def classOf : EngineState → Option StationClass
  | .locked => some .ref
  | .follow => some .follow
  | .holdover => some .hold
  | .acquire => some .free
  | .freerun => some .free
  | .warmup => none
  | .fault => none

/-- The class the station reports. -/
def State.cls (s : State) : Option StationClass := classOf s.eng.state

/-- Engine states in which no class is reported: WARMUP and FAULT. -/
def State.silent (s : State) : Bool := s.eng.state = .warmup || s.eng.state = .fault

/-- M_eff by the power state (R63). LOAD has none, so that no MARK falls due at a boundary in LOAD, nor at the opening
of second 0 (DESIGN CHOICE, log entry 25). -/
def State.markEff (s : State) : Option Nat :=
  match s.pwr.state with
  | .load => none
  | .runNormal => some s.cfg.markInterval
  | .runSave =>
    some (match s.cfg.markInterval with
      | 1 => 4
      | 2 => 8
      | _ => 16)

/-- S_eff by the power state (R65). LOAD has none, so that no STATUS falls due at a boundary in LOAD, nor at the opening
of second 0 (DESIGN CHOICE, log entry 25). -/
def State.statusEff (s : State) : Option Nat :=
  match s.pwr.state with
  | .load => none
  | .runNormal => some s.cfg.statusInterval
  | .runSave => some (min 240 (4 * s.cfg.statusInterval))

/-- The number of ACTIVE entries (R86). -/
def PeerUnit.activeCount (p : PeerUnit) : Nat :=
  p.peers.toList.countP fun e => match e with
    | some e => e.state = .active
    | none => false

/-- The held result of a tier (R96). -/
def PeerUnit.tier (p : PeerUnit) : Tier → TierResult
  | .one => p.tier1
  | .two => p.tier2

/-! ### The temperature table's lookups (R124, R141, R145) -/

/-- The bin of a temperature in eighths of a degree (R141). -/
def binOf (eighths : Int) : Fin 64 :=
  ⟨(clamp 0 63 ((eighths + 320) / 16)).toNat % 64, Nat.mod_lt _ (by decide)⟩

/-- The current bin: that of the last valid reading (R124, R140). -/
def Learning.currentBin (l : Learning) : Option (Fin 64) := l.lastReading.map binOf

/-- Bin `i` where it is populated. -/
def populatedAt (table : Vector Bin 64) (i : Nat) : Option Bin :=
  match table[i]? with
  | some b => if 0 < b.count then some b else none
  | none => none

/-- The populated bin nearest to `b`, the lower between two equally near (R145): distances `d` upward from `64 -
fuel`. -/
def nearestFrom (table : Vector Bin 64) (b : Nat) : Nat → Option Bin
  | 0 => none
  | fuel + 1 =>
    let d := 63 - fuel
    match (if d ≤ b then populatedAt table (b - d) else none) with
    | some x => some x
    | none =>
      match populatedAt table (b + d) with
      | some x => some x
      | none => nearestFrom table b fuel

/-- The populated bin nearest to `b`, or none when no bin is populated (R145). -/
def nearest (table : Vector Bin 64) (b : Fin 64) : Option Bin := nearestFrom table b 64

/-- Tab(b): the mean of the populated bin nearest to `b`, 0 when none is (R124). -/
def Learning.tab (l : Learning) (b : Fin 64) : Int :=
  match nearest l.table b with
  | some x => x.mean
  | none => 0

/-- The number of populated bins (R139). -/
def Learning.populated (l : Learning) : Nat := l.table.toList.countP fun b => 0 < b.count

end Sys2Proof.Machine
end

