-- ==== Sys2Proof/Machine/Frames.lean ====
section
/-! DEFINITION. The frames of the cabinet bus: how each is built and read (R49, R52, R173, R174), and the contents of
STATUS and PAGE frames (R159, R163). -/

namespace Sys2Proof.Machine

/-! ### Codes (R173) -/

def engineCode : EngineState → BitVec 3
  | .warmup => 0 | .acquire => 1 | .locked => 2 | .follow => 3 | .holdover => 4 | .freerun => 5 | .fault => 6

/-- The two-bit class code of FOLLOW frames. -/
def classCode : StationClass → BitVec 2
  | .ref => 0 | .follow => 1 | .hold => 2 | .free => 3

/-- The class code of STATUS frames, with 4 for none. -/
def statusClassCode : Option StationClass → BitVec 3
  | none => 4
  | some c => (classCode c).zeroExtend 3

def classOfCode (b : BitVec 2) : StationClass :=
  if b = 0 then .ref else if b = 1 then .follow else if b = 2 then .hold else .free

def qualCode : Qualification → BitVec 2
  | .absent => 0 | .candidate => 1 | .qualified => 2 | .disqualified => 3

def powerCode : PowerState → BitVec 2
  | .load => 0 | .runNormal => 1 | .runSave => 2

def causeCode : Cause → BitVec 3
  | .none => 0 | .busy => 1 | .late => 2 | .invalid => 3 | .state => 4

def bit (b : Bool) : BitVec 1 := BitVec.ofBool b

/-! ### Building (R173, R174) -/

/-- The identifier: kind code times 32 plus source address (R49). -/
def identOf (kind : Nat) (address : Fin 16) : BitVec 11 := BitVec.ofNat 11 (kind * 32 + (address.val + 1))

/-- A frame the station sends: a data frame with its own address as source (R49). -/
def ownFrame (s : State) (kind : Nat) (data : List Byte) : RawFrame :=
  ⟨false, false, identOf kind s.pwr.address, data⟩

/-- The data bytes of a FOLLOW. -/
def followBytes (f : FollowData) : List Byte :=
  [f.seq] ++ be32 (classCode f.cls ++ f.txTime) ++ be24 (f.stepCount ++ bit f.slewing ++ f.u)

/-- The data bytes of an ALERT: newly raised flags, all raised flags. -/
def alertBytes (newly raised : FlagSet) : List Byte := be16 newly ++ be16 raised

/-- Part 0 of a STATUS, from the values its owners hold now (R159). -/
def statusPart0 (s : State) : List Byte :=
  [(0 : BitVec 1) ++ engineCode s.eng.state ++ qualCode s.mon.qual ++ powerCode s.pwr.state,
   statusClassCode s.cls ++ BitVec.ofNat 4 (min 15 s.ptu.activeCount) ++ bit s.tsg.slewing]
  ++ be16 s.scu.raised
  ++ be24 (s.tsg.stepCount ++ (0 : BitVec 1) ++ BitVec.ofNat 21 (min Config.saturatedU s.eng.u))
  ++ [causeCode s.scu.cause ++ (0 : BitVec 5)]

/-- Part 1 of a STATUS: populated bins, F in force, last consensus used, temperature (R159). -/
def statusPart1 (s : State) : List Byte :=
  [(1 : BitVec 1) ++ BitVec.ofNat 7 (min 127 s.lrn.populated)]
  ++ be24 (BitVec.ofInt 24 (clamp (-8388608) 8388607 s.tsg.fInForce))
  ++ be16 (BitVec.ofInt 16 (match s.eng.lastC with
      | some c => clampAbs 32767 c.value
      | none => -32768))
  ++ be16 (BitVec.ofInt 16 (match s.lrn.lastReading with
      | some r => r
      | none => -32768))

/-- A 16-bit counter or residual field of a page. -/
def word16 (n : Int) : List Byte := be16 (BitVec.ofInt 16 n)

/-- The last byte of pages 64 to 66: fill count, pointer, frozen flag. -/
def historyByte (h : HistoryRing) : Byte :=
  BitVec.ofNat 4 h.fill ++ BitVec.ofNat 3 h.pointer.val ++ bit h.frozen

/-- The content of a page, bytes 1 to 7 (R163, R174); pages above 69 do not come here. -/
def pageContent (s : State) (page : Nat) : List Byte :=
  let h := s.mon.history
  if page < 64 then
    let b := (s.lrn.table[page]?).getD Bin.empty
    be16 (BitVec.ofNat 16 (min 65535 b.count))
      ++ be24 (BitVec.ofInt 24 (clamp (-8388608) 8388607 (roundDiv b.mean 250)))
      ++ be16 (BitVec.ofNat 16 (min 65535 b.deviation))
  else if page = 64 then word16 h.slots[0] ++ word16 h.slots[1] ++ word16 h.slots[2] ++ [historyByte h]
  else if page = 65 then word16 h.slots[3] ++ word16 h.slots[4] ++ word16 h.slots[5] ++ [historyByte h]
  else if page = 66 then word16 h.slots[6] ++ word16 h.slots[7] ++ word16 0 ++ [historyByte h]
  else if page = 67 then word16 s.ptu.unpaired ++ word16 s.ptu.orphan ++ word16 s.bus.badFrames ++ [0]
  else if page = 68 then word16 s.bus.marksLate ++ word16 s.mon.missingCount ++ word16 s.mon.extraCount ++ [0]
  else
    be16 (BitVec.ofInt 12 (clamp (-2048) 2047 s.lrn.rate) ++ BitVec.ofNat 4 s.lrn.aging.length)
      ++ be32 (BitVec.ofInt 32 (match s.eng.record with
          | some r => clamp (-2147483647) 2147483647 r.base
          | none => -2147483648))
      ++ [BitVec.ofNat 8 s.eng.ring.length]

/-- The eight bytes of a PAGE frame. -/
def pageBytes (s : State) (page : Nat) : List Byte := BitVec.ofNat 8 page :: pageContent s page

/-- A MARK from station `a` as it lies on the bus (R174). -/
def markRaw (a : Fin 16) (seq : BitVec 8) : RawFrame := ⟨false, false, identOf 1 a, [seq]⟩

/-- A FOLLOW from station `a` as it lies on the bus (R174). -/
def followRaw (a : Fin 16) (f : FollowData) : RawFrame := ⟨false, false, identOf 2 a, followBytes f⟩

/-- A COMMAND as it lies on the bus: source 0, its spare bit 0 (R174). -/
def commandRaw (code : BitVec 8) (c : CommandFrame) : RawFrame :=
  ⟨false, false, 0, be16 c.target ++ [code, (0 : BitVec 1) ++ c.byte3] ++ be32 c.argument⟩

/-! ### Reading (R52, R174) -/

/-- What a completed reception turns out to be. -/
inductive Heard where
  | ignored
  | bad
  | mark (source : Fin 16) (seq : BitVec 8)
  | follow (source : Fin 16) (data : FollowData)
  | other (source : Fin 16)
  | command (code : BitVec 8) (c : CommandFrame)
  deriving DecidableEq, Repr

/-- The length of each kind's data (section 4.1). -/
def kindLength (kind : Nat) : Nat :=
  if kind = 1 then 1 else if kind = 3 then 4 else 8

/-- The fields of a FOLLOW from its eight bytes. -/
def readFollow (seq b1 b2 b3 b4 b5 b6 b7 : Byte) : FollowData :=
  let w : BitVec 32 := b1 ++ b2 ++ b3 ++ b4
  let v : BitVec 24 := b5 ++ b6 ++ b7
  { seq := seq, cls := classOfCode (w.extractLsb' 30 2), txTime := w.extractLsb' 0 30,
    stepCount := v.extractLsb' 22 2, slewing := v.getLsbD 21, u := v.extractLsb' 0 21 }

/-- The checks of R52, in its order; step 5 (the length) and step 6 (the spare bit) in the patterns of the data. -/
def readFrame (f : RawFrame) : Heard :=
  if f.remote ∨ f.extended then .ignored
  else
    let kind := f.ident.toNat / 32
    let source := f.ident.toNat % 32
    if 5 < kind ∨ 16 < source then .bad
    else if (kind = 0) ≠ (source = 0) then .bad
    else if f.data.length ≠ kindLength kind then .bad
    else
      let a : Fin 16 := ⟨(source - 1) % 16, Nat.mod_lt _ (by decide)⟩
      match kind, f.data with
      | 0, [t1, t0, code, b3, a3, a2, a1, a0] =>
        if b3.getLsbD 7 then .bad
        else .command code ⟨t1 ++ t0, b3.extractLsb' 0 7, a3 ++ a2 ++ a1 ++ a0⟩
      | 1, [seq] => .mark a seq
      | 2, [b0, b1, b2, b3, b4, b5, b6, b7] => .follow a (readFollow b0 b1 b2 b3 b4 b5 b6 b7)
      | _, _ => .other a

end Sys2Proof.Machine
end

