-- ==== Sys2Proof/Machine/Flags.lean ====
section
/-! DEFINITION. The sixteen flags and the reports they lead to: raising (R154), ALERT and STATUS offers (R158 to R160
and R60), the refusal of a command (R160), and ALERT_N (R156). -/

namespace Sys2Proof.Machine

/-- The flags, in the order of their bits (R173). -/
inductive Flag where
  | oscLoss | steerLimit | refFault | refLost | refDisagree | obsSat | peerQuarantine | sourceChange
  | addrConflict | busOff | markLate | cmdRefused | tempStale | holdExhausted | storeFault | configDefaulted
  deriving DecidableEq, Repr

/-- The bit of a flag (R173). -/
def Flag.index : Flag → Nat
  | .oscLoss => 0 | .steerLimit => 1 | .refFault => 2 | .refLost => 3
  | .refDisagree => 4 | .obsSat => 5 | .peerQuarantine => 6 | .sourceChange => 7
  | .addrConflict => 8 | .busOff => 9 | .markLate => 10 | .cmdRefused => 11
  | .tempStale => 12 | .holdExhausted => 13 | .storeFault => 14 | .configDefaulted => 15

/-- The flag field that names one flag. -/
def Flag.mask (f : Flag) : FlagSet := BitVec.twoPow 16 f.index

/-- Whether a flag field names a flag. -/
def hasFlag (set : FlagSet) (f : Flag) : Bool := set.getLsbD f.index

/-- ALERT_N is low exactly when some flag is both raised and enabled (R156). -/
def State.alertLow (s : State) : Bool := s.scu.raised &&& s.scu.enabled != 0

/-- Whether the open attempt serves slot `k` with the frame still in that slot. -/
def Bus.attempting (b : Bus) (k : SlotKind) : Bool :=
  match b.attempt with
  | some a => a.inSlot && a.slot = k
  | none => false

/-- Offer an ALERT for newly raised flags: discarded in listen-only (R55), held aside while the ALERT is under attempt,
otherwise put into the slot or merged with the ALERT there (R60, R158). -/
def offerAlert (flags : FlagSet) (s : State) : State :=
  let b := s.bus
  if b.listenOnly then s
  else if b.attempting .alert then s.withBus { b with aside := b.aside ||| flags }
  else s.withBus { b with alert := some (b.alert.getD 0 ||| flags) }

/-- Raise a flag (R154): newly raised if it was not raised, and announced if also enabled. -/
def raise (f : Flag) (s : State) : State :=
  if hasFlag s.scu.raised f then s
  else
    let t := s.withScu { s.scu with raised := s.scu.raised ||| f.mask }
    if hasFlag s.scu.enabled f then offerAlert f.mask t else t

/-- Offer a STATUS (R159): both parts built now, replacing both slots; a slot under attempt takes its new content when
the attempt ends (R60); discarded in listen-only (R55). -/
def offerStatus (s : State) : State :=
  let b := s.bus
  let p0 := statusPart0 s
  let p1 := statusPart1 s
  if b.listenOnly then s
  else s.withBus { b with
    status0 := if b.attempting .status0 then b.status0 else some p0
    wait0 := if b.attempting .status0 then some p0 else b.wait0
    status1 := if b.attempting .status1 then b.status1 else some p1
    wait1 := if b.attempting .status1 then some p1 else b.wait1 }

/-- Refuse a command: the last refusal cause is set and CMD_REFUSED raised (R160). -/
def refuse (c : Cause) (s : State) : State :=
  raise .cmdRefused (s.withScu { s.scu with cause := c })

/-- Raise each flag of a list in turn. -/
def raiseAll : List Flag → State → State
  | [], s => s
  | f :: fs, s => raiseAll fs (raise f s)

/-- The flags in the order of their bits. -/
def Flag.all : List Flag :=
  [.oscLoss, .steerLimit, .refFault, .refLost, .refDisagree, .obsSat, .peerQuarantine, .sourceChange,
   .addrConflict, .busOff, .markLate, .cmdRefused, .tempStale, .holdExhausted, .storeFault, .configDefaulted]

end Sys2Proof.Machine
end

