-- ==== Sys2Proof/Machine/Learning.lean ====
section
/-! DEFINITION. The Learning Unit's operations: learning updates (R143, R144), the aging ring (R146 to R148), clearing
(R149), the save page by page (R150, R151) and restoration (R152). -/

namespace Sys2Proof.Machine

/-! ### Learning (R143, R144) -/

/-- The two conditions of R143: class REF, or class FOLLOW with source TIER1; and fresh temperature. -/
def State.learningAllowed (s : State) : Bool :=
  (s.eng.state = .locked || (s.eng.state = .follow && s.eng.source = some (.tier .one)))
    && s.lrn.sampling = .fresh

/-- A learning update with value `v` into a bin (R144). -/
def Bin.update (b : Bin) (v : Int) : Bin :=
  if b.count = 0 then ⟨1, v, 0⟩
  else
    let n : Int := (min (b.count + 1) 64 : Nat)
    let d := v - b.mean
    { count := countUp b.count
      mean := b.mean + roundDiv d n
      deviation := ((b.deviation : Int) + roundDiv ((d.natAbs : Int) - 1000 * b.deviation) (1000 * n)).toNat }

/-- Offer a loop update to the Learning Unit with value `v` (R111, R143): filed under the current bin, or discarded. -/
def learnOffer (v : Int) (s : State) : State :=
  if s.learningAllowed then
    match s.lrn.currentBin with
    | some b => s.withLrn { s.lrn with table := s.lrn.table.set b (s.lrn.table[b].update v) }
    | none => s
  else s

/-! ### Aging (R146 to R148) -/

/-- The aging clock has reached six hours (R146). -/
def agingPeriod : Nat := 21600

/-- The learned aging from the end samples of the ring, when they span a day or more (R148). -/
def agingRate (ring : List AgingSample) (old : Int) : Int :=
  match ring.head?, ring.getLast? with
  | some a, some b =>
    let dt := secondsSince b.second a.second
    if 86400 ≤ dt then clampAbs 1000 (roundDiv ((b.z - a.z) * 86400) (1000 * dt)) else old
  | _, _ => old

/-- Take an aging sample at the boundary just taken (R147) and return the clock to 0 (R146). Being a row of its own it
comes after the boundary's tasks, and so reads the ring and the table after every loop update of the boundary (DESIGN
CHOICE, log entry 23). -/
def takeAgingSample (s : State) : State :=
  let l := s.lrn
  if s.eng.ring = [] then s.withLrn { l with agingClock := 0 }
  else
    let now := match l.currentBin with
      | some b => l.tab b
      | none => 0
    let ring := pushBounded 8 l.aging ⟨meanInt s.eng.ring - now, s.second⟩
    s.withLrn { l with agingClock := 0, aging := ring, rate := agingRate ring l.rate }

/-! ### Clearing (R149) -/

/-- Clear the table, the aging ring, A and the aging clock (R149). -/
def clearLearning (s : State) : State :=
  s.withLrn { s.lrn with table := Vector.replicate 64 Bin.empty, aging := [], rate := 0, agingClock := 0 }

/-! ### The 2-wire link (R151, R175) -/

/-- The memory's device address on the link (R175). -/
def memoryDevice : BitVec 7 := 80#7

/-- What a transfer carries after its memory address: the bytes written, or how many bytes are read. -/
inductive LinkBody where
  | write (bytes : List Byte)
  | read (count : Nat)
  deriving DecidableEq, Repr

/-- A transfer on the link, from its start condition to its stop condition (R151): the device addressed, and the memory
address of its first byte as two bytes (R175). -/
structure LinkTransfer where
  device : BitVec 7
  address : List Byte
  body : LinkBody
  deriving DecidableEq, Repr

/-- A transfer with the memory: its address most significant byte first (R175). -/
def transferAt (addr : BitVec 16) (body : LinkBody) : LinkTransfer := ⟨memoryDevice, be16 addr, body⟩

/-- The transfer of a page write (R151). -/
def PageWrite.transfer (w : PageWrite) : LinkTransfer := transferAt w.addr (.write w.bytes)

/-- The transfers that a read of LOAD takes: the configuration block; the marker page, then the bin pages and the aging
pages (R152, R168; how far one transfer reaches is a DESIGN CHOICE, log entry 22). -/
def LoadStage.transfers : LoadStage → List LinkTransfer
  | .configuration => [transferAt 0 (.read 56)]
  | .learning => [transferAt 256 (.read 16), transferAt 272 (.read 512), transferAt 784 (.read 64)]
  | .done => []

/-- The transfers the station is about: those of a LOAD that runs, the page write under way. -/
def State.transfers (s : State) : List LinkTransfer :=
  (if s.running then s.pwr.stage.transfers else []) ++ (s.lrn.pageWrite.map (·.transfer)).toList

/-- The memory takes a write transfer that addresses it. -/
def Memory.take (m : Memory) (x : LinkTransfer) : Memory :=
  match x.body with
  | .write bytes => if x.device = memoryDevice then m.writeAll (readBytes x.address) bytes else m
  | .read _ => m

/-- What the memory answers to a read transfer that addresses it. -/
def Memory.answer (m : Memory) (x : LinkTransfer) : List Byte :=
  match x.body with
  | .read count => if x.device = memoryDevice then m.readAll (readBytes x.address) count else []
  | .write _ => []

/-! ### The save (R150, R151, R175) -/

/-- The memory address of each page write of a save: marker, bin pages, aging pages, marker. -/
def savePageAddr (page : Nat) : BitVec 16 :=
  BitVec.ofNat 16
    (if page = 0 ∨ 37 ≤ page then 256 else if page ≤ 32 then 272 + 16 * (page - 1) else 784 + 16 * (page - 33))

/-- The eight bytes of a bin, its deviation saved up to 65,535 (R175). -/
def binBytes (b : Bin) : List Byte :=
  be16 (BitVec.ofNat 16 b.count) ++ be32 (BitVec.ofInt 32 b.mean) ++ be16 (BitVec.ofNat 16 (min 65535 b.deviation))

/-- The eight bytes of an aging sample, Z saturated (R175); zeros for a slot beyond the fill. -/
def agingBytes : Option (Int × Nat) → List Byte
  | some (z, age) => be32 (BitVec.ofInt 32 (clampAbs 2147483647 z)) ++ be32 (BitVec.ofNat 32 age)
  | none => List.replicate 8 0

/-- The aging ring as a save reads it: each sample as its Z and its age (R150, step 3). -/
def agedRing (s : State) : List (Int × Nat) :=
  s.lrn.aging.map fun a => (a.z, secondsSince s.second a.second)

/-- Bin `i` of the table. -/
def Learning.bin (l : Learning) (i : Nat) : Bin := (l.table[i]?).getD Bin.empty

/-- The sixteen bytes that the write of a page begins with, read at that instant (R150). -/
def savePageBytes (s : State) (p : SaveProgress) : List Byte :=
  if p.page = 0 then List.replicate 16 0
  else if p.page ≤ 32 then
    binBytes (s.lrn.bin (2 * (p.page - 1))) ++ binBytes (s.lrn.bin (2 * (p.page - 1) + 1))
  else if p.page ≤ 36 then
    agingBytes p.aging[2 * (p.page - 33)]? ++ agingBytes p.aging[2 * (p.page - 33) + 1]?
  else
    [182, 77] ++ be16 (BitVec.ofInt 16 s.lrn.rate) ++ [BitVec.ofNat 8 p.aging.length] ++ be16 p.check
      ++ List.replicate 9 0

/-- Begin the write of the page the save has reached: the aging ring is read when the first aging page begins, and the
check value covers the bin pages and aging pages (R150). -/
def beginPage (p : SaveProgress) (s : State) : State :=
  let p := if p.page = 33 then { p with aging := agedRing s } else p
  let bytes := savePageBytes s p
  let check := if 1 ≤ p.page ∧ p.page ≤ 36 then p.check + checkSum bytes else p.check
  s.withLrn { s.lrn with
    save := some { p with check := check }
    pageWrite := some ⟨savePageAddr p.page, bytes, true⟩ }

/-- Start a save (R150). A write that a RESTART left running ends first (DESIGN CHOICE, log entry 16). -/
def startSave (s : State) : State :=
  let p : SaveProgress := ⟨0, 0, []⟩
  match s.lrn.pageWrite with
  | none => beginPage p s
  | some _ => s.withLrn { s.lrn with save := some p }

/-- The memory holds the page under way (R150, R151). -/
def landPage (w : PageWrite) (s : State) : State := s.withEeprom (s.eeprom.take w.transfer)

/-- The write that puts the validity marker into the memory (R150, step 4). -/
def PageWrite.validates (w : PageWrite) : Bool := w.addr = 256#16 && w.bytes.take 2 = [182, 77]

/-- Whether a page write that ends with its write cycle leaves its bytes in the memory: not the validity marker of a
save that a RESTART abandoned, which stays erased (R151; DEDUCED, log entry 16). -/
def PageWrite.lands (w : PageWrite) : Bool := w.ofSave || !w.validates

/-- A page write that fails or is cut (R151): `taken` says whether the memory took the page, which is the memory's own
(DESIGN CHOICE, log entry 15); the validity marker it does not take, so that a save cut short leaves no valid copy. -/
def cutPage (taken : Bool) (w : PageWrite) (s : State) : State := if taken && !w.validates then landPage w s else s

/-- A page write has been acknowledged after its write cycle: the memory holds it, and the next write begins, or the
save is complete (R150); a validity marker left by a RESTART is not held (R151). -/
def pageWriteDone (s : State) : State :=
  match s.lrn.pageWrite with
  | none => s
  | some w =>
    let t := s.withLrn { s.lrn with pageWrite := none }
    let t := if w.lands then landPage w t else t
    match s.lrn.save with
    | none => t
    | some p =>
      if !w.ofSave then beginPage p t
      else if 37 ≤ p.page then t.withLrn { t.lrn with save := none }
      else beginPage { p with page := p.page + 1 } t

/-- An EEPROM failure during a page write (R151): a save is abandoned with STORE_FAULT; a write that a RESTART left
running ends with no flag. -/
def pageWriteFailed (taken : Bool) (s : State) : State :=
  match s.lrn.pageWrite with
  | none => s
  | some w =>
    let t := cutPage taken w (s.withLrn { s.lrn with pageWrite := none })
    if w.ofSave then raise .storeFault (t.withLrn { t.lrn with save := none })
    else
      match s.lrn.save with
      | some p => beginPage p t
      | none => t

/-- A transfer cut by a reset (R151, R172): the memory completes or discards the page under way by its own design. -/
def cutTransfer (taken : Bool) (s : State) : State :=
  match s.lrn.pageWrite with
  | some w => cutPage taken w s
  | none => s

/-! ### Restoration (R152, R175) -/

/-- Bin `b` as the EEPROM stores it. -/
def storedBin (m : Memory) (b : Nat) : Bin :=
  { count := readBytes (m.readAll (272 + 8 * b) 2)
    mean := readSigned (m.readAll (274 + 8 * b) 4)
    deviation := readBytes (m.readAll (278 + 8 * b) 2) }

/-- Sample `i` as the EEPROM stores it, its second being minus its age (R152). -/
def storedSample (m : Memory) (i : Nat) : AgingSample :=
  { z := readSigned (m.readAll (784 + 8 * i) 4)
    second := secondsSince 0 (readBytes (m.readAll (788 + 8 * i) 4)) }

/-- A stored bin in range (R152): an unpopulated bin holds zeros, a mean lies within R142. -/
def Bin.inRange (b : Bin) : Bool :=
  (b.count ≠ 0 || (b.mean = 0 && b.deviation = 0)) && (-2000000000 ≤ b.mean && b.mean ≤ 2000000000)

/-- What the learning block turns out to be (R152). -/
inductive StoredCopy where
  | absent
  | faulty
  | sound (table : Vector Bin 64) (aging : List AgingSample) (rate : Int)
  deriving DecidableEq, Repr

/-- The finding of R152 on a memory that acknowledges every byte. -/
def readLearningBlock (m : Memory) : StoredCopy :=
  if m.readAll 256 2 ≠ [182, 77] then .absent
  else if (checkSum (m.readAll 272 576)).toNat ≠ readBytes (m.readAll 261 2) then .faulty
  else
    let rate := readSigned (m.readAll 258 2)
    let fill := readBytes (m.readAll 260 1)
    let table : Vector Bin 64 := Vector.ofFn fun i => storedBin m i.val
    if 8 < fill ∨ rate < -1000 ∨ 1000 < rate ∨ ¬ table.toList.all Bin.inRange then .faulty
    else .sound table ((List.range fill).map (storedSample m)) rate

/-- Put a restored or an empty learning state in place (R152); the aging clock starts at 0. -/
def putLearning (table : Vector Bin 64) (aging : List AgingSample) (rate : Int) (s : State) : State :=
  s.withLrn { s.lrn with table := table, aging := aging, rate := rate, agingClock := 0 }

/-- The read of the learning block (R152): restored, or emptied with STORE_FAULT where the finding calls for it. -/
def restoreLearning (acknowledged : Bool) (s : State) : State :=
  let none := putLearning (Vector.replicate 64 Bin.empty) [] 0 s
  if !acknowledged then raise .storeFault none
  else
    match readLearningBlock s.eeprom with
    | .absent => none
    | .faulty => raise .storeFault none
    | .sound table aging rate => putLearning table aging rate s

end Sys2Proof.Machine
end

