-- ==== Sys2Proof/Machine/Outputs.lean ====
section
/-! DEFINITION. PPS_OUT, FREQ_OUT and AUX_OUT with their mute state, and the waveform of FREQ_OUT (R5 to R8). -/

namespace Sys2Proof.Machine

/-! ### FREQ_OUT within a second (R6) -/

/-- Where the second in progress ends without the amount committed to its end: 10,000,000 cycles of FREQ_OUT. -/
def Timescale.freqNominal (x : Timescale) : Instant := x.lastBoundary + Config.second - x.freqSteps

/-- Where FREQ_OUT has made all its steps: at the boundary that closes the second, or, before a retard, where the
stretched part begins. -/
def Timescale.freqSpan (x : Timescale) : Instant := min x.nextBoundary x.freqNominal

/-- The steps of 1 ns, counted with their sign, that FREQ_OUT has made against OSC_IN by the instant `t` of the second
in progress (R6): evenly spread from `freqFrom` on, each made where its share of the time has passed (DESIGN CHOICE,
log entry 19). -/
def Timescale.freqMadeBy (x : Timescale) (t : Instant) : Int :=
  if t ≤ x.freqFrom then x.freqMade
  else if x.freqSpan ≤ t then x.freqSteps
  else x.freqMade + ((x.freqSteps - x.freqMade) * (t - x.freqFrom)).tdiv (x.freqSpan - x.freqFrom)

/-- The phase of FREQ_OUT at `t`: the steered ns since the rising edge at the boundary (R6). -/
def Timescale.freqPhase (x : Timescale) (t : Instant) : Int := t - x.lastBoundary + x.freqMadeBy t

/-- The level of FREQ_OUT at the instant `t` of the second in progress (R6, R8): 10 MHz from a rising edge at the
boundary, high in the first half of each cycle (DESIGN CHOICE, log entry 19), low while muted and in the stretched part
of a retard. -/
def Timescale.freqLevel (x : Timescale) (t : Instant) : Bool :=
  x.outputsRunning && t < x.freqNominal && x.freqPhase t % 100 < 50

/-- FREQ_OUT has a rising edge at `t`: at every boundary at which it runs, whatever its level before, and at each later
change from low to high (R6). -/
def Timescale.freqRises (x : Timescale) (t : Instant) : Bool :=
  x.freqLevel t && (t = x.lastBoundary || !x.freqLevel (t - 1))

/-! ### Muting and AUX_OUT (R5, R7, R8) -/

/-- Whether a mute cause holds (R8). -/
def State.muteCause (s : State) : Bool :=
  s.pwr.state = .load || s.eng.state = .warmup || s.eng.state = .fault || s.eng.exhaustionOrder

/-- AUX_OUT in source indicator mode: high in class REF or FOLLOW (R7). -/
def indicates (c : Option StationClass) : Bool := c = some .ref || c = some .follow

/-- What follows at once from a change of mute cause, class or power state: a beginning mute cause drives the outputs
low (R8), AUX_OUT follows the class in source indicator mode and is low in RUN-SAVE (R7). Nothing here starts a pulse:
that waits for a boundary. -/
def refreshOutputs (s : State) : State :=
  let m := s.muteCause
  s.withTsg { s.tsg with
    outputsRunning := s.tsg.outputsRunning && !m
    ppsOut := s.tsg.ppsOut && !m
    auxOut := match s.cfg.auxMode with
      | .off => false
      | .ppsCopy => s.tsg.auxOut && !m && s.pwr.state != .runSave
      | .sourceIndicator => indicates s.cls && s.pwr.state != .runSave }

/-- At an own boundary the outputs run unless muted, and a pulse starts (R5, R6, R8); AUX_OUT copies it in PPS copy mode
outside RUN-SAVE (R7). -/
def boundaryOutputs (s : State) : State :=
  let on := !s.muteCause
  s.withTsg { s.tsg with
    outputsRunning := on
    ppsOut := on
    auxOut := match s.cfg.auxMode with
      | .ppsCopy => on && s.pwr.state != .runSave
      | _ => s.tsg.auxOut }

/-- The pulse ends (R5): PPS_OUT falls, and AUX_OUT with it in PPS copy mode (R7). -/
def endPulse (s : State) : State :=
  s.withTsg { s.tsg with
    ppsOut := false
    auxOut := match s.cfg.auxMode with
      | .ppsCopy => false
      | _ => s.tsg.auxOut }

end Sys2Proof.Machine
end

