-- ==== Sys2Proof/Machine/Timescale.lean ====
section
/-! DEFINITION. The boundary scheduler and the adjustment slot (R2, R11 to R16) and the loss of OSC_IN as far as it
concerns them (R9). -/

namespace Sys2Proof.Machine

/-- The amount committed to the next boundary, 0 with none (R2). -/
def Timescale.committedAmount (x : Timescale) : Int :=
  match x.committed with
  | some c => c.amount
  | none => 0

/-- Φ of the next boundary with the amount `a` committed to it (R2). -/
def Timescale.phiWith (x : Timescale) (a : Int) : Int := narrowPhi (x.phi + x.fInForce + 1000 * a)

/-- Where the next boundary falls with the amount `a` committed to it (R2). While OSC_IN is lost no adjustment moves a
boundary (R9). -/
def Timescale.nextWith (x : Timescale) (a : Int) : Instant :=
  if x.osc = .present then place (x.boundaryIndex + 1) (x.phiWith a) else x.nextBoundary

/-- Form Φ of the next boundary and place it (R2). FREQ_OUT takes up F in steps of 1 ns by that boundary; a boundary
placed again during the second has the steps still to make spread over what is left of it (R6; DESIGN CHOICE, log entry
19). -/
def Timescale.schedule (x : Timescale) : Timescale :=
  if x.osc = .present then
    { x with
      phiNext := x.phiWith x.committedAmount
      nextBoundary := x.nextWith x.committedAmount
      freqSteps := x.lastBoundary + Config.second - place (x.boundaryIndex + 1) (x.phiWith 0)
      freqMade := x.freqMadeBy x.now
      freqFrom := x.now }
  else x

/-- The portion of a slew: the lesser of what remains and the slew rate, with its sign (R13). -/
def slewPortion (remaining : Int) (rate : Nat) : Int :=
  if 0 ≤ remaining then min remaining rate else -(min (-remaining) rate)

/-- The amount a record commits to a boundary (R13). -/
def portionOf (kind : AdjustKind) (remaining : Int) (rate : Nat) : Int :=
  match kind with
  | .step => remaining
  | .slew => slewPortion remaining rate

/-- The commitment a record makes (R13). -/
def commitmentOf (r : AdjustRecord) (rate : Nat) : Committed :=
  { amount := portionOf r.kind r.remaining rate, origin := r.origin, kind := r.kind, first := !r.started,
    detached := false }

/-- Commit what the slot has for the next boundary (R13, step (5) of section 1.2): an amount due there, or the next
portion of a started slew. -/
def commitDue (s : State) : State :=
  let x := s.tsg
  match x.slot with
  | some r =>
    if r.started ∨ r.due = secondAfter s.second 1 then
      s.withTsg { x with committed := some (commitmentOf r s.cfg.slewRate) }
    else s
  | none => s

/-- Take a record whose amount is committed to the next boundary at once, which reschedules it (R11, R12, R13). -/
def takeCommitted (r : AdjustRecord) (s : State) : State :=
  s.withTsg ({ s.tsg with slot := some r, committed := some (commitmentOf r s.cfg.slewRate) }).schedule

/-- An engine step of `y` (R11): refused while the slot is occupied; else taken for the next boundary when that is free
and far enough off, and for the one after otherwise. -/
def requestStep (y : Int) (s : State) : State :=
  let x := s.tsg
  match x.slot with
  | some _ => s
  | none =>
    let record (d : Nat) : AdjustRecord := ⟨.engine, .step, y, y, secondAfter s.second d, false⟩
    if x.committed = none ∧ x.now + Config.guard ≤ x.nextWith y then takeCommitted (record 1) s
    else s.withTsg { x with slot := some (record 2) }

/-- Why the slot refuses a commanded adjustment, if it does (R12). -/
def adjustRefusal (kind : AdjustKind) (amount : Int) (d : Nat) (st : Stamp) (s : State) : Option Cause :=
  let x := s.tsg
  if x.slot ≠ none then some .busy
  else if d = 1 ∧ x.committed ≠ none then some .busy
  else if d = 1 ∧ x.nextWith (portionOf kind amount s.cfg.slewRate) < st.instant + Config.guard then some .late
  else none

/-- Take a commanded adjustment for boundary `j + d` (R12). -/
def acceptAdjust (kind : AdjustKind) (amount : Int) (d : Nat) (st : Stamp) (s : State) : State :=
  let r : AdjustRecord := ⟨.command, kind, amount, amount, secondAfter st.second d, false⟩
  if d = 1 then takeCommitted r s else s.withTsg { s.tsg with slot := some r }

/-- Count the end of a slew (R14). -/
def Timescale.endSlew (x : Timescale) : Timescale := { x with stepCount := x.stepCount + 1, slewing := false }

/-- Whether the slot holds a slew that has started. -/
def Timescale.slewStarted (x : Timescale) : Bool :=
  match x.slot with
  | some r => r.kind = .slew && r.started
  | none => false

/-- Empty the slot (R15): a committed amount stays, to be applied at its boundary as a started slew's last portion;
with none, the end of a started slew counts at once (R14). -/
def abortSlot (s : State) : State :=
  let x := s.tsg
  match x.committed with
  | some c => s.withTsg { x with slot := none, committed := some { c with detached := true } }
  | none => s.withTsg (if x.slewStarted then { x.endSlew with slot := none } else { x with slot := none })

/-- Discard the committed amount at an oscillator loss (R9): where it was the last portion of a slew already emptied
from the slot, the slew's end counts now (R14). -/
def Timescale.discardCommitted (x : Timescale) : Timescale :=
  match x.committed with
  | some c =>
    if c.detached ∧ c.kind = .slew ∧ ¬c.first then { x.endSlew with committed := none } else { x with committed := none }
  | none => x

/-- Apply the committed amount at the boundary just reached (R13, R14): the trim for a commanded amount, the step count
and the slewing flag, the remaining amount, and the record's leaving the slot. A first portion emptied from the slot is
a slew's start and end at once (DEDUCED, log entry 11). -/
def Timescale.applyCommitted (x : Timescale) (c : Committed) : Timescale :=
  let remaining : Int := match x.slot with
    | some r => r.remaining - c.amount
    | none => 0
  let last : Bool := c.detached || c.kind = .step || remaining = 0
  { x with
    trim := if c.origin = .command then clampAbs Config.limitTrim (x.trim + c.amount) else x.trim
    stepCount := match c.kind with
      | .step => x.stepCount + 1
      | .slew => x.stepCount + (if c.first then 1 else 0) + (if last then 1 else 0)
    slewing := match c.kind with
      | .step => x.slewing
      | .slew => !last
    slot := if c.detached then x.slot
      else if last then none
      else x.slot.map fun r => { r with remaining := remaining, started := true }
    committed := none
    freqCycle := if 0 < c.amount then .cutShort c.amount else if c.amount < 0 then .stretched (-c.amount) else .whole }

end Sys2Proof.Machine
end

