-- ==== Sys2Proof/Machine/Engine.lean ====
section
/-! DEFINITION. The Discipline Engine: uncertainty and prediction (chapter 8), the loop (R111 to R116), source selection
and state entries (R105 to R107, R123 to R135), FAULT (R120). -/

namespace Sys2Proof.Machine

/-! ### Uncertainty (R131 to R133) -/

/-- The bound of a stay in HOLDOVER after `t` seconds, rounded up (R133). -/
def holdoverBound (u0 sigma sigmaAging t : Nat) : Nat :=
  u0 + ceilDiv (sigma * t * 172800 + sigmaAging * t * t) 172800000

/-- U by the engine state (R131), saturated. Values that a state always has (a last y in LOCKED, a last C in FOLLOW, a
record in HOLDOVER) stand as 0 or saturated where a state no run reaches lacks them (log entry 12). In HOLDOVER the time
of the stay is taken modulo 2^32 (R125), so that U falls back to U₀ at 2^32 s (DESIGN CHOICE, log entry 36). -/
def State.uncertainty (s : State) : Nat :=
  let e := s.eng
  min Config.saturatedU
    (match e.state with
      | .locked => 20 + (e.lastY.getD 0).natAbs
      | .follow => e.followedU.getD Config.saturatedU + 100 + (match e.lastC with
          | some c => c.value.natAbs
          | none => 0)
      | .holdover => match e.record with
          | some r => holdoverBound r.u0 r.sigma s.cfg.sigmaAging (secondsSince s.second r.entrySecond)
          | none => Config.saturatedU
      | _ => Config.saturatedU)

/-- Recompute U (R131). -/
def recomputeU (s : State) : State := s.withEng { s.eng with u := s.uncertainty }

/-- In HOLDOVER or FREERUN, U above the holdover limit raises HOLD_EXHAUSTED and gives the exhaustion order when mute on
exhaustion is yes (R134, R135). -/
def exhaustionTest (s : State) : State :=
  if (s.eng.state = .holdover ∨ s.eng.state = .freerun) ∧ s.cfg.holdoverLimit < s.eng.u then
    let t := raise .holdExhausted s
    if t.cfg.muteOnExhaustion then refreshOutputs (t.withEng { t.eng with exhaustionOrder := true }) else t
  else s

/-! ### F and the prediction (R3, R125, R130) -/

/-- Set F in the Timescale Generator (R3): the latch takes the value set most recently. -/
def setF (f : Int) (s : State) : State := s.withTsg { s.tsg with fSet := f }

/-- round(I / 1,000,000), the integral as a frequency in ppt (R107, R111). -/
def Engine.integralF (e : Engine) : Int := roundDiv e.integral 1000000

/-- The predicted frequency at the present second (R125): base, aging and temperature, summed exactly and rounded
once. -/
def State.prediction (s : State) (r : HoldoverRecord) : Int :=
  let l := s.lrn
  let temperature : Int := match l.currentBin, r.entryBin with
    | some b, some b0 => l.tab b - l.tab b0
    | _, _ => 0
  let t : Int := secondsSince s.second r.entrySecond
  clampAbs Config.limitF
    (roundDiv ((r.base + temperature) * 86400 + l.rate * 1000 * t) 86400000)

/-- Compute the prediction, keep it, and set F to it plus the nudge (R125). -/
def predict (s : State) : State :=
  match s.eng.record with
  | some r =>
    let p := s.prediction r
    setF (clampAbs Config.limitF (p + s.eng.nudge)) (s.withEng { s.eng with lastPrediction := some p })
  | none => s

/-- F in FREERUN: the temperature table alone (R130). -/
def freeRunF (s : State) : Int :=
  match s.lrn.currentBin with
  | some b => roundDiv (s.lrn.tab b) 1000
  | none => 0

/-- The holdover record made on entry (R123); U is still that of the state the engine leaves. -/
def State.newRecord (s : State) : HoldoverRecord :=
  let bin := s.lrn.currentBin
  { entrySecond := s.second
    base := meanInt s.eng.ring
    entryBin := bin
    sigma := match bin.bind (nearest s.lrn.table) with
      | some b => max s.cfg.sigmaFloor b.deviation
      | none => s.cfg.sigmaFloor
    u0 := s.eng.u }

/-! ### The loop (R109 to R114) -/

/-- One loop update by R111: the proportional term, the integral, the new F, and the offer to the Learning Unit. -/
def loopUpdate (y : Int) (period tau : Nat) (s : State) : State :=
  let pt := roundDiv (2000 * y) tau
  let i := clampAbs Config.limitI (s.eng.integral + roundDiv (1000000000 * y * period) (tau * tau))
  let f := clampAbs Config.limitF (roundDiv i 1000000 + pt)
  learnOffer (roundDiv i 1000) (setF f (s.withEng { s.eng with pt := pt, integral := i }))

/-- Record a reference input as the last y (R112), which recomputes U (R131). -/
def recordY (y : Int) (s : State) : State := recomputeU (s.withEng { s.eng with lastY := some y })

/-- Record a consensus as the last C with its tier and its least U (R112, R132), which recomputes U (R131). -/
def recordC (c : Consensus) (t : Tier) (s : State) : State :=
  recomputeU (s.withEng { s.eng with lastC := some ⟨c.value, t⟩, followedU := some c.leastU })

/-- What a change from engine state `old` brings (R103): the outputs follow, a change of class raises SOURCE_CHANGE, a
change of state offers a STATUS, last of all (DESIGN CHOICE, log entry 14). -/
def announce (old : EngineState) (s : State) : State :=
  let s := refreshOutputs s
  let s := if classOf old ≠ s.cls then raise .sourceChange s else s
  if old ≠ s.eng.state then offerStatus s else s

/-- The lock counter has reached 4 (R115): LOCKED on the reference, FOLLOW on a tier; source, I, F and the last
proportional term are kept. -/
def lockAchieved (s : State) : State :=
  let old := s.eng.state
  let st : EngineState := if s.eng.source = some .reference then .locked else .follow
  announce old (recomputeU (s.withEng { s.eng with
    state := st, lockCount := 0, largeCount := 0, steerCount := 0 }))

/-- An input in ACQUIRE (R113): a large one asks for an engine step; a small one is a loop update and moves the lock
counter. -/
def acquireInput (y : Int) (period : Nat) (s : State) : State :=
  if s.cfg.stepThreshold < y.natAbs then
    requestStep y (s.withEng { s.eng with lockCount := 0 })
  else
    let s := loopUpdate y period Config.tauAcq s
    let n := if y.natAbs ≤ s.cfg.lockThreshold then s.eng.lockCount + 1 else 0
    let s := s.withEng { s.eng with lockCount := n }
    if 4 ≤ n then lockAchieved s else s

/-- Push round(I / 1000) into the frequency history ring (R117). -/
def pushRing (s : State) : State :=
  s.withEng { s.eng with ring := pushBounded 16 s.eng.ring (roundDiv s.eng.integral 1000) }

/-- The saturation of a consensus taken as a loop input (R110). -/
def saturateInput (c : Int) : Int := clampAbs Config.limitObservation c

/-! ### Entries (R107, R123, R129) -/

/-- Enter an engine state by the steps of R107: the new state and source, the counters, what the stay in HOLDOVER
leaves (R129), the withdrawal of the exhaustion order (R135); then `atEntry`, the recomputed U, the exhaustion test and
what the change brings. -/
def enterState (st : EngineState) (src : Option Source) (atEntry : State → State) (s : State) : State :=
  let e := s.eng
  let stay : Bool := st = .holdover || st = .freerun
  let t := s.withEng { e with
    state := st
    source := src
    pt := 0
    lockCount := 0
    largeCount := 0
    steerCount := if st = .follow ∧ e.state = .locked then e.steerCount else 0
    disagree := 0
    record := none
    nudge := 0
    lastPrediction := none
    exhaustionOrder := e.exhaustionOrder && stay }
  announce e.state (exhaustionTest (recomputeU (atEntry t)))

/-- F from the integral, on entry to ACQUIRE and FOLLOW (R107, step 6). -/
def setIntegralF (s : State) : State := setF s.eng.integralF s

/-- Enter ACQUIRE on the reference (R107): no input until the next observation (R114). -/
def enterAcquireReference (s : State) : State := enterState .acquire (some .reference) setIntegralF s

/-- Enter ACQUIRE on a tier (R107), taking its held result as the first input at once (R114). -/
def enterAcquireTier (t : Tier) (c : Consensus) (s : State) : State :=
  enterState .acquire (some (.tier t)) (fun s =>
    acquireInput (saturateInput c.value) s.cfg.pointInterval (recordC c t (setIntegralF s))) s

/-- Enter FOLLOW on a tier directly (R107, step 7). -/
def enterFollow (t : Tier) (c : Consensus) (s : State) : State :=
  enterState .follow (some (.tier t)) (fun s => recordC c t (setIntegralF s)) s

/-- Enter HOLDOVER: the record is made before F is set, and the prediction at t = 0 sets F (R123, R125). -/
def enterHoldover (s : State) : State :=
  let r := s.newRecord
  enterState .holdover none (fun s => predict (s.withEng { s.eng with record := some r })) s

/-- Enter FREERUN (R130). -/
def enterFreerun (s : State) : State := enterState .freerun none (fun s => setF (freeRunF s) s) s

/-- An input in LOCKED or FOLLOW (R116): a third consecutive large one goes back to ACQUIRE on the same source and is
its first input, with its counters at 0 (DEDUCED, log entry 13); any other is a loop update, pushed into the ring in
LOCKED and in FOLLOW on TIER1. -/
def trackInput (y : Int) (period tau : Nat) (s : State) : State :=
  let large := if s.cfg.stepThreshold < y.natAbs then s.eng.largeCount + 1 else 0
  if 3 ≤ large then
    acquireInput y period (enterState .acquire s.eng.source setIntegralF s)
  else
    let pushes : Bool := s.eng.state = .locked || s.eng.source = some (.tier .one)
    let s := loopUpdate y period tau (s.withEng { s.eng with largeCount := large })
    if pushes then pushRing s else s

/-! ### Source selection (R105 to R107) -/

/-- What a selection selects (R106). -/
inductive Selected where
  | source (src : Source)
  | holdover
  | freerun
  deriving DecidableEq, Repr

/-- The first case of R106 that holds. -/
def State.selected (s : State) : Selected :=
  if s.mon.qual = .qualified ∧ s.eng.inhibit = false then .source .reference
  else if s.ptu.tier1.consensus.isSome then .source (.tier .one)
  else if s.eng.ring ≠ [] then .holdover
  else if s.ptu.tier2.consensus.isSome then .source (.tier .two)
  else .freerun

/-- Whether the engine is already on a source: LOCKED or FOLLOW on it, or ACQUIRE on it (R107). -/
def State.onSource (s : State) (src : Source) : Bool :=
  s.eng.source = some src &&
    (s.eng.state = .acquire || s.eng.state = (if src = .reference then .locked else .follow))

/-- The outcome of a selection (R107). -/
def applySelection (s : State) : State :=
  match s.selected with
  | .source .reference => if s.onSource .reference then s else enterAcquireReference s
  | .source (.tier t) =>
    if s.onSource (.tier t) then s
    else
      match (s.ptu.tier t).consensus with
      | some c => if c.value.natAbs ≤ s.cfg.stepThreshold then enterFollow t c s else enterAcquireTier t c s
      | none => s
  | .holdover => if s.eng.state = .holdover then s else enterHoldover s
  | .freerun => if s.eng.state = .freerun then s else enterFreerun s

/-- A source selection on any occasion of R105 but the end of warm-up: none in WARMUP and FAULT. -/
def selectSource (s : State) : State := if s.silent then s else applySelection s

/-! ### Inputs from the other blocks -/

/-- An observation handed by the Reference Monitor (R109). The last y is recorded before its input is taken, so that a
STATUS offered at an entry to LOCKED carries the U of this y (DESIGN CHOICE, log entry 14). -/
def takeObservation (y : Int) (s : State) : State :=
  let input : State :=
    if s.eng.inhibit then s
    else if s.eng.state = .locked then
      trackInput y s.cfg.decimation s.cfg.tauRef (recordY y s)
    else if s.eng.state = .acquire ∧ s.eng.source = some .reference then
      acquireInput y s.cfg.decimation (recordY y s)
    else s
  selectSource input

/-- The tier-1 result disagrees with the station (R97). -/
def disagreeing (c : Option Consensus) (threshold : Nat) : Bool :=
  match c with
  | some c => decide (2 ≤ c.count ∧ c.spread ≤ threshold ∧ threshold < c.value.natAbs)
  | none => false

/-- The disagreement check of a point taken in LOCKED (R97): the counter moves; whether the count is reached. -/
def disagreementCheck (s : State) : State × Bool :=
  if s.eng.state = .locked then
    let n := if disagreeing s.ptu.tier1.consensus s.cfg.disagreeThreshold then s.eng.disagree + 1 else 0
    if s.cfg.disagreeCount ≤ n then
      (raise .refDisagree (s.withEng { s.eng with disagree := 0 }), true)
    else (s.withEng { s.eng with disagree := n }, false)
  else (s, false)

/-- A consensus as a loop input at a point, in ACQUIRE or FOLLOW on a tier whose result is present (R110, step 2). -/
def consensusInput (s : State) : State :=
  match s.eng.source with
  | some (.tier t) =>
    match (s.ptu.tier t).consensus with
    | some c =>
      let y := saturateInput c.value
      if s.eng.state = .acquire then acquireInput y s.cfg.pointInterval (recordC c t s)
      else if s.eng.state = .follow then trackInput y s.cfg.pointInterval s.cfg.tauFollow (recordC c t s)
      else s
    | none => s
  | _ => s

/-- The nudge formed from the tier-2 result (R127). -/
def nudgeOf (c : Option Consensus) (tauEns : Nat) : Int :=
  match c with
  | some c => clampAbs 1000 (roundDiv (2000 * c.value) tauEns)
  | none => 0

/-- The nudge at a point in HOLDOVER (R127), with F set at once (R128). -/
def takeNudge (s : State) : State :=
  if s.eng.state = .holdover then
    let n := nudgeOf s.ptu.tier2.consensus s.cfg.tauEns
    let t := match s.ptu.tier2.consensus with
      | some c => recordC c .two s
      | none => s
    setF (clampAbs Config.limitF (t.eng.lastPrediction.getD 0 + n)) (t.withEng { t.eng with nudge := n })
  else s

/-- The engine's work on the results of a point (R110), and whether a disqualification order is to be sent (R98). -/
def takePoint (s : State) : State × Bool :=
  if s.silent then (s, false)
  else
    let (s, order) := disagreementCheck s
    (selectSource (takeNudge (consensusInput s)), order)

/-! ### FAULT (R120, R138) -/

/-- An own attempt for slot `k` that its emptying leaves without a slot: it runs to its end and is not retried. -/
def Bus.orphanAttempt (b : Bus) (k : SlotKind) : Option Attempt :=
  match b.attempt with
  | some a => if a.slot = k then some { a with inSlot := false } else some a
  | none => none

/-- Empty the MARK and FOLLOW slots (R63). -/
def emptyMarkSlots (s : State) : State :=
  let b := { s.bus with mark := none, attempt := s.bus.orphanAttempt .mark }
  s.withBus { b with follow := none, attempt := b.orphanAttempt .follow }

/-- Enter FAULT (R120, R138); a cause that finds the engine in FAULT has no further effect. -/
def enterFault (s : State) : State :=
  if s.eng.state = .fault then s
  else
    let old := s.eng.state
    let t := abortSlot s
    let t := t.withEng { t.eng with
      state := .fault
      source := none
      pt := 0
      ring := []
      lockCount := 0
      largeCount := 0
      steerCount := 0
      disagree := 0
      record := none
      nudge := 0
      lastPrediction := none
      followedU := none
      u := Config.saturatedU
      exhaustionOrder := false }
    announce old (emptyMarkSlots t)

/-- The oscillator monitor reports loss: OSC_LOSS is raised and the engine enters FAULT (R9), in that order (DESIGN
CHOICE, log entry 14). -/
def reportLoss (s : State) : State := enterFault (raise .oscLoss s)

/-- Declare OSC_IN lost (R9): the committed amount is discarded, and the boundary in progress falls at its position
without it. Where that position has already passed, in the stretch of a second that a committed retard lengthens, the
boundary keeps it and is due at once (DESIGN CHOICE, log entry 28). While the loss continues nothing is declared anew
(DEDUCED, log entry 8). -/
def declareLoss (s : State) : State :=
  if s.tsg.osc = .lost then s
  else
    let x := s.tsg.discardCommitted.schedule
    reportLoss (s.withTsg { x with osc := .lost })

end Sys2Proof.Machine
end

