-- ==== Sys2Proof/Machine/Monitor.lean ====
section
/-! DEFINITION. The Reference Monitor: pulses and measurements (R18 to R31), the residual check and its window and ring
(R33 to R38), the qualification state machine (R39 to R46). -/

namespace Sys2Proof.Machine

/-! ### Entries to a qualification state (R30, R40) -/

/-- Empty the observation block (R24). -/
def Monitor.emptyBlock (m : Monitor) : Monitor := { m with blockSum := 0, blockCount := 0, blockOpen := none }

/-- What an entry does to the monitor's own state (R30, R40). -/
def Monitor.entered (m : Monitor) (cfg : Settings) : Qualification → Monitor
  | .absent =>
    { m.emptyBlock with
      qual := .absent, prediction := none, window := [], ordered := none, qualTimer := none, holdoffTimer := none
      consecutiveMissing := 0, lastPulse := none, missingDue := none, held := none }
  | .candidate =>
    { m.emptyBlock with
      qual := .candidate, window := [], ordered := none, qualTimer := some cfg.qualification, holdoffTimer := none
      seedRequest := true }
  | .qualified => { m with qual := .qualified, qualTimer := none, holdoffTimer := none }
  | .disqualified =>
    { m.emptyBlock with
      qual := .disqualified, window := [], ordered := none, qualTimer := none, holdoffTimer := some cfg.holdoff }

/-- Enter a qualification state and report the change to the engine, which makes a source selection (R40, R105). -/
def enterQual (q : Qualification) (s : State) : State :=
  selectSource (s.withMon (s.mon.entered s.cfg q))

/-- A disqualification order from the engine (R46): it acts on a QUALIFIED reference alone. The window it clears is
noted for a residual fault that falls together with it. -/
def orderDisqualification (s : State) : State :=
  if s.mon.qual = .qualified then
    let t := enterQual .disqualified s
    t.withMon { t.mon with ordered := some ⟨s.tsg.now, s.mon.window⟩ }
  else s

/-! ### The residual check (R33 to R37) -/

/-- Write a residual into the history ring (R37): not while frozen. -/
def HistoryRing.write (h : HistoryRing) (r : Int) : HistoryRing :=
  if h.frozen then h
  else
    let p := h.pointer + 1
    { slots := h.slots.set p (clampAbs 32767 r), fill := min 8 (h.fill + 1), pointer := p, frozen := false }

/-- OUT: below LMIN or above LMAX (R33). -/
def residualOut (cfg : Settings) (r : Int) : Bool := r < cfg.lmin || cfg.lmax < r

/-- A residual fault (R36): the ring freezes, the window clears, REF_FAULT is raised, and the reference is disqualified
or its holdoff restarts. -/
def residualFault (s : State) : State :=
  let s := raise .refFault (s.withMon { s.mon with
    history := { s.mon.history with frozen := true }, window := [], ordered := none })
  if s.mon.qual = .disqualified then s.withMon { s.mon with holdoffTimer := some s.cfg.holdoff }
  else enterQual .disqualified s

/-- The observation formed from a sum over `d` measurements (R25), before saturation. -/
def observationOf (sum : Int) (d : Nat) : Int := roundDiv sum d

/-- The block is complete (R25): the observation, saturated with OBS_SAT, becomes the prediction, the block is emptied,
and in QUALIFIED the observation goes to the engine (R26). -/
def completeBlock (s : State) : State :=
  let y := observationOf s.mon.blockSum s.cfg.decimation
  let s := if Config.limitObservation < y.natAbs then raise .obsSat s else s
  let y := clampAbs Config.limitObservation y
  let s := s.withMon { s.mon.emptyBlock with prediction := some y }
  if s.mon.qual = .qualified then takeObservation y s else s

/-- Add a measurement to the observation block (R24), which may complete it. A block opened in LOAD whose count was
already at the D then read completes here, at its next addition, its sum divided by D (DESIGN CHOICE, log entry 24).
-/
def addToBlock (m : Int) (tag : Second) (s : State) : State :=
  let b := s.mon
  let s := s.withMon { b with
    blockSum := b.blockSum + m
    blockCount := b.blockCount + 1
    blockOpen := if b.blockCount = 0 then some tag else b.blockOpen }
  if s.cfg.decimation ≤ s.mon.blockCount then completeBlock s else s

/-- The verdicts among which a new one is tested for a residual fault (R36): those of the window, or, at the instant
of a disqualification order that was taken first, those that the order cleared (R46; DESIGN CHOICE, log entry 26). -/
def State.testedWindow (s : State) : List Bool :=
  match s.mon.ordered with
  | some w => if s.mon.qual = .disqualified ∧ w.instant = s.tsg.now then w.verdicts else s.mon.window
  | none => s.mon.window

/-- The residual check of a corrected measurement (R23, R33 to R36). In ABSENT none reaches it. A verdict IN that finds
the OUT count at or above an LCNT which LOAD has lowered meanwhile is a residual fault too, and its measurement is not
added to the block (DESIGN CHOICE, log entry 35). -/
def checkMeasurement (m : Int) (tag : Second) (s : State) : State :=
  if s.mon.qual = .absent then s
  else
    match s.mon.prediction, s.mon.seedRequest with
    | some p, false =>
      let r := m - p
      let out := residualOut s.cfg r
      let tested := pushBounded s.cfg.lwin s.testedWindow out
      let s := s.withMon { s.mon with
        history := s.mon.history.write r
        window := pushBounded s.cfg.lwin s.mon.window out
        ordered := none }
      if s.cfg.lcnt ≤ outCount tested then residualFault s
      else if out then s
      else addToBlock m tag s
    | _, _ => addToBlock m tag (s.withMon { s.mon with prediction := some m, seedRequest := false })

/-- Measure a pulse against the instant at which its boundary fell (R21, R22). -/
def measure (pulse boundary : Instant) (tag : Second) (s : State) : State :=
  checkMeasurement (fold Config.second (boundary - pulse) + s.cfg.cableDelay + s.tsg.trim) tag s

/-! ### Pulses (R18, R19, R21) -/

/-- The tag of a pulse at `t`: the nearer of the boundary just past and the one scheduled next, the later at equal
distance (R21). -/
def State.tagsNext (s : State) (t : Instant) : Bool := s.tsg.nextBoundary - t ≤ t - s.tsg.lastBoundary

/-- The second count of the tag (R21). -/
def State.tagOf (s : State) (t : Instant) : Second :=
  if s.tagsNext t then secondAfter s.second 1 else s.second

/-- A pulse is extra when it follows the last accepted one by less than 900 ms or has its tag (R18). -/
def State.extraPulse (s : State) (t : Instant) : Bool :=
  match s.mon.lastPulse with
  | some l => t - l.instant < 900000000 || s.tagOf t = l.tag
  | none => false

/-- A rising edge on REF_IN at `t` (R18, R21, R41). -/
def takePulse (t : Instant) (s : State) : State :=
  if s.extraPulse t then s.withMon { s.mon with extraCount := countUp s.mon.extraCount }
  else
    let tag := s.tagOf t
    let next := s.tagsNext t
    let s := s.withMon { s.mon with
      lastPulse := some ⟨t, tag⟩, missingDue := some (t + 1100000000), consecutiveMissing := 0 }
    let s := if s.mon.qual = .absent then enterQual .candidate s else s
    if next then s.withMon { s.mon with held := some ⟨t, tag⟩ } else measure t s.tsg.lastBoundary tag s

/-- A missing-pulse event (R19, R39, R42, R43), while the timer runs. -/
def missingPulse (s : State) : State :=
  match s.mon.missingDue with
  | none => s
  | some d =>
    let n := min 3 (s.mon.consecutiveMissing + 1)
    let s := (s.at d).withMon { s.mon with
      missingCount := countUp s.mon.missingCount, missingDue := some (d + 1000000000), consecutiveMissing := n }
    match s.mon.qual with
    | .candidate =>
      if n = 3 then enterQual .absent s else s.withMon { s.mon with qualTimer := some s.cfg.qualification }
    | .qualified => if n = 3 then enterQual .absent (raise .refLost s) else s
    | _ => s

/-! ### The work of an own boundary (R27, R28, R42, R44, R45) -/

/-- Step 1: an engine-step notice empties the block and sets the seed request (R28). -/
def noticeMonitor (s : State) : State := s.withMon { s.mon.emptyBlock with seedRequest := true }

/-- A block open for more than D + 4 seconds (R27). -/
def State.blockStale (s : State) : Bool :=
  match s.mon.blockOpen with
  | some o => 0 < s.mon.blockCount && s.cfg.decimation + 4 < secondsSince s.second o
  | none => false

/-- Step 4: the held measurement tagged with this boundary is computed (R45). -/
def measureHeld (s : State) : State :=
  let s := s.withMon { s.mon with stage := .idle }
  match s.mon.held with
  | some p =>
    if p.tag = s.second then measure p.instant s.tsg.lastBoundary p.tag (s.withMon { s.mon with held := none }) else s
  | none => s

/-- Step 3: the timer that runs falls by one (R42, R44); at 0 the work stops for the expiry, and otherwise goes on. -/
def countDown (s : State) : State :=
  let m := s.mon
  let q := m.qualTimer.map (· - 1)
  let h := m.holdoffTimer.map (· - 1)
  let due : Bool := (m.qual = .candidate && q = some 0) || (m.qual = .disqualified && h = some 0)
  let s := s.withMon { m with qualTimer := q, holdoffTimer := h, stage := if due then .expiry else .idle }
  if due then s else measureHeld s

/-- Steps 2 to 4 of R45, up to an event that is a command of its own: a stale block, or a timer at 0. -/
def monitorBoundary (engineStep : Bool) (s : State) : State :=
  let s := if engineStep then noticeMonitor s else s
  if s.blockStale then s.withMon { s.mon with stage := .stale } else countDown s

/-- The stale block is emptied (R27) and the monitor's work goes on. -/
def takeStaleBlock (s : State) : State := countDown (s.withMon s.mon.emptyBlock)

/-- The qualification timer has reached 0: QUALIFIED (R42), then the held measurement (R45). -/
def takeQualification (s : State) : State := measureHeld (enterQual .qualified s)

/-- Pulses are present: there is a last accepted pulse and no missing-pulse event since (R39). -/
def Monitor.pulsesPresent (m : Monitor) : Bool := m.lastPulse.isSome && m.consecutiveMissing = 0

/-- The holdoff timer has reached 0: CANDIDATE when pulses are present, ABSENT otherwise (R44), then the held
measurement (R45). -/
def takeHoldoff (s : State) : State :=
  measureHeld (enterQual (if s.mon.pulsesPresent then .candidate else .absent) s)

end Sys2Proof.Machine
end

