-- ==== Sys2Proof/Machine/Peers.lean ====
section
/-! DEFINITION. The Peer Table Unit: pending marks and pairing (R67 to R72), samples and filters (R74 to R80), the work
of an own boundary with the station's own adjustments (R81 to R85), and the site consensus (R89 to R96). -/

namespace Sys2Proof.Machine

/-! ### The pending-mark table (R68, R69) -/

/-- Set slot `a` of the pending-mark table. -/
def PeerUnit.setMark (p : PeerUnit) (a : Fin 16) (m : Option PendingMark) : PeerUnit :=
  { p with marks := p.marks.set a m }

/-- Set entry `a` of the peer table. -/
def PeerUnit.setPeer (p : PeerUnit) (a : Fin 16) (e : Option PeerEntry) : PeerUnit :=
  { p with peers := p.peers.set a e }

/-- A pending mark is lost: the slot empties and the unpaired counter rises (R69, R82); an empty slot is left. -/
def PeerUnit.dropMark (p : PeerUnit) (a : Fin 16) : PeerUnit :=
  match p.marks[a] with
  | some _ => { p.setMark a none with unpaired := countUp p.unpaired }
  | none => p

/-- A MARK handed on from `a` (R68): it fills the slot, a record held there being replaced as unpaired. -/
def takeMark (a : Fin 16) (seq : BitVec 8) (st : Stamp) (s : State) : State :=
  s.withPtu ((s.ptu.dropMark a).setMark a (some ⟨seq, st.ns, st.second, 0, st.instant + 250000000⟩))

/-! ### Samples (R72 to R80) -/

/-- The period of the fold in ns, and in sixteenths of a ns (R72, R78). -/
abbrev period16 : Int := 16000000000

/-- The lead sample (R72). -/
def leadSample (txTime : Nat) (mark : PendingMark) (busDelay : Nat) : Int :=
  fold Config.second ((txTime : Int) - ((mark.rxNs : Int) - busDelay) + mark.correction)

/-- The reported lead Lf (R73). -/
def leadOf (lf16 : Int) : Int := roundDiv lf16 16

/-- Seed an entry (R74); seeding from EMPTY also empties the step-change times and the quarantine. -/
def seedEntry (old : Option PeerEntry) (l : Int) (f : FollowData) (second : Second) : PeerEntry :=
  { state := .learning
    lf16 := some (16 * l)
    cls := f.cls
    u := f.u.toNat
    stepSeen := f.stepCount
    slewing := false
    run := 0
    window := []
    stepTimes := match old with
      | some e => e.stepTimes
      | none => []
    quarantine := match old with
      | some e => e.quarantine
      | none => 0
    lastHeard := second }

/-- Reseed the filter (R76, R79). -/
def PeerEntry.reseed (e : PeerEntry) (l : Int) : PeerEntry := { e with lf16 := some (16 * l), window := [], run := 0 }

/-- What an entry to QUARANTINED sets (R80). -/
def PeerEntry.quarantined (e : PeerEntry) : PeerEntry :=
  { e with state := .quarantined, quarantine := 120, lf16 := none, window := [], stepTimes := [], run := 0 }

/-- The step-change times hold four entries within 600 s (R76). -/
def fourWithin (times : List Second) : Bool :=
  match times.head?, times.getLast? with
  | some a, some b => times.length = 4 && secondsSince b a ≤ 600
  | _, _ => false

/-- A step-count change (R76): whether it quarantines, and the entry after it. -/
def PeerEntry.stepChange (e : PeerEntry) (l : Int) (f : FollowData) (second : Second) : PeerEntry × Bool :=
  let e := { e with stepTimes := pushBounded 4 e.stepTimes second, stepSeen := f.stepCount }
  if fourWithin e.stepTimes then (e.quarantined, true) else (e.reseed l, false)

/-- One step of the filter (R78). -/
def filterStep (lf16 l : Int) (k : Nat) : Int :=
  fold period16 (lf16 + roundDiv (fold period16 (16 * l - lf16)) k)

/-- A sample is OUT when it lies further than the peer limit from the filtered lead (R77). -/
def sampleOut (lf16 l : Int) (limit : Nat) : Bool := limit < (fold Config.second (l - leadOf lf16)).natAbs

/-- A checked sample (R77 to R80): whether it quarantines, and the entry after it. -/
def PeerEntry.checked (e : PeerEntry) (lf16 l : Int) (limit k : Nat) : PeerEntry × Bool :=
  let out := sampleOut lf16 l limit
  let window := pushBounded 8 e.window out
  if out then
    let e := { e with window := window, run := 0 }
    if 3 ≤ outCount window then
      match e.state with
      | .active => (e.quarantined, true)
      | _ => (e.reseed l, false)
    else (e, false)
  else
    let run := min 4 (e.run + 1)
    ({ e with
        window := window
        run := run
        lf16 := some (filterStep lf16 l k)
        state := if e.state = .learning ∧ run = 4 then .active else e.state }, false)

/-- A sample reaches an entry (R74 to R76): the entry after it, and whether it entered QUARANTINED. -/
def takeEntry (old : Option PeerEntry) (l : Int) (f : FollowData) (second : Second) (limit k : Nat) :
    Option PeerEntry × Bool :=
  match old with
  | none => (if f.slewing then none else some (seedEntry none l f second), false)
  | some e0 =>
    let e := { e0 with lastHeard := second }
    if e.state = .quarantined then (some e, false)
    else if f.slewing then (some { e with slewing := true }, false)
    else
      match e.lf16 with
      | none => (some (seedEntry (some e) l f second), false)
      | some lf =>
        let e := { e with cls := f.cls, u := f.u.toNat, slewing := false }
        let (e, q) := if f.stepCount ≠ e.stepSeen then e.stepChange l f second else e.checked lf l limit k
        (some e, q)

/-- Take a sample into the peer table; PEER_QUARANTINE is raised at an entry to QUARANTINED (R80). -/
def takeSample (a : Fin 16) (l : Int) (f : FollowData) (second : Second) (s : State) : State :=
  let (e, q) := takeEntry s.ptu.peers[a] l f second s.cfg.peerLimit s.cfg.filterConstant
  let t := s.withPtu (s.ptu.setPeer a e)
  if q then raise .peerQuarantine t else t

/-- The pending mark that slot `a` has for a FOLLOW (R70): the one held, or, at the very instant of a boundary, the one
that the entry lost by expiring there, so that its sample may come after the boundary (R82; DESIGN CHOICE, log entry
31). -/
def State.markFor (s : State) (a : Fin 16) : Option PendingMark :=
  match s.ptu.marks[a] with
  | some m => some m
  | none => if s.tsg.now = s.tsg.lastBoundary then s.ptu.lapsed[a] else none

/-- The pending mark of `a` is used up by its FOLLOW (R70). -/
def PeerUnit.consume (p : PeerUnit) (a : Fin 16) : PeerUnit := { p.setMark a none with lapsed := p.lapsed.set a none }

/-- A FOLLOW handed on from `a` (R70): paired with the pending mark of its sequence, or an orphan. -/
def takeFollow (a : Fin 16) (f : FollowData) (st : Stamp) (s : State) : State :=
  match s.markFor a with
  | some m =>
    if m.seq = f.seq then
      takeSample a (leadSample f.txTime.toNat m s.cfg.busDelay) f st.second (s.withPtu (s.ptu.consume a))
    else s.withPtu { s.ptu with orphan := countUp s.ptu.orphan }
  | none => s.withPtu { s.ptu with orphan := countUp s.ptu.orphan }

/-! ### Own adjustments (R84, R85) -/

/-- A pending mark captured before boundary `k` takes the correction (R84). -/
def PendingMark.shifted (m : PendingMark) (x : Int) (k : Second) : PendingMark :=
  let d := secondsSince k m.rxSecond
  if 1 ≤ d ∧ d ≤ 2147483647 then { m with correction := m.correction - x } else m

/-- An entry whose filtered lead is present is shifted (R85). -/
def PeerEntry.shifted (e : PeerEntry) (x : Int) : PeerEntry :=
  { e with lf16 := e.lf16.map fun v => fold period16 (v - 16 * x) }

/-- The adjustment notice of amount `x` at boundary `k` (R84, R85). -/
def noticePeers (x : Int) (k : Second) (s : State) : State :=
  s.withPtu { s.ptu with
    marks := s.ptu.marks.map fun m => m.map (·.shifted x k)
    peers := s.ptu.peers.map fun e => e.map (·.shifted x) }

/-! ### The site consensus (R89 to R95) -/

/-- The weight of an uncertainty (R90). -/
def weightOf (u : Nat) : Nat :=
  if u ≤ 100 then 16 else if u ≤ 400 then 8 else if u ≤ 1600 then 4
  else if u ≤ 6400 then 2 else if u ≤ 25600 then 1 else 0

/-- A contributor to a tier: its lead, its uncertainty, its weight. -/
structure Contributor where
  lead : Int
  u : Nat
  weight : Nat
  deriving DecidableEq, Repr

/-- The tier of a class (R91); FREE has none. -/
def tierOf : StationClass → Option Tier
  | .ref => some .one
  | .follow => some .two
  | .hold => some .two
  | .free => none

/-- A peer's contribution to tier `t`, if it makes one (R91). -/
def PeerEntry.contribution (e : PeerEntry) (t : Tier) : Option Contributor :=
  match e.lf16 with
  | some lf =>
    if e.state = .active ∧ e.slewing = false ∧ 0 < weightOf e.u ∧ tierOf e.cls = some t then
      some ⟨leadOf lf, e.u, weightOf e.u⟩
    else none
  | none => none

/-- The station's own contribution: to tier 2, in class HOLD, at lead 0 (R92). -/
def State.ownContribution (s : State) : Tier → Option Contributor
  | .one => none
  | .two => if s.cls = some .hold ∧ 0 < weightOf s.eng.u then some ⟨0, s.eng.u, weightOf s.eng.u⟩ else none

/-- The contributors of a tier: the peers by address, and the station itself (R91, R92). -/
def State.contributors (s : State) (t : Tier) : List Contributor :=
  (s.ptu.peers.toList.filterMap fun e => e.bind (·.contribution t)) ++ (s.ownContribution t).toList

/-- The greatest of a list of leads, above `x`. -/
def greatest (x : Int) : List Contributor → Int
  | [] => x
  | c :: cs => greatest (max x c.lead) cs

/-- The least of a list of leads, below `x`. -/
def least (x : Int) : List Contributor → Int
  | [] => x
  | c :: cs => least (min x c.lead) cs

/-- The least uncertainty, below `u`. -/
def leastU (u : Nat) : List Contributor → Nat
  | [] => u
  | c :: cs => leastU (min u c.u) cs

/-- The weighted sum of the leads. -/
def weightedSum (cs : List Contributor) : Int := sumInt (cs.map fun c => (c.weight : Int) * c.lead)

/-- The total weight. -/
def totalWeight (cs : List Contributor) : Nat := (cs.map (·.weight)).sum

/-- The consensus of a tier's contributors (R93, R94); none without a contributor (R95). -/
def consensusOf : List Contributor → Option Consensus
  | [] => none
  | c :: cs =>
    some { value := roundDiv (weightedSum (c :: cs)) (totalWeight (c :: cs))
           spread := greatest c.lead cs - least c.lead cs
           count := (c :: cs).length
           weight := totalWeight (c :: cs)
           leastU := leastU c.u cs }

/-- Both results of a peer observation point at the present second (R89). -/
def formResults (s : State) : State :=
  s.withPtu { s.ptu with
    tier1 := ⟨consensusOf (s.contributors .one), some s.second⟩
    tier2 := ⟨consensusOf (s.contributors .two), some s.second⟩ }

/-- A peer observation point (R89): the results are formed, held and handed to the engine (R110); an order that its
disagreement check gives goes to the Reference Monitor after the point's own selection (R98, log entry 18). -/
def observationPoint (s : State) : State :=
  let (s, order) := takePoint (formResults s)
  if order then orderDisqualification s else s

/-! ### The work of an own boundary (R83) -/

/-- Entry `a` has not been heard for 50 s (R82). -/
def State.peerExpired (s : State) (a : Fin 16) : Bool :=
  match s.ptu.peers[a] with
  | some e => 50 ≤ secondsSince s.second e.lastHeard
  | none => false

/-- Entry `a` is QUARANTINED with nothing remaining (R81). -/
def State.quarantineOver (s : State) (a : Fin 16) : Bool :=
  match s.ptu.peers[a] with
  | some e => e.state = .quarantined && e.quarantine = 0
  | none => false

/-- The sixteen addresses. -/
def addresses : List (Fin 16) := [0, 1, 2, 3, 4, 5, 6, 7, 8, 9, 10, 11, 12, 13, 14, 15]

/-- Step 4 of R83: the observation point, at a multiple of P after LOAD (R89). -/
def pointDue (s : State) : State :=
  let s := s.withPtu { s.ptu with stage := .idle }
  if s.pwr.state ≠ .load ∧ s.second % s.cfg.pointInterval = 0 then observationPoint s else s

/-- After step 3, the point waits for an entry whose quarantine is over, and so comes after every task of the boundary
(DESIGN CHOICE, log entry 23). -/
def afterQuarantine (s : State) : State :=
  if addresses.any s.quarantineOver then s.withPtu { s.ptu with stage := .quarantine } else pointDue s

/-- Step 3 of R83: quarantine remaining falls by one in every QUARANTINED entry (R81). -/
def countQuarantine (s : State) : State :=
  afterQuarantine (s.withPtu { s.ptu with
    peers := s.ptu.peers.map fun e => e.map fun e =>
      if e.state = .quarantined then { e with quarantine := e.quarantine - 1 } else e })

/-- Step 2 of R83: the countdown waits for an entry that expires. A point that waits so, with its nudge, comes after
every task of the boundary, the engine's and the latch among them, where R83, R92, R99 and R128 allow either order
(DESIGN CHOICE, log entry 23). -/
def afterExpiry (s : State) : State :=
  if addresses.any s.peerExpired then s.withPtu { s.ptu with stage := .expiry } else countQuarantine s

/-- The unit's work for the boundary just taken (R83), up to an event that is a command of its own: an expiry, or the
end of a quarantine. Marks that entries lost at the boundary before are gone. -/
def peersBoundary (notice : Option Int) (s : State) : State :=
  let s := s.withPtu { s.ptu with lapsed := Vector.replicate 16 none }
  afterExpiry (match notice with
    | some x => noticePeers x s.second s
    | none => s)

/-- Entry `a` expires (R82): EMPTY, with its pending mark counted as unpaired, and noted for a sample of the same
instant. -/
def expirePeer (a : Fin 16) (s : State) : State :=
  let p := (s.ptu.setPeer a none).dropMark a
  s.withPtu { p with lapsed := p.lapsed.set a s.ptu.marks[a] }

/-- The quarantine of entry `a` ends (R81): LEARNING, its filtered lead absent. -/
def endQuarantine (a : Fin 16) (s : State) : State :=
  match s.ptu.peers[a] with
  | some e => s.withPtu (s.ptu.setPeer a (some { e with state := .learning, lf16 := none }))
  | none => s

end Sys2Proof.Machine
end

