-- ==== Sys2Proof/Machine/Boundary.lean ====
section
/-! DEFINITION. The own boundary: what the Timescale Generator does (section 1.2), the tasks of the other blocks in the
order they are taken, and the events at a boundary that are commands of their own (log entry 4). -/

namespace Sys2Proof.Machine

/-! ### The Timescale Generator's part (R2, R9, R10, R13) -/

/-- A committed amount that a boundary of a lost or returning OSC_IN discards (R9), with its record (DEDUCED, log entry
9). -/
def Timescale.discardAtBoundary (x : Timescale) : Timescale :=
  match x.committed with
  | some c =>
    let x := if c.kind = .slew ∧ ¬c.first then x.endSlew else x
    { x with committed := none, slot := if c.detached then x.slot else none }
  | none => x

/-- The boundary that falls while OSC_IN is present: Φ fixed for it comes into force, and the committed amount is
applied (R2, R13). -/
def Timescale.reach (x : Timescale) : Timescale :=
  let y := { x with
    boundaryIndex := x.boundaryIndex + 1
    phi := x.phiNext
    lastBoundary := x.nextBoundary
    now := x.nextBoundary
    freqCycle := .whole
    freqMade := 0
    freqFrom := x.nextBoundary }
  match y.committed with
  | some c => y.applyCommitted c
  | none => y

/-- The boundary that falls while OSC_IN is lost: Φ does not change, and the next follows after 1,000,000,000 ns of the
check oscillator (R9). -/
def Timescale.reachLost (x : Timescale) : Timescale :=
  { x.discardAtBoundary with
    boundaryIndex := x.boundaryIndex + 1
    lastBoundary := x.nextBoundary
    now := x.nextBoundary
    nextBoundary := x.nextBoundary + Config.second
    freqCycle := .whole
    freqSteps := 0
    freqMade := 0
    freqFrom := x.nextBoundary }

/-- The first boundary after OSC_IN returned: the origin of oscillator time moves, so that boundary k lies at its place
for the Φ held through the loss (R10; DEDUCED, log entry 10). -/
def Timescale.reachReturned (x : Timescale) : Timescale :=
  let at_ := place (x.boundaryIndex + 1) x.phi
  { x.discardAtBoundary with
    boundaryIndex := x.boundaryIndex + 1
    lastBoundary := at_
    now := at_
    osc := .present
    freqCycle := .whole
    freqMade := 0
    freqFrom := at_ }

/-- The boundary is reached. A held pulse is carried with the origin when that moves, so that it is measured against the
instant the boundary actually fell (R31). -/
def reachBoundary (s : State) : State :=
  let x := s.tsg
  match x.osc with
  | .present => s.withTsg x.reach
  | .lost => s.withTsg x.reachLost
  | .returning =>
    let y := x.reachReturned
    (s.withTsg y).withMon { s.mon with
      held := s.mon.held.map fun p => { p with instant := p.instant + (y.lastBoundary - x.nextBoundary) } }

/-- The notice of the amount applied at the boundary (R16); none while OSC_IN is lost (R9). -/
def Timescale.notice (x : Timescale) : Option Committed := if x.osc = .present then x.committed else none

/-- Latch the F set most recently and schedule the next boundary (R2, R3). -/
def latch (s : State) : State := s.withTsg ({ s.tsg with fInForce := s.tsg.fSet }).schedule

/-! ### The steering limit (R119) -/

/-- The steer-limit counter has reached 600 (R119). -/
def State.steerDue (s : State) : Bool :=
  (s.eng.state = .locked || s.eng.state = .follow) && 600 ≤ s.eng.steerCount

/-- The steering limit is reached: STEER_LIMIT, then FAULT (R119). -/
def takeSteerLimit (s : State) : State := enterFault (raise .steerLimit s)

/-- Take a steering limit that is due. Nothing that could bring the engine an input or a selection comes between the
test that reaches the limit and FAULT (R119). -/
def settleSteer (s : State) : State := if s.steerDue then takeSteerLimit s else s

/-! ### The tasks of the other blocks -/

/-- The engine's work at an own boundary: the warm-up countdown (R104), the steering-limit test (R119), F from the
prediction (R125, R130), U (R131) and the exhaustion test (R134). -/
def engineBoundary (s : State) : State :=
  let e := s.eng
  let atLimit : Bool := s.tsg.fSet = Config.limitF || s.tsg.fSet = -Config.limitF
  let tracks : Bool := e.state = .locked || e.state = .follow
  let s := s.withEng { e with
    warmupLeft := e.warmupLeft - 1
    steerCount := if tracks && atLimit then e.steerCount + 1 else 0 }
  let s := match e.state with
    | .holdover => predict s
    | .freerun => setF (freeRunF s) s
    | _ => s
  exhaustionTest (recomputeU s)

/-- The Learning Unit's work at an own boundary: a conversion starts (R139, log entry 21), TEMP_STALE is raised while
STALE (R140), the aging clock is tested (R146): before a change of engine
state by an event row that the boundary left due (DESIGN CHOICE, log entry 23). -/
def learningBoundary (s : State) : State :=
  let s := s.withLrn { s.lrn with
    converting := true
    agingClock := if s.learningAllowed then s.lrn.agingClock + 1 else 0 }
  if s.lrn.sampling = .stale then raise .tempStale s else s

/-- The scheduled time of the MARK that falls due in the second just opened (R63). -/
def State.markTime (s : State) : Instant := s.tsg.lastBoundary + 20000000 + 25000000 * (s.pwr.address.val : Int)

/-- Whether the second just opened is a multiple of an effective interval; LOAD has none. -/
def State.isMultiple (s : State) : Option Nat → Bool
  | some m => s.second % m = 0
  | none => false

/-- The Bus Interface's work at an own boundary: BUS_OFF raised again (R58), a STATUS whose second closed before its
offer (R65), the MARK and STATUS that fall due in the new second (R63, R65). That BUS_OFF is raised before that STATUS
is built, so that the STATUS shows it (R159), is a choice (DESIGN CHOICE, log entry 34). -/
def busBoundary (s : State) : State :=
  let s := if s.bus.error = .busOff then raise .busOff s else s
  let s := if s.bus.statusDue then offerStatus s else s
  s.withBus { s.bus with
    markDue := if s.isMultiple s.markEff then some s.markTime else none
    statusDue := s.isMultiple s.statusEff }

/-- One task of a boundary at which the notice `c` goes out. A task that can reach the engine finds a steering limit
taken that the engine's own task has reached before it (R119). -/
def runTask (c : Option Committed) : BoundaryTask → State → State
  | .latch => latch
  | .oscillator => fun s => if s.tsg.osc = .lost then reportLoss (settleSteer s) else s
  | .monitor => fun s => monitorBoundary (match c with
      | some c => c.origin = .engine
      | none => false) (settleSteer s)
  | .peers => fun s => peersBoundary (c.map (·.amount)) (settleSteer s)
  | .engine => engineBoundary
  | .learning => learningBoundary
  | .bus => busBoundary

/-- Run each task of a list that has not been run. -/
def runTasks (c : Option Committed) : List BoundaryTask → List BoundaryTask → State → State
  | _, [], s => s
  | done, t :: ts, s => if t ∈ done then runTasks c done ts s else runTasks c (t :: done) ts (runTask c t s)

/-- Every task, in the order used for those an order does not name. -/
def allTasks : List BoundaryTask := [.latch, .oscillator, .monitor, .peers, .engine, .learning, .bus]

/-- The boundary whole: reached, the outputs (R5), the slot's next commitment and the schedule (steps (5) and (6) of
section 1.2), then every task once, those of `order` first (DESIGN CHOICE, log entry 5). What an event row left due
here does (a qualification or holdoff expiry, the end of warm-up, an entry's expiry or end of quarantine, an aging
sample, and a measurement or a point that waits behind one) comes after every task, where the manual allows either
order: after the latch (R3), the oscillator report (R104) and the aging clock's test (R146); the aging sample after
every loop update that a task makes (R147) (DESIGN CHOICE, log entry 23). -/
def ownBoundary (order : List BoundaryTask) (s : State) : State :=
  let c := s.tsg.notice
  let s := commitDue (boundaryOutputs (reachBoundary s))
  runTasks c [] (order ++ allTasks) (s.withTsg s.tsg.schedule)

/-! ### Events due at a boundary, each a command of its own (log entry 4) -/

/-- The aging clock has reached 21,600 (R146). -/
def State.agingDue (s : State) : Bool := agingPeriod ≤ s.lrn.agingClock

/-- Warm-up remaining is 0 and the engine is still in WARMUP after LOAD (R104). -/
def State.warmupDue (s : State) : Bool :=
  s.pwr.state != .load && s.eng.state = .warmup && s.eng.warmupLeft = 0

/-- The recovery count has reached 128 in BUS_OFF (R58). -/
def State.recoveryDue (s : State) : Bool := s.bus.error = .busOff && 128 ≤ s.bus.recovery

/-- The interface leaves BUS_OFF with its counts at 0 (R58), in listen-only too, where R55 has the counts stay as they
are (DESIGN CHOICE, log entry 33). -/
def takeRecovery (s : State) : State :=
  s.withBus { s.bus with error := .errorActive, transmitErrors := 0, receiveErrors := 0, recovery := 0 }

/-- The monitor's work that waits for a timer's expiry. -/
def takeExpiry (s : State) : State :=
  match s.mon.qual with
  | .candidate => takeQualification s
  | .disqualified => takeHoldoff s
  | _ => measureHeld s

/-- Take the monitor's work that is still due. -/
def settleMonitor (s : State) : State :=
  let s := if s.mon.stage = .stale then takeStaleBlock s else s
  if s.mon.stage = .expiry then takeExpiry s else s

/-- Expire every entry of a list that is to expire. -/
def expireAll : List (Fin 16) → State → State
  | [], s => s
  | a :: rest, s => expireAll rest (if s.peerExpired a then expirePeer a s else s)

/-- End every quarantine of a list that is over. -/
def endAll : List (Fin 16) → State → State
  | [], s => s
  | a :: rest, s => endAll rest (if s.quarantineOver a then endQuarantine a s else s)

/-- Take the Peer Table Unit's work that is still due. -/
def settlePeers (s : State) : State :=
  let s := if s.ptu.stage = .expiry then countQuarantine (expireAll addresses s) else s
  if s.ptu.stage = .quarantine then pointDue (endAll addresses s) else s

/-- Nothing that falls due at a boundary, or at the end of a recovery, is left to take. -/
def State.settled (s : State) : Bool :=
  s.mon.stage = .idle && s.ptu.stage = .idle && !s.agingDue && !s.steerDue && !s.warmupDue && !s.recoveryDue

/-- Take what is still due. A command that is not itself one of these events finds it taken (log entry 4). -/
def settle (s : State) : State :=
  if s.running then
    let s := if s.agingDue then takeAgingSample s else s
    let s := settlePeers (settleMonitor (settleSteer s))
    let s := if s.warmupDue then applySelection s else s
    if s.recoveryDue then takeRecovery s else s
  else s

/-! ### How commands are taken -/

/-- The outcome of a command that always completes. -/
abbrev Result := Host.Outcome State Fault Refusal

/-- An event of the running part: what is due is taken first, and a part that is held in reset, or whose second 0 has
not opened, takes no event (DESIGN CHOICE, log entry 3). -/
def event (f : State → State) (s : State) : Result :=
  .next (if s.running then f (settle s) else s)

/-- An event that was left due: taken when it is due, and no event otherwise. -/
def dueEvent (due : State → Bool) (f : State → State) (s : State) : Result :=
  .next (if s.running && due s then f s else s)

end Sys2Proof.Machine
end

