-- ==== Sys2Proof/Machine/BoundaryEvents.lean ====
section
/-! DEFINITION. Commands of the own boundary: the boundary itself and the events that fall due at one. -/

namespace Sys2Proof.Machine

/-- OWN_BOUNDARY (R2). -/
def execOwnBoundary (order : List BoundaryTask) (s : State) : Result := event (ownBoundary order) s

/-- STALE_BLOCK (R27). -/
def execStaleBlock (s : State) : Result :=
  dueEvent (fun s => s.mon.stage = .stale) (fun s => takeStaleBlock (settleSteer s)) s

/-- QUALIFICATION_TIMER_EXPIRY (R42). -/
def execQualificationTimerExpiry (s : State) : Result :=
  dueEvent (fun s => s.mon.stage = .expiry && s.mon.qual = .candidate)
    (fun s => takeQualification (settleSteer s)) s

/-- HOLDOFF_EXPIRY (R44). -/
def execHoldoffExpiry (s : State) : Result :=
  dueEvent (fun s => s.mon.stage = .expiry && s.mon.qual = .disqualified) (fun s => takeHoldoff (settleSteer s)) s

/-- PEER_EXPIRY (R82), of the entry of address `peer`. -/
def execPeerExpiry (peer : Fin 16) (s : State) : Result :=
  dueEvent (fun s => s.ptu.stage = .expiry && s.peerExpired peer)
    (fun s => afterExpiry (expirePeer peer (settleSteer s))) s

/-- QUARANTINE_END (R81), of the entry of address `peer`. -/
def execQuarantineEnd (peer : Fin 16) (s : State) : Result :=
  dueEvent (fun s => s.ptu.stage = .quarantine && s.quarantineOver peer)
    (fun s => afterQuarantine (endQuarantine peer (settleSteer s))) s

/-- STEER_LIMIT_REACHED (R119). -/
def execSteerLimitReached (s : State) : Result := dueEvent State.steerDue takeSteerLimit s

/-- WARMUP_EXPIRY (R104). -/
def execWarmupExpiry (s : State) : Result := dueEvent State.warmupDue applySelection s

/-- AGING_SAMPLE (R147). -/
def execAgingSample (s : State) : Result := dueEvent State.agingDue takeAgingSample s

/-- BUS_OFF_RECOVERY (R58). -/
def execBusOffRecovery (s : State) : Result := dueEvent State.recoveryDue takeRecovery s

end Sys2Proof.Machine
end

