-- ==== Sys2Proof/Machine/Load.lean ====
section
/-! DEFINITION. Resets, the opening of second 0, LOAD and SITE_PWR (R17, R166 to R172, R175). -/

namespace Sys2Proof.Machine

/-! ### The configuration block (R168, R169, R175) -/

/-- An unsigned field of the configuration block. -/
def field (m : Memory) (addr width : Nat) : Nat := readBytes (m.readAll addr width)

/-- A numeric field in use (R169). -/
def inRange (lo hi v : Nat) : Nat := max lo (min hi v)

/-- A time constant in use: clamped, then rounded down to a power of two (R169). -/
def timeConstant (lo hi v : Nat) : Nat := powerBelow (inRange lo hi v)

/-- A field of listed values in use (R169). -/
def listed (values : List Nat) (default v : Nat) : Nat := if v ∈ values then v else default

/-- The bus rate of a code, 500 for any other (R169, R175). -/
def rateOfCode (v : Nat) : BusRate := if v = 0 then .kbit250 else if v = 2 then .kbit1000 else .kbit500

/-- The AUX_OUT mode of a code, PPS copy for any other (R169, R175). -/
def auxOfCode (v : Nat) : AuxMode := if v = 0 then .off else if v = 2 then .sourceIndicator else .ppsCopy

/-- Every field put into use from a block that was read (R169). -/
def readSettings (m : Memory) : Settings :=
  let lwin := inRange 1 32 (field m 19 1)
  { busRate := rateOfCode (field m 2 1)
    busDelay := inRange 0 2000 (field m 3 2)
    cableDelay := field m 5 2
    decimation := inRange 1 64 (field m 7 1)
    pointInterval := inRange 4 64 (field m 8 1)
    tauRef := timeConstant 64 8192 (field m 9 2)
    tauFollow := timeConstant 64 8192 (field m 11 2)
    tauEns := timeConstant 256 16384 (field m 13 2)
    lmin := clamp (-32767) 0 (readSigned (m.readAll 15 2))
    lmax := clamp 0 32767 (readSigned (m.readAll 17 2))
    lwin := lwin
    lcnt := inRange 1 lwin (field m 20 1)
    qualification := inRange 10 3600 (field m 21 2)
    holdoff := inRange 60 3600 (field m 23 2)
    stepThreshold := inRange 100 100000 (field m 25 3)
    lockThreshold := inRange 10 10000 (field m 28 2)
    peerLimit := inRange 20 20000 (field m 30 2)
    filterConstant := listed [2, 4, 8, 16] 8 (field m 32 1)
    markInterval := listed [1, 2, 4, 8] 2 (field m 33 1)
    statusInterval := inRange 1 60 (field m 34 1)
    warmup := inRange 0 3600 (field m 35 2)
    sigmaFloor := inRange 1 10000 (field m 37 2)
    sigmaAging := inRange 0 1000 (field m 39 2)
    holdoverLimit := inRange 100 1000000 (field m 41 3)
    disagreeThreshold := inRange 100 100000 (field m 44 3)
    disagreeCount := inRange 1 16 (field m 47 1)
    slewRate := inRange 1 1000 (field m 48 2)
    auxMode := auxOfCode (field m 50 1)
    muteOnExhaustion := field m 51 1 = 1
    alertEnables := BitVec.ofNat 16 (field m 52 2) }

/-- The stored value of each field that R169 may change. -/
def storedFields (m : Memory) : List Int :=
  [field m 2 1, field m 3 2, field m 7 1, field m 8 1, field m 9 2, field m 11 2, field m 13 2,
   readSigned (m.readAll 15 2), readSigned (m.readAll 17 2), field m 19 1, field m 20 1, field m 21 2, field m 23 2,
   field m 25 3, field m 28 2, field m 30 2, field m 32 1, field m 33 1, field m 34 1, field m 35 2, field m 37 2,
   field m 39 2, field m 41 3, field m 44 3, field m 47 1, field m 48 2, field m 50 1, field m 51 1]

/-- The value in use of each of those fields, as the block would store it. -/
def usedFields (c : Settings) : List Int :=
  [match c.busRate with
    | .kbit250 => 0
    | .kbit500 => 1
    | .kbit1000 => 2,
   c.busDelay, c.decimation, c.pointInterval, c.tauRef, c.tauFollow, c.tauEns, c.lmin, c.lmax, c.lwin, c.lcnt,
   c.qualification, c.holdoff, c.stepThreshold, c.lockThreshold, c.peerLimit, c.filterConstant, c.markInterval,
   c.statusInterval, c.warmup, c.sigmaFloor, c.sigmaAging, c.holdoverLimit, c.disagreeThreshold, c.disagreeCount,
   c.slewRate,
   match c.auxMode with
    | .off => 0
    | .ppsCopy => 1
    | .sourceIndicator => 2,
   if c.muteOnExhaustion then 1 else 0]

/-- The marker is present and the check value matches (R168). -/
def configurationSound (m : Memory) : Bool :=
  m.readAll 0 2 = [196, 23] && (checkSum (m.readAll 0 54)).toNat = field m 54 2

/-- The outcome of the configuration read (R168): the fields put into use, and whether CONFIG_DEFAULTED is raised. -/
def configurationOutcome (acknowledged : Bool) (m : Memory) : Settings × Bool :=
  if acknowledged && configurationSound m then
    (readSettings m, storedFields m != usedFields (readSettings m))
  else ({}, true)

/-- The configuration read ends (R166 step 3, R168): fields into use, the enabled set loaded, then the flags.
An observation block that measurement opened before keeps its sum and count, even where its count is then at D or above
(DESIGN CHOICE, log entry 24), and a timer, window or deadline that then runs keeps what it was started with (DESIGN
CHOICE, log entry 29). -/
def loadConfiguration (acknowledged : Bool) (s : State) : State :=
  let (c, defaulted) := configurationOutcome acknowledged s.eeprom
  let s := refreshOutputs ((s.withCfg c).withScu { s.scu with enabled := c.alertEnables })
  let s := if defaulted then raise .configDefaulted s else s
  let s := if acknowledged then s else raise .storeFault s
  s.withPwr { s.pwr with stage := .learning }

/-- LOAD ends (R170): the RUN state by the filtered level, warm-up remaining, the outputs, a STATUS, and with a warm-up
of 0 the source selection (R104). -/
def endLoad (s : State) : State :=
  let s := s.withPwr { s.pwr with stage := .done, state := if s.pwr.filtered then .runNormal else .runSave }
  let s := s.withEng { s.eng with warmupLeft := s.cfg.warmup }
  let s := offerStatus (refreshOutputs s)
  if s.cfg.warmup = 0 ∧ s.eng.state = .warmup then applySelection s else s

/-- The read of the learning block ends, and LOAD with it (R152, R166 steps 4 and 5). -/
def loadLearning (acknowledged : Bool) (s : State) : State := endLoad (restoreLearning acknowledged s)

/-! ### Resets and the opening of second 0 (R17, R172) -/

/-- Every block takes its power-up values (R172). What lies outside the part stays: the levels at its pins and the
EEPROM, in which a transfer under way is cut (R151). -/
def hardReset (pageTaken : Bool) (s : State) : State :=
  { State.reset with
    eeprom := (cutTransfer pageTaken s).eeprom
    pending := s.pending
    pwr := { Power.reset with
      supplyGood := s.pwr.supplyGood, resetLow := s.pwr.resetLow, sitePwr := s.pwr.sitePwr } }

/-- A check window is good: 9,900 to 10,100 cycles and no gap (R9, R10). -/
def windowGood (cycles : Nat) (gap : Bool) : Bool := 9900 ≤ cycles && cycles ≤ 10100 && !gap

/-- Second 0 opens and LOAD begins (R17, R166): straps and SITE_PWR sampled, the raised set cleared, the first
conversion and the staleness timer started (R139, R140); on the check oscillator, with OSC_IN lost, when the first
window was not good (DEDUCED, log entry 7). The first conversion starts here (DESIGN CHOICE, log entry 21). -/
def openSecond0 (cycles : Nat) (straps : BitVec 4) (sitePwr : Bool) (s : State) : State :=
  let good := windowGood cycles s.tsg.windowGap
  let s := s.withTsg { Timescale.reset with osc := if good then .present else .lost }
  let s := s.withPwr { s.pwr with
    opened := true, state := .load, stage := .configuration
    address := straps.toFin, sitePwr := sitePwr, filtered := sitePwr, filterDue := none }
  let s := s.withScu { s.scu with raised := 0 }
  let s := s.withLrn { s.lrn with converting := true, sampling := .waiting, staleDue := 4000000000 }
  if good then s else reportLoss s

/-! ### SITE_PWR (R171) -/

/-- The filtered level changes: after LOAD the power state changes, AUX_OUT with it, and a STATUS is offered (R171). -/
def changePower (high : Bool) (s : State) : State :=
  let s := s.withPwr { s.pwr with filtered := high, filterDue := none }
  if s.pwr.state = .load then s
  else
    offerStatus (refreshOutputs (s.withPwr { s.pwr with state := if high then .runNormal else .runSave }))

/-- A new level on the pin (R171): it is taken after 100 ms; a level that returns leaves the filter as it was. -/
def sitePwrEdge (t : Instant) (high : Bool) (s : State) : State :=
  if high = s.pwr.sitePwr then s
  else (s.at t).withPwr { s.pwr with
    sitePwr := high, filterDue := if high = s.pwr.filtered then none else some (t + 100000000) }

end Sys2Proof.Machine
end

