-- ==== Sys2Proof/Machine/BusOps.lean ====
section
/-! DEFINITION. The Bus Interface's operations: error counts and states (R56 to R58), listen-only (R54, R55), own
attempts (R59 to R62, R64). -/

namespace Sys2Proof.Machine

/-! ### Error counts and states (R56 to R58) -/

/-- Counts do not change in BUS_OFF and in listen-only (R56). -/
def Bus.countsHeld (b : Bus) : Bool := b.error = .busOff || b.listenOnly

/-- The error state set from the counts, unless in BUS_OFF (R57). -/
def Bus.updateError (b : Bus) : Bus :=
  if b.error = .busOff then b
  else { b with error := if b.transmitErrors < 128 ∧ b.receiveErrors < 128 then .errorActive else .errorPassive }

/-- Eight recessive bit times, in ns, at the bus rate in use (R49, R57). -/
def passiveWait : BusRate → Int
  | .kbit250 => 32000
  | .kbit500 => 16000
  | .kbit1000 => 8000

/-- After an own attempt that ended at `t`: in ERROR_PASSIVE the next one waits (R57). -/
def Bus.afterAttempt (b : Bus) (t : Instant) : Bus :=
  { b with waitSince := if b.error = .errorPassive then some t else none }

/-- Whether an attempt may start at `t` on a bus idle since `idle`, by the ERROR_PASSIVE wait: eight recessive bit times
of the idle bus that follows the last own attempt (R57; DESIGN CHOICE, log entry 27). Only ERROR_PASSIVE waits. -/
def Bus.waitEnded (b : Bus) (rate : BusRate) (t idle : Instant) : Bool :=
  match b.waitSince with
  | some e => b.error != .errorPassive || (e ≤ idle && idle + passiveWait rate ≤ t)
  | none => true

/-- The wait at the edge at `t` of another party's frame, on a bus idle since `idle`: one that has ended by then is over
for good, and one that has not begins anew after the frame (R57; DESIGN CHOICE, log entry 27). -/
def Bus.afterEdge (b : Bus) (rate : BusRate) (t idle : Instant) : Bus :=
  { b with waitSince := if b.waitEnded rate t idle then none else some t }

/-- A transmit error's addition to its count (R56). -/
def Bus.addTransmitError (b : Bus) (kind : BusError) : Bus :=
  if b.countsHeld || (kind = .acknowledgement && b.error = .errorPassive) then b
  else { b with transmitErrors := b.transmitErrors + 8 }

/-- A receive error's addition to its count, which holds at 255 (R56). -/
def Bus.addReceiveError (b : Bus) : Bus :=
  if b.countsHeld then b else { b with receiveErrors := min 255 (b.receiveErrors + 1) }

/-- A completed own attempt takes one from the transmit error count (R56). -/
def Bus.lessTransmitError (b : Bus) : Bus :=
  if b.countsHeld then b else { b with transmitErrors := b.transmitErrors - 1 }

/-- A completed reception takes one from the receive error count (R56). -/
def Bus.lessReceiveError (b : Bus) : Bus :=
  if b.countsHeld then b else { b with receiveErrors := b.receiveErrors - 1 }

/-- A transmit error count above 255 enters BUS_OFF: the flag is raised and the recovery count starts at 0 (R58). -/
def checkBusOff (s : State) : State :=
  if s.bus.error ≠ .busOff ∧ 255 < s.bus.transmitErrors then
    raise .busOff (s.withBus { s.bus with error := .busOff, recovery := 0 })
  else s

/-! ### Address conflict and listen-only (R54, R55) -/

/-- The queue with every slot empty, and no content waiting or held aside (R55, R66); an attempt that is open runs to
its end without its slot. -/
def Bus.emptied (b : Bus) : Bus :=
  { b with
    mark := none, follow := none, status0 := none, status1 := none, wait0 := none, wait1 := none
    alert := none, aside := 0, pages := []
    attempt := b.attempt.map fun a => { a with inSlot := false } }

/-- A finding of R54: ADDR_CONFLICT is raised, and a station not yet listen-only becomes so with its queue emptied. -/
def addressConflict (s : State) : State :=
  let s := raise .addrConflict s
  if s.bus.listenOnly then s else s.withBus { s.bus.emptied with listenOnly := true }

/-! ### Own attempts (R59 to R64) -/

/-- The arbiter's choice among the queued frames (R59). -/
def Bus.arbiter (b : Bus) : Option SlotKind :=
  if b.mark.isSome then some .mark
  else if b.follow.isSome then some .follow
  else if b.alert.isSome then some .alert
  else if b.status0.isSome then some .status0
  else if b.status1.isSome then some .status1
  else if b.pages ≠ [] then some .page
  else none

/-- The frame an attempt for a slot sends; an ALERT's field of all raised flags is taken now (R60, R173). -/
def attemptFrame (k : SlotKind) (s : State) : RawFrame :=
  let b := s.bus
  match k with
  | .mark => ownFrame s 1 (match b.mark with
      | some m => [m.seq]
      | none => [])
  | .follow => ownFrame s 2 (match b.follow with
      | some f => followBytes f.data
      | none => [])
  | .alert => ownFrame s 3 (alertBytes (b.alert.getD 0) s.scu.raised)
  | .status0 => ownFrame s 4 (b.status0.getD [])
  | .status1 => ownFrame s 4 (b.status1.getD [])
  | .page => ownFrame s 5 (match b.pages with
      | p :: _ => p.bytes
      | [] => [])

/-- Whether the station may start an attempt at `t` on a bus idle since `idle` (R59): no frame is in reception, no own
attempt is open, neither BUS_OFF nor listen-only holds, and an ERROR_PASSIVE wait has ended. -/
def State.mayStart (s : State) (t idle : Instant) : Bool :=
  s.bus.joined && s.bus.seen.isNone && s.bus.attempt.isNone && s.bus.error != .busOff && !s.bus.listenOnly &&
    s.bus.waitEnded s.cfg.busRate t idle

/-- What a MARK attempt notes at its drive timestamp (R50). -/
def State.snapshot (s : State) : Snapshot := ⟨s.tsg.stepCount, s.tsg.slewing, s.cls, s.eng.u⟩

/-- An attempt starts at `t` on an idle bus: the drive timestamp, a MARK's snapshot, the frame; the same edge reaches
the station's own receive pin later and is timestamped there (R50, R51; DESIGN CHOICE, log entry 17). -/
def startAttempt (t : Instant) (bus : BusTimes) (s : State) : State :=
  if s.mayStart t bus.idle then
    match s.bus.arbiter with
    | some k =>
      (s.at t).withBus { s.bus with
        attempt := some
          { slot := k, inSlot := true, expired := false, drive := s.stamp t
            snapshot := if k = .mark then some s.snapshot else none
            frame := attemptFrame k s }
        seen := some (s.stampAhead bus.seen)
        waitSince := none }
    | none => s
  else s

/-- The edge of a frame driven by another party reaches the receive pin: it is timestamped (R50), and an ERROR_PASSIVE
wait that has ended is over (R57). -/
def seeEdge (e : BusEdge) (s : State) : State :=
  (s.at e.time).withBus
    { s.bus.afterEdge s.cfg.busRate e.time e.idle with seen := some (s.stamp e.time) }

/-- A MARK is dropped late: MARK_LATE is raised and the marks-late counter rises (R62). -/
def dropMarkLate (s : State) : State :=
  raise .markLate (s.withBus { s.bus with mark := none, marksLate := countUp s.bus.marksLate })

/-- What the end of attempt `a` does to its slot (R60, R61, R62): a sent frame leaves, a failed one stays or is dropped
with its deadline passed; waiting STATUS content and flags held aside go to their slot. -/
def settleSlot (sent : Bool) (a : Attempt) (s : State) : State :=
  let b := s.bus
  if !a.inSlot then s
  else
    match a.slot with
    | .mark => if sent then s.withBus { b with mark := none } else if a.expired then dropMarkLate s else s
    | .follow => if sent || a.expired then s.withBus { b with follow := none } else s
    | .page => if sent || a.expired then s.withBus { b with pages := b.pages.drop 1 } else s
    | .alert =>
      s.withBus { b with
        alert := if sent then (if b.aside = 0 then none else some b.aside) else b.alert.map (· ||| b.aside)
        aside := 0 }
    | .status0 =>
      s.withBus { b with
        status0 := if b.wait0.isSome then b.wait0 else if sent then none else b.status0
        wait0 := none }
    | .status1 =>
      s.withBus { b with
        status1 := if b.wait1.isSome then b.wait1 else if sent then none else b.status1
        wait1 := none }

/-- The FOLLOW of a completed MARK attempt (R64); the snapshot's class is one that FOLLOW frames carry. -/
def followOf (a : Attempt) (n : Snapshot) : FollowData :=
  { seq := a.frame.data.headD 0
    cls := n.cls.getD .free
    txTime := BitVec.ofNat 30 (if a.drive.ns < 1000000000 then a.drive.ns else a.drive.ns - 1000000000)
    stepCount := n.stepCount
    slewing := n.slewing
    u := BitVec.ofNat 21 (min Config.saturatedU n.u) }

/-- Queue the FOLLOW of a completed MARK (R64): not in WARMUP or FAULT, nor for a MARK emptied from its slot meanwhile
(R63, R66); its deadline is 200 ms after the drive timestamp (R62). -/
def queueFollow (a : Attempt) (s : State) : State :=
  match a.snapshot with
  | some n =>
    if a.inSlot && !s.silent && !s.bus.listenOnly then
      s.withBus { s.bus with follow := some ⟨followOf a n, a.drive.instant + 200000000⟩ }
    else s
  | none => s

/-- The open attempt completes at `t` (R61). -/
def completeAttempt (t : Instant) (s : State) : State :=
  match s.bus.attempt with
  | none => s
  | some a =>
    let b := { s.bus with attempt := none, dataErrors := 0, seen := none }
    let b := (b.lessTransmitError.updateError).afterAttempt t
    queueFollow a (settleSlot true a ((s.at t).withBus b))

/-- The open attempt loses arbitration at `t` (R51, R61): the seen timestamp stays with the winning frame. -/
def loseArbitration (t : Instant) (s : State) : State :=
  match s.bus.attempt with
  | none => s
  | some a =>
    let b := { s.bus with attempt := none, dataErrors := 0 }
    settleSlot false a ((s.at t).withBus (b.afterAttempt t))

/-- The open attempt ends at `t` in an error (R51, R54, R56 to R58, R61). Its slot is settled first, so that a MARK
whose deadline passed under it is dropped with MARK_LATE (R62) before a third data-field bit error empties the queue
(R55) (DESIGN CHOICE, log entry 30). -/
def failAttempt (t : Instant) (kind : BusError) (inDataField : Bool) (s : State) : State :=
  match s.bus.attempt with
  | none => s
  | some a =>
    let n := if kind = .bit ∧ inDataField then s.bus.dataErrors + 1 else 0
    let b := { s.bus with attempt := none, seen := none, dataErrors := if 3 ≤ n then 0 else n }
    let s := (s.at t).withBus (b.addTransmitError kind).updateError
    let s := checkBusOff s
    let s := settleSlot false a (s.withBus (s.bus.afterAttempt t))
    if 3 ≤ n then addressConflict s else s

/-- An error while receiving (R51, R56, R57). -/
def failReception (t : Instant) (s : State) : State :=
  if s.bus.attempt.isSome then s
  else (s.at t).withBus { s.bus.addReceiveError.updateError with seen := none }

/-! ### Deadlines and the schedule (R62, R63) -/

/-- The open attempt is marked as past its deadline (R62). -/
def Bus.expireAttempt (b : Bus) : Bus := { b with attempt := b.attempt.map fun a => { a with expired := true } }

/-- The MARK's deadline passes (R62): dropped, or, under attempt, left to the attempt's end. -/
def markDeadline (s : State) : State :=
  match s.bus.mark with
  | none => s
  | some m =>
    let s := s.at m.deadline
    if s.bus.attempting .mark then s.withBus s.bus.expireAttempt else dropMarkLate s

/-- The FOLLOW's deadline passes (R62). -/
def followDeadline (s : State) : State :=
  match s.bus.follow with
  | none => s
  | some f =>
    let s := s.at f.deadline
    if s.bus.attempting .follow then s.withBus s.bus.expireAttempt else s.withBus { s.bus with follow := none }

/-- The deadline of the PAGE at a position of the queue passes (R62). -/
def pageDeadline (i : Fin 2) (s : State) : State :=
  match s.bus.pages[i.val]? with
  | none => s
  | some p =>
    let s := s.at p.deadline
    if i = 0 ∧ s.bus.attempting .page then s.withBus s.bus.expireAttempt
    else s.withBus { s.bus with pages := s.bus.pages.eraseIdx i.val }

/-- The scheduled time of a MARK (R63): queued with the sequence number, which advances, outside LOAD, with a class, and
not in listen-only. A MARK still in the slot is replaced (DESIGN CHOICE, log entry 19). -/
def markFallsDue (s : State) : State :=
  match s.bus.markDue with
  | none => s
  | some t =>
    let s := (s.at t).withBus { s.bus with markDue := none }
    if s.pwr.state ≠ .load ∧ ¬s.silent ∧ ¬s.bus.listenOnly then
      s.withBus { s.bus with mark := some ⟨s.bus.sequence, t + 300000000⟩, sequence := s.bus.sequence + 1 }
    else s

/-- The periodic STATUS (R65, R159), at 600,000,000 ns of its second, or at the boundary that closes it. -/
def statusFallsDue (s : State) : State :=
  if s.bus.statusDue then
    let t := min (s.tsg.lastBoundary + 600000000) s.tsg.nextBoundary
    let s := s.at t
    offerStatus (s.withBus { s.bus with statusDue := false })
  else s

end Sys2Proof.Machine
end

