-- ==== Sys2Proof/Machine/Operands.lean ====
section
/-! DEFINITION. The command handler (R160 to R164): the operands of a COMMAND frame with their checks, the guard window,
and what each command does; the hand-off of received frames (R52, R53). -/

namespace Sys2Proof.Machine

/-! ### Operands and checks (R160 to R162, R174) -/

/-- The flag mask of a command's argument; none above 65,535, which is out of range (R174). -/
def CommandFrame.mask (c : CommandFrame) : Option FlagSet :=
  if c.argument.toNat ≤ 65535 then some (c.argument.extractLsb' 0 16) else none

/-- The signed amount of PHASE_STEP and PHASE_SLEW (R162). -/
def CommandFrame.amount (c : CommandFrame) : Int := c.argument.toInt

/-- The delay, or the page number (R174). -/
def CommandFrame.delay (c : CommandFrame) : Nat := c.byte3.toNat

/-- An amount and a delay in range (R162). -/
def CommandFrame.adjustInRange (c : CommandFrame) : Bool :=
  amount c != 0 && (amount c).natAbs ≤ 499999999 && 1 ≤ delay c && delay c ≤ 15

/-- The own boundary that follows a timestamp, as it stands now (R161). -/
def State.following (s : State) (st : Stamp) : Instant :=
  if st.second = s.second then s.tsg.nextBoundary else s.tsg.lastBoundary

/-- The guard window of R161. -/
def State.inGuard (s : State) (st : Stamp) : Bool :=
  (st.ns : Int) < Config.guard || s.following st - st.instant < Config.guard

/-- Run a command that takes a flag mask, or refuse it INVALID (R160). -/
def withMask (c : CommandFrame) (f : FlagSet → State → State) (s : State) : State :=
  match CommandFrame.mask c with
  | some m => f m s
  | none => refuse .invalid s

/-! ### What each command does (R162) -/

/-- CLEAR_ERRORS (R157). -/
def clearFlags (m : FlagSet) (s : State) : State :=
  s.withScu { s.scu with
    raised := s.scu.raised &&& ~~~m
    cause := if hasFlag m .cmdRefused && hasFlag s.scu.raised .cmdRefused then .none else s.scu.cause }

/-- ALERT_ENABLE (R155). -/
def enableFlags (m : FlagSet) (s : State) : State := s.withScu { s.scu with enabled := s.scu.enabled ||| m }

/-- ALERT_DISABLE (R155). -/
def disableFlags (m : FlagSet) (s : State) : State := s.withScu { s.scu with enabled := s.scu.enabled &&& ~~~m }

/-- ERROR_SET (R157): each named flag is raised as a test. -/
def setFlags (m : FlagSet) (s : State) : State := raiseAll (Flag.all.filter (hasFlag m)) s

/-- PHASE_STEP and PHASE_SLEW: range, state, guard window, then the slot (R12, R160, R161). -/
def commandAdjust (kind : AdjustKind) (c : CommandFrame) (st : Stamp) (s : State) : State :=
  if !CommandFrame.adjustInRange c then refuse .invalid s
  else if s.silent then refuse .state s
  else if s.inGuard st then refuse .late s
  else
    match adjustRefusal kind (CommandFrame.amount c) (CommandFrame.delay c) st s with
    | some cause => refuse cause s
    | none => acceptAdjust kind (CommandFrame.amount c) (CommandFrame.delay c) st s

/-- REF_INHIBIT and REF_RELEASE (R108). -/
def setInhibit (b : Bool) (s : State) : State := selectSource (s.withEng { s.eng with inhibit := b })

/-- HISTORY_RELEASE (R38). -/
def releaseHistory (s : State) : State := s.withMon { s.mon with history := HistoryRing.empty }

/-- TABLE_READ (R163): the page built now and offered; BUSY with both PAGE slots occupied; discarded in listen-only. -/
def readPage (page : Nat) (s : State) : State :=
  if 69 < page then refuse .invalid s
  else if s.bus.listenOnly then s
  else if 2 ≤ s.bus.pages.length then refuse .busy s
  else s.withBus { s.bus with pages := s.bus.pages ++ [⟨pageBytes s page, s.tsg.now + Config.second⟩] }

/-- LEARN_SAVE (R150): BUSY while a save is in flight. -/
def commandSave (s : State) : State := if s.lrn.save.isSome then refuse .busy s else startSave s

/-- LEARN_CLEAR (R149): BUSY while a save is in flight. -/
def commandClear (s : State) : State := if s.lrn.save.isSome then refuse .busy s else clearLearning s

/-! ### RESTART (R164) -/

/-- The Bus Interface's RESTART values (R66). -/
def Bus.restarted (b : Bus) : Bus :=
  { b.emptied with listenOnly := false, dataErrors := 0, badFrames := 0, marksLate := 0 }

/-- The engine's RESTART values (R122, R137), WARMUP or FREERUN by warm-up remaining. -/
def restartEngine (s : State) : State :=
  let e := { s.eng with
    ring := [], lastY := none, lastC := none, inhibit := false, followedU := none, u := Config.saturatedU
    exhaustionOrder := false }
  if 0 < e.warmupLeft then enterState .warmup none id (s.withEng e)
  else enterFreerun (s.withEng e)

/-- The Learning Unit's RESTART values (R153): a save is abandoned, the page write in progress runs on (R151). -/
def Learning.restarted (l : Learning) : Learning :=
  { l with save := none, pageWrite := l.pageWrite.map fun w => { w with ofSave := false } }

/-- RESTART in the order of R164: flags, the Bus Interface, then each other block. -/
def restart (s : State) : State :=
  let s := s.withScu { s.scu with raised := 0, cause := .none }
  let s := abortSlot (s.withBus s.bus.restarted)
  let s := (s.withMon Monitor.reset).withPtu PeerUnit.reset
  let s := restartEngine s
  s.withLrn s.lrn.restarted

/-! ### The handler (R160) -/

/-- A COMMAND whose mask names the station, by its code (R160 step 2, R162, R174). -/
def runCommand (code : Nat) (c : CommandFrame) (st : Stamp) : State → State :=
  match code with
  | 1 => offerStatus
  | 2 => withMask c clearFlags
  | 3 => withMask c enableFlags
  | 4 => withMask c disableFlags
  | 5 => withMask c setFlags
  | 6 => commandAdjust .step c st
  | 7 => commandAdjust .slew c st
  | 8 => abortSlot
  | 9 => setInhibit true
  | 10 => setInhibit false
  | 11 => releaseHistory
  | 12 => readPage (CommandFrame.delay c)
  | 13 => commandSave
  | 14 => commandClear
  | 15 => restart
  | _ => refuse .invalid

/-- The handler: a mask that does not name the station is ignored (R160 step 1). -/
def handleCommand (code : BitVec 8) (c : CommandFrame) (st : Stamp) (s : State) : State :=
  if c.target.getLsbD s.pwr.address.val then runCommand code.toNat c st s else s

/-! ### The hand-off of received frames (R52 to R54) -/

/-- What the reception of a checked frame does (R52, R53), the own address heard aside (R54). -/
def handOver (h : Heard) (st : Stamp) (s : State) : State :=
  match h with
  | .ignored => s
  | .bad => s.withBus { s.bus with badFrames := countUp s.bus.badFrames }
  | .mark a seq => if a = s.pwr.address then addressConflict s else takeMark a seq st s
  | .follow a f => if a = s.pwr.address then addressConflict s else takeFollow a f st s
  | .other a => if a = s.pwr.address then addressConflict s else s
  | .command code c => handleCommand code c st s

/-- A reception completes: the receive error count falls, and the seen timestamp goes with the frame (R51, R56). -/
def endReception (s : State) : State := s.withBus { s.bus.lessReceiveError.updateError with seen := none }

/-- A RESTART. -/
def Heard.isRestart : Heard → Bool
  | .command code _ => code = 15
  | _ => false

/-- The reception of another party's frame completes at `t`. A part off the bus sees none (R49); while an own attempt is
open a frame is the station's own (R51), but a RESTART received before the attempt may be taken then, and finds it open
(R66); a frame has a seen timestamp from its start (R50; DESIGN CHOICE, log entry 17). -/
def receive (t : Instant) (h : Heard) (s : State) : State :=
  match s.bus.seen with
  | some st =>
    if s.bus.joined && s.bus.attempt.isNone then handOver h st (endReception (s.at t))
    else if s.bus.joined && h.isRestart then
      handOver h st ((s.at t).withBus s.bus.lessReceiveError.updateError)
    else s
  | none => s

end Sys2Proof.Machine
end

