-- ==== Sys2Proof/Machine/BusEvents.lean ====
section
/-! DEFINITION. Commands of the cabinet bus: schedules and deadlines, own attempts, errors, and receptions. -/

namespace Sys2Proof.Machine

/-- MARK_DUE (R63). -/
def execMarkDue (s : State) : Result := event markFallsDue s

/-- STATUS_PERIODIC_OFFER (R65). -/
def execStatusPeriodicOffer (s : State) : Result := event statusFallsDue s

/-- TRANSMIT_ATTEMPT_START (R59): the edge is driven at `t` on a bus whose part is `bus`. -/
def execTransmitAttemptStart (t : Instant) (bus : BusTimes) (s : State) : Result := event (startAttempt t bus) s

/-- ATTEMPT_COMPLETED (R61). -/
def execAttemptCompleted (t : Instant) (s : State) : Result := event (completeAttempt t) s

/-- ARBITRATION_LOST (R61). -/
def execArbitrationLost (t : Instant) (s : State) : Result := event (loseArbitration t) s

/-- TRANSMIT_ERROR (R56). -/
def execTransmitError (t : Instant) (kind : BusError) (inDataField : Bool) (s : State) : Result :=
  event (failAttempt t kind inDataField) s

/-- RECEIVE_ERROR (R56): every kind counts alike. A part that is not on the bus receives nothing (R49). -/
def execReceiveError (t : Instant) (_kind : BusError) (s : State) : Result :=
  event (fun s => if s.bus.joined then failReception t s else s) s

/-- MARK_DEADLINE (R62). -/
def execMarkDeadline (s : State) : Result := event markDeadline s

/-- FOLLOW_DEADLINE (R62). -/
def execFollowDeadline (s : State) : Result := event followDeadline s

/-- PAGE_DEADLINE (R62), of the PAGE at that position of the queue. -/
def execPageDeadline (position : Fin 2) (s : State) : Result := event (pageDeadline position) s

/-- FRAME_RECEIVED (R52). -/
def execFrameReceived (t : Instant) (frame : RawFrame) (s : State) : Result := event (receive t (readFrame frame)) s

/-- MARK_FRAME (R68). -/
def execMarkFrame (t : Instant) (source : Fin 16) (seq : BitVec 8) (s : State) : Result :=
  event (receive t (.mark source seq)) s

/-- FOLLOW_FRAME (R70). -/
def execFollowFrame (t : Instant) (source : Fin 16) (data : FollowData) (s : State) : Result :=
  event (receive t (.follow source data)) s

/-- PENDING_TIMER_EXPIRY (R69), of the pending mark of address `peer`. -/
def execPendingTimerExpiry (peer : Fin 16) (s : State) : Result :=
  event (fun s => match s.ptu.marks[peer] with
    | some m => (s.at m.timer).withPtu (s.ptu.dropMark peer)
    | none => s) s

/-- START_OF_FRAME_EDGE_SEEN (R50): the edge of a frame driven by another party is timestamped, which takes an idle
bus. -/
def execStartOfFrameEdgeSeen (edge : BusEdge) (s : State) : Result :=
  event (fun s => if s.bus.joined && s.bus.attempt.isNone then seeEdge edge s else s) s

/-- RECOVERY_COUNT_RISE (R58). -/
def execRecoveryCountRise (s : State) : Result :=
  event (fun s =>
    if s.bus.error = .busOff then s.withBus { s.bus with recovery := s.bus.recovery + 1 } else s) s

end Sys2Proof.Machine
end

