-- ==== Sys2Proof/Machine/ClockEvents.lean ====
section
/-! DEFINITION. Commands of the oscillator monitor, of PPS_OUT, of REF_IN, of the temperature sensor and of the EEPROM
link. -/

namespace Sys2Proof.Machine

/-- PPS_PULSE_END (R5): PPS_OUT falls 100 ms after the boundary at which it rose. -/
def execPpsPulseEnd (s : State) : Result :=
  event (fun s => if s.tsg.ppsOut then endPulse (s.at (s.tsg.lastBoundary + 100000000)) else s) s

/-- OSC_GAP (R9): no edge of OSC_IN for 2 us; the check window that runs is not a good one (R10, R17). -/
def execOscGap (t : Instant) (s : State) : Result :=
  if s.running then
    event (fun s => declareLoss (s.withTsg { s.tsg with now := t, windowGap := true })) s
  else .next (if s.held then s else s.withTsg { s.tsg with windowGap := true })

/-- CHECK_WINDOW_END (R9, R10): a count out of its range declares OSC_IN lost, and a good window found during a loss
declares it present again. The next window starts. -/
def execCheckWindowEnd (t : Instant) (cycles : Nat) (s : State) : Result :=
  event (fun s =>
    let good := windowGood cycles s.tsg.windowGap
    let s := s.withTsg { s.tsg with now := t, windowGap := false }
    if good then (if s.tsg.osc = .lost then s.withTsg { s.tsg with osc := .returning } else s)
    else declareLoss s) s

/-- REF_PULSE (R18, R21). -/
def execRefPulse (t : Instant) (s : State) : Result := event (fun s => takePulse t (s.at t)) s

/-- MISSING_PULSE_EVENT (R19). -/
def execMissingPulseEvent (s : State) : Result := event missingPulse s

/-- TEMPERATURE_CONVERSION_END (R139, R140): a reading in range becomes the last valid one and restarts the staleness
timer. -/
def execTemperatureConversionEnd (t : Instant) (reading : Option Int) (s : State) : Result :=
  event (fun s =>
    if s.lrn.converting then
      let s := (s.at t).withLrn { s.lrn with converting := false }
      match reading with
      | some r =>
        if -440 ≤ r ∧ r ≤ 1000 then
          s.withLrn { s.lrn with lastReading := some r, sampling := .fresh, staleDue := t + 4000000000 }
        else s
      | none => s
    else s) s

/-- STALENESS_TIMER_EXPIRY (R140). -/
def execStalenessTimerExpiry (s : State) : Result :=
  event (fun s =>
    if s.lrn.sampling = .stale then s
    else raise .tempStale ((s.at s.lrn.staleDue).withLrn { s.lrn with sampling := .stale })) s

/-- EEPROM_PAGE_WRITE_DONE (R150). -/
def execEepromPageWriteDone (s : State) : Result := event pageWriteDone s

/-- EEPROM_FAILURE (R151). -/
def execEepromFailure (pageTaken : Bool) (s : State) : Result := event (pageWriteFailed pageTaken) s

end Sys2Proof.Machine
end

