-- ==== Sys2Proof/Machine/Commands.lean ====
section
/-! DEFINITION. The COMMAND frames of the site controller, one for each code of R162, each as the end of its frame's
reception at `t`: the hand-off of R53 and the checks of R160, with the code of R173. -/

namespace Sys2Proof.Machine

/-- INVALID_COMMAND_CODE (R160): a code that R162 does not list is refused. -/
def execInvalidCommandCode (t : Instant) (code : BitVec 8) (c : CommandFrame) (s : State) : Result :=
  event (receive t (.command code c)) s

/-- STATUS_QUERY (R159). -/
def execStatusQuery (t : Instant) (c : CommandFrame) (s : State) : Result :=
  event (receive t (.command 1 c)) s

/-- CLEAR_ERRORS (R157). -/
def execClearErrors (t : Instant) (c : CommandFrame) (s : State) : Result :=
  event (receive t (.command 2 c)) s

/-- ALERT_ENABLE (R155). -/
def execAlertEnable (t : Instant) (c : CommandFrame) (s : State) : Result :=
  event (receive t (.command 3 c)) s

/-- ALERT_DISABLE (R155). -/
def execAlertDisable (t : Instant) (c : CommandFrame) (s : State) : Result :=
  event (receive t (.command 4 c)) s

/-- ERROR_SET (R157). -/
def execErrorSet (t : Instant) (c : CommandFrame) (s : State) : Result :=
  event (receive t (.command 5 c)) s

/-- PHASE_STEP (R12, R161). -/
def execPhaseStep (t : Instant) (c : CommandFrame) (s : State) : Result :=
  event (receive t (.command 6 c)) s

/-- PHASE_SLEW (R12, R161). -/
def execPhaseSlew (t : Instant) (c : CommandFrame) (s : State) : Result :=
  event (receive t (.command 7 c)) s

/-- ADJUST_ABORT (R15). -/
def execAdjustAbort (t : Instant) (c : CommandFrame) (s : State) : Result :=
  event (receive t (.command 8 c)) s

/-- REF_INHIBIT (R108). -/
def execRefInhibit (t : Instant) (c : CommandFrame) (s : State) : Result :=
  event (receive t (.command 9 c)) s

/-- REF_RELEASE (R108). -/
def execRefRelease (t : Instant) (c : CommandFrame) (s : State) : Result :=
  event (receive t (.command 10 c)) s

/-- HISTORY_RELEASE (R38). -/
def execHistoryRelease (t : Instant) (c : CommandFrame) (s : State) : Result :=
  event (receive t (.command 11 c)) s

/-- TABLE_READ (R163). -/
def execTableRead (t : Instant) (c : CommandFrame) (s : State) : Result :=
  event (receive t (.command 12 c)) s

/-- LEARN_SAVE (R150). -/
def execLearnSave (t : Instant) (c : CommandFrame) (s : State) : Result :=
  event (receive t (.command 13 c)) s

/-- LEARN_CLEAR (R149). -/
def execLearnClear (t : Instant) (c : CommandFrame) (s : State) : Result :=
  event (receive t (.command 14 c)) s

/-- RESTART (R164). -/
def execRestart (t : Instant) (c : CommandFrame) (s : State) : Result :=
  event (receive t (.command 15 c)) s

end Sys2Proof.Machine
end

