-- ==== Sys2Proof/Machine/Supply.lean ====
section
/-! DEFINITION. Commands of the supply, of RESET_N, of the opening of second 0, of LOAD, and of the pin SITE_PWR. -/

namespace Sys2Proof.Machine

/-- SUPPLY_GOOD (R172): the supply becomes good; every block takes its power-up values and the first check window of
OSC_IN starts, unless RESET_N is low. A supply that is good already does not become so. -/
def execSupplyGood (s : State) : Result :=
  .next (if s.pwr.supplyGood then s
    else let s := hardReset false s; s.withPwr { s.pwr with supplyGood := true })

/-- SUPPLY_LOSS (R172): the part is held in reset, with the outputs low. -/
def execSupplyLoss (pageTaken : Bool) (s : State) : Result :=
  let s := hardReset pageTaken s
  .next (s.withPwr { s.pwr with supplyGood := false })

/-- RESET_N_ASSERT (R172): a low level of 1 us or more holds the part in reset; a shorter one is ignored. -/
def execResetNAssert (lowNs : Nat) (pageTaken : Bool) (s : State) : Result :=
  if lowNs < 1000 then .next s
  else
    let s := hardReset pageTaken s
    .next (s.withPwr { s.pwr with resetLow := true })

/-- RESET_N_RELEASE (R172): RESET_N rises and the first check window of OSC_IN starts. -/
def execResetNRelease (s : State) : Result := .next (s.withPwr { s.pwr with resetLow := false })

/-- OPEN_SECOND_0 (R17, R166): the first check window of a part out of reset has ended. -/
def execOpenSecond0 (cycles : Nat) (straps : BitVec 4) (sitePwr : Bool) (s : State) : Result :=
  .next (if s.held || s.pwr.opened then s else openSecond0 cycles straps sitePwr s)

/-- CONFIGURATION_READ (R168, R169): the read of the configuration block ends. -/
def execConfigurationRead (acknowledged : Bool) (s : State) : Result :=
  event (fun s => if s.pwr.stage = .configuration then loadConfiguration acknowledged s else s) s

/-- LEARNING_BLOCK_READ (R152, R170): the read of the learning block ends, and LOAD with it. -/
def execLearningBlockRead (acknowledged : Bool) (s : State) : Result :=
  event (fun s => if s.pwr.stage = .learning then loadLearning acknowledged s else s) s

/-- BUS_JOIN (R49): after LOAD, 11 consecutive recessive bits have been seen. -/
def execBusJoin (s : State) : Result :=
  event (fun s => if s.pwr.state = .load then s else s.withBus { s.bus with joined := true }) s

/-- SITE_PWR_EDGE (R171): a new level on the pin, which the filter of a running part takes up. -/
def execSitePwrEdge (t : Instant) (high : Bool) (s : State) : Result :=
  if s.running then event (sitePwrEdge t high) s
  else .next (s.withPwr { s.pwr with sitePwr := high })

/-- SITE_PWR_FILTER_EXPIRY (R171): the level has held for 100 ms. -/
def execSitePwrFilterExpiry (s : State) : Result :=
  event (fun s => match s.pwr.filterDue with
    | some d => changePower s.pwr.sitePwr (s.at d)
    | none => s) s

end Sys2Proof.Machine
end

