-- ==== Sys2Proof/Machine/Dispatch.lean ====
section
/-! DEFINITION. Which meaning each command has: one arm per constructor of `Instr`. -/

namespace Sys2Proof.Machine

def exec (i : Instr) (s : State) : Host.Outcome State Fault Refusal :=
  match i with
  | .supplyGood => Sys2Proof.Machine.execSupplyGood s
  | .supplyLoss pageTaken => Sys2Proof.Machine.execSupplyLoss pageTaken s
  | .resetNAssert lowNs pageTaken => Sys2Proof.Machine.execResetNAssert lowNs pageTaken s
  | .resetNRelease => Sys2Proof.Machine.execResetNRelease s
  | .openSecond0 cycles straps sitePwr => Sys2Proof.Machine.execOpenSecond0 cycles straps sitePwr s
  | .configurationRead acknowledged => Sys2Proof.Machine.execConfigurationRead acknowledged s
  | .learningBlockRead acknowledged => Sys2Proof.Machine.execLearningBlockRead acknowledged s
  | .busJoin => Sys2Proof.Machine.execBusJoin s
  | .ownBoundary order => Sys2Proof.Machine.execOwnBoundary order s
  | .staleBlock => Sys2Proof.Machine.execStaleBlock s
  | .qualificationTimerExpiry => Sys2Proof.Machine.execQualificationTimerExpiry s
  | .holdoffExpiry => Sys2Proof.Machine.execHoldoffExpiry s
  | .peerExpiry peer => Sys2Proof.Machine.execPeerExpiry peer s
  | .quarantineEnd peer => Sys2Proof.Machine.execQuarantineEnd peer s
  | .steerLimitReached => Sys2Proof.Machine.execSteerLimitReached s
  | .warmupExpiry => Sys2Proof.Machine.execWarmupExpiry s
  | .agingSample => Sys2Proof.Machine.execAgingSample s
  | .temperatureConversionEnd t reading => Sys2Proof.Machine.execTemperatureConversionEnd t reading s
  | .stalenessTimerExpiry => Sys2Proof.Machine.execStalenessTimerExpiry s
  | .markDue => Sys2Proof.Machine.execMarkDue s
  | .statusPeriodicOffer => Sys2Proof.Machine.execStatusPeriodicOffer s
  | .ppsPulseEnd => Sys2Proof.Machine.execPpsPulseEnd s
  | .oscGap t => Sys2Proof.Machine.execOscGap t s
  | .checkWindowEnd t cycles => Sys2Proof.Machine.execCheckWindowEnd t cycles s
  | .refPulse t => Sys2Proof.Machine.execRefPulse t s
  | .missingPulseEvent => Sys2Proof.Machine.execMissingPulseEvent s
  | .sitePwrEdge t high => Sys2Proof.Machine.execSitePwrEdge t high s
  | .sitePwrFilterExpiry => Sys2Proof.Machine.execSitePwrFilterExpiry s
  | .transmitAttemptStart t bus => Sys2Proof.Machine.execTransmitAttemptStart t bus s
  | .attemptCompleted t => Sys2Proof.Machine.execAttemptCompleted t s
  | .arbitrationLost t => Sys2Proof.Machine.execArbitrationLost t s
  | .transmitError t kind inDataField => Sys2Proof.Machine.execTransmitError t kind inDataField s
  | .receiveError t kind => Sys2Proof.Machine.execReceiveError t kind s
  | .busOffRecovery => Sys2Proof.Machine.execBusOffRecovery s
  | .markDeadline => Sys2Proof.Machine.execMarkDeadline s
  | .followDeadline => Sys2Proof.Machine.execFollowDeadline s
  | .pageDeadline position => Sys2Proof.Machine.execPageDeadline position s
  | .frameReceived t frame => Sys2Proof.Machine.execFrameReceived t frame s
  | .markFrame t source seq => Sys2Proof.Machine.execMarkFrame t source seq s
  | .followFrame t source data => Sys2Proof.Machine.execFollowFrame t source data s
  | .pendingTimerExpiry peer => Sys2Proof.Machine.execPendingTimerExpiry peer s
  | .invalidCommandCode t code c => Sys2Proof.Machine.execInvalidCommandCode t code c s
  | .statusQuery t c => Sys2Proof.Machine.execStatusQuery t c s
  | .clearErrors t c => Sys2Proof.Machine.execClearErrors t c s
  | .alertEnable t c => Sys2Proof.Machine.execAlertEnable t c s
  | .alertDisable t c => Sys2Proof.Machine.execAlertDisable t c s
  | .errorSet t c => Sys2Proof.Machine.execErrorSet t c s
  | .phaseStep t c => Sys2Proof.Machine.execPhaseStep t c s
  | .phaseSlew t c => Sys2Proof.Machine.execPhaseSlew t c s
  | .adjustAbort t c => Sys2Proof.Machine.execAdjustAbort t c s
  | .refInhibit t c => Sys2Proof.Machine.execRefInhibit t c s
  | .refRelease t c => Sys2Proof.Machine.execRefRelease t c s
  | .historyRelease t c => Sys2Proof.Machine.execHistoryRelease t c s
  | .tableRead t c => Sys2Proof.Machine.execTableRead t c s
  | .learnSave t c => Sys2Proof.Machine.execLearnSave t c s
  | .learnClear t c => Sys2Proof.Machine.execLearnClear t c s
  | .restart t c => Sys2Proof.Machine.execRestart t c s
  | .eepromPageWriteDone => Sys2Proof.Machine.execEepromPageWriteDone s
  | .eepromFailure pageTaken => Sys2Proof.Machine.execEepromFailure pageTaken s
  | .startOfFrameEdgeSeen edge => Sys2Proof.Machine.execStartOfFrameEdgeSeen edge s
  | .recoveryCountRise => Sys2Proof.Machine.execRecoveryCountRise s

end Sys2Proof.Machine
end

