-- ==== Sys2Proof/Machine/Step.lean ====
section
/-! DEFINITION. The step: the command at the front of the queue runs; with none waiting the part idles. -/

namespace Sys2Proof.Machine

/-- One step: take the command at the front of the queue and run it with the queue's rest. On an empty queue nothing
happens: what time alone brings is a command too, sent by the clock that brings it (DESIGN CHOICE, log entry 3). -/
def step (s : State) : Host.Outcome State Fault Refusal :=
  match s.pending with
  | [] => .next s
  | i :: rest => exec i (s.withPending rest)

/-- `s` with the command that a word spells put at the front of its queue; unchanged where the word spells none. The
table gives no bits, so none does (log entry 20). -/
def State.withFetchWord (s : State) (nbits w : Nat) : State :=
  match Sys2Proof.decodeTableWord nbits w with
  | some i => s.withPending (i :: s.pending)
  | none => s

end Sys2Proof.Machine
end

