-- ==== Sys2Proof/WellFormed.lean ====
section
/-! DEFINITION. Which commands can be an event of the ES216 at all, whatever its state: the checks on their operands. A
command that fails a check is still given a meaning by `exec`; no claim about the hardware is made of it. -/

namespace Sys2Proof

/-- A classical CAN data frame carries at most eight data bytes, and a remote frame none (R49, R52). -/
def RawFrame.wellFormed (f : RawFrame) : Bool := f.data.length ≤ 8 && (!f.remote || f.data.isEmpty)

/-- A boundary's tasks are taken once each. -/
def orderWellFormed (order : List BoundaryTask) : Bool := decide order.Nodup

/-- An edge is driven on a bus that is idle by then, and reaches the station's own receive pin when it is driven, or
later (R50). -/
def edgeWellFormed (t : Instant) (bus : BusTimes) : Bool := bus.idle ≤ t && t ≤ bus.seen

/-- An edge of another party's frame follows an idle bus (R50). -/
def BusEdge.wellFormed (e : BusEdge) : Bool := e.idle ≤ e.time

/-- Only a bit error is told apart by the data field (R54, R56). -/
def transmitErrorWellFormed (kind : BusError) (inDataField : Bool) : Bool := !inDataField || kind = .bit

/-- An acknowledgement error is found by the station that transmits (R56). -/
def receiveErrorWellFormed (kind : BusError) : Bool := kind ≠ .acknowledgement

/-- The codes of the command table run from 1 to 15; INVALID_COMMAND_CODE carries any other (R174). -/
def codeUnlisted (code : BitVec 8) : Bool := code = 0 || 15 < code.toNat

/-- The checks of a command. -/
def Instr.wellFormed : Instr → Bool
  | .ownBoundary order => orderWellFormed order
  | .transmitAttemptStart t bus => edgeWellFormed t bus
  | .startOfFrameEdgeSeen edge => edge.wellFormed
  | .transmitError _ kind inDataField => transmitErrorWellFormed kind inDataField
  | .receiveError _ kind => receiveErrorWellFormed kind
  | .frameReceived _ frame => frame.wellFormed
  | .invalidCommandCode _ code _ => codeUnlisted code
  | .supplyGood => true
  | .supplyLoss _ => true
  | .resetNAssert _ _ => true
  | .resetNRelease => true
  | .openSecond0 _ _ _ => true
  | .configurationRead _ => true
  | .learningBlockRead _ => true
  | .busJoin => true
  | .staleBlock => true
  | .qualificationTimerExpiry => true
  | .holdoffExpiry => true
  | .peerExpiry _ => true
  | .quarantineEnd _ => true
  | .steerLimitReached => true
  | .warmupExpiry => true
  | .agingSample => true
  | .temperatureConversionEnd _ _ => true
  | .stalenessTimerExpiry => true
  | .markDue => true
  | .statusPeriodicOffer => true
  | .ppsPulseEnd => true
  | .oscGap _ => true
  | .checkWindowEnd _ _ => true
  | .refPulse _ => true
  | .missingPulseEvent => true
  | .sitePwrEdge _ _ => true
  | .sitePwrFilterExpiry => true
  | .attemptCompleted _ => true
  | .arbitrationLost _ => true
  | .busOffRecovery => true
  | .markDeadline => true
  | .followDeadline => true
  | .pageDeadline _ => true
  | .markFrame _ _ _ => true
  | .followFrame _ _ _ => true
  | .pendingTimerExpiry _ => true
  | .statusQuery _ _ => true
  | .clearErrors _ _ => true
  | .alertEnable _ _ => true
  | .alertDisable _ _ => true
  | .errorSet _ _ => true
  | .phaseStep _ _ => true
  | .phaseSlew _ _ => true
  | .adjustAbort _ _ => true
  | .refInhibit _ _ => true
  | .refRelease _ _ => true
  | .historyRelease _ _ => true
  | .tableRead _ _ => true
  | .learnSave _ _ => true
  | .learnClear _ _ => true
  | .restart _ _ => true
  | .eepromPageWriteDone => true
  | .eepromFailure _ => true
  | .recoveryCountRise => true

end Sys2Proof
end

