-- ==== Sys2Proof/Safety.lean ====
section
/-! DEFINITION. The words that claims use: when a part is ready for a command, which commands find what is due taken
first, how a received frame stands to its command, and the invariants that a run keeps. -/

namespace Sys2Proof.Machine

/-! ### Readiness -/

/-- The part runs, and nothing that fell due at a boundary is left to take. -/
def State.ready (s : State) : Bool := s.running && s.settled

/-- The part is ready, on the bus, with no own attempt open, and a frame whose start of frame it timestamped `st` is on
the bus. -/
def State.hears (s : State) (st : Stamp) : Bool :=
  s.ready && s.bus.joined && s.bus.attempt.isNone && decide (s.bus.seen = some st)

/-- The state in which a received frame is handed over at `t`: the reception has ended (R51, R56). -/
def State.heard (s : State) (t : Instant) : State := endReception (s.at t)

/-- A COMMAND's target mask names the station (R160). -/
def isNamed (c : CommandFrame) (s : State) : Bool := c.target.getLsbD s.pwr.address.val

/-- Every block but the power controller holds its power-up values (R172). -/
structure State.BlocksReset (s : State) : Prop where
  timescale : s.tsg = Timescale.reset
  monitor : s.mon = Monitor.reset
  bus : s.bus = Bus.reset
  peers : s.ptu = PeerUnit.reset
  engine : s.eng = Engine.reset
  learning : s.lrn = Learning.reset
  status : s.scu = StatusUnit.reset
  settings : s.cfg = {}

/-- No pulse is held for the boundary just taken. -/
def State.NoHeldPulse (s : State) : Prop := ∀ p, s.mon.held = some p → p.tag ≠ s.second

/-- A command that must find everything due taken: every one but the supply, RESET_N and the opening of second 0, and
the events that are themselves due at a boundary. -/
def takesDueFirst : Instr → Bool
  | .supplyGood | .supplyLoss _ | .resetNAssert _ _ | .resetNRelease | .openSecond0 _ _ _ => false
  | .staleBlock | .qualificationTimerExpiry | .holdoffExpiry | .peerExpiry _ | .quarantineEnd _ => false
  | .steerLimitReached | .warmupExpiry | .agingSample | .busOffRecovery => false
  | _ => true

/-- The commands that reset the whole part (R172). -/
def isReset : Instr → Bool
  | .supplyGood | .supplyLoss _ | .resetNAssert _ _ => true
  | _ => false

/-- The COMMAND, if any, that a command brings: its code and its frame. -/
def commandOf : Instr → Option (BitVec 8 × CommandFrame)
  | .frameReceived _ f =>
    match readFrame f with
    | .command code c => some (code, c)
    | _ => none
  | .invalidCommandCode _ code c => some (code, c)
  | .statusQuery _ c => some (1, c)
  | .clearErrors _ c => some (2, c)
  | .alertEnable _ c => some (3, c)
  | .alertDisable _ c => some (4, c)
  | .errorSet _ c => some (5, c)
  | .phaseStep _ c => some (6, c)
  | .phaseSlew _ c => some (7, c)
  | .adjustAbort _ c => some (8, c)
  | .refInhibit _ c => some (9, c)
  | .refRelease _ c => some (10, c)
  | .historyRelease _ c => some (11, c)
  | .tableRead _ c => some (12, c)
  | .learnSave _ c => some (13, c)
  | .learnClear _ c => some (14, c)
  | .restart _ c => some (15, c)
  | _ => none

/-- A command that brings a COMMAND of that code. -/
def carries (i : Instr) (code : BitVec 8) : Bool :=
  match commandOf i with
  | some (k, _) => k = code
  | none => false

/-! ### Numbers in bytes -/

/-- The bytes of a number, most significant first, in two's complement. -/
def bytesOf (width : Nat) (v : Int) : List Nat :=
  (List.range width).map fun i => (v / 256 ^ (width - 1 - i) % 256).toNat

/-- The unsigned number that lies in `width` bytes of a memory, most significant first. -/
def Memory.unsigned (m : Memory) (a width : Nat) : Nat :=
  ((List.range width).map fun i => (Memory.read m (a + i)).toNat * 256 ^ (width - 1 - i)).sum

/-- The number that lies there in two's complement. -/
def Memory.signed (m : Memory) (a width : Nat) : Int :=
  if 2 * Memory.unsigned m a width < 256 ^ width then Memory.unsigned m a width
  else (Memory.unsigned m a width : Int) - 256 ^ width

/-! ### Invariants -/

/-- The EEPROM's contents are in their canonical form. -/
def State.EepromCanonical (s : State) : Prop := Memory.wf s.eeprom = true

/-- While a mute cause holds, PPS_OUT and FREQ_OUT are low, and AUX_OUT too in PPS copy mode (R8). -/
def State.MuteObeyed (s : State) : Prop :=
  s.muteCause = true →
    s.tsg.outputsRunning = false ∧ s.tsg.ppsOut = false ∧ (s.cfg.auxMode = .ppsCopy → s.tsg.auxOut = false)

/-- In listen-only every slot of the transmit queue is empty, nothing waits or is held aside, and an attempt that is
still open has no slot (R55). -/
structure State.ListenOnlyQuiet (s : State) : Prop where
  mark : s.bus.listenOnly = true → s.bus.mark = none
  follow : s.bus.listenOnly = true → s.bus.follow = none
  status0 : s.bus.listenOnly = true → s.bus.status0 = none ∧ s.bus.wait0 = none
  status1 : s.bus.listenOnly = true → s.bus.status1 = none ∧ s.bus.wait1 = none
  alert : s.bus.listenOnly = true → s.bus.alert = none ∧ s.bus.aside = 0
  pages : s.bus.listenOnly = true → s.bus.pages = []
  attempt : s.bus.listenOnly = true → ∀ a, s.bus.attempt = some a → a.inSlot = false

/-- The next boundary stands where R2 places it for F in force and the committed amount, while OSC_IN is present, and
FREQ_OUT takes up F alone by then in whole ns (R6). -/
structure Timescale.Scheduled (x : Timescale) : Prop where
  phi : x.osc = .present → x.phiNext = narrowPhi (x.phi + x.fInForce + 1000 * x.committedAmount)
  next : x.osc = .present → x.nextBoundary = place (x.boundaryIndex + 1) x.phiNext
  steps : x.osc = .present →
    x.freqSteps = x.lastBoundary + 1000000000 - place (x.boundaryIndex + 1) (narrowPhi (x.phi + x.fInForce))

/-- What is committed or waits in the slot: the remaining amount has the sign of the requested amount and at most its
magnitude, and a committed amount that still has its record takes no more than what remains (R11, R13). -/
structure Timescale.SlotSound (x : Timescale) : Prop where
  remaining : ∀ r, x.slot = some r →
    (0 < r.requested ∧ 0 < r.remaining ∧ r.remaining ≤ r.requested) ∨
    (r.requested < 0 ∧ r.requested ≤ r.remaining ∧ r.remaining < 0)
  committed : ∀ c, x.committed = some c → c.detached = false → ∃ r, x.slot = some r ∧
    ((0 < r.remaining ∧ 0 ≤ c.amount ∧ c.amount ≤ r.remaining) ∨
     (r.remaining < 0 ∧ r.remaining ≤ c.amount ∧ c.amount ≤ 0))

/-- The counters that hold at 65,535 (R20, R52, R62, R71, R142), the receive error count that holds at 255 (R56). -/
structure State.CountersHeld (s : State) : Prop where
  extra : s.mon.extraCount ≤ 65535
  missing : s.mon.missingCount ≤ 65535
  badFrames : s.bus.badFrames ≤ 65535
  marksLate : s.bus.marksLate ≤ 65535
  unpaired : s.ptu.unpaired ≤ 65535
  orphan : s.ptu.orphan ≤ 65535
  receive : s.bus.receiveErrors ≤ 255
  updates : ∀ i : Fin 64, s.lrn.table[i].count ≤ 65535

/-- The limits of what steers the timescale: F, I, the trim, the learned means, A (R13, R111, R142, R148), and of U
(R131). -/
structure State.SteeringBounded (s : State) : Prop where
  set : s.tsg.fSet.natAbs ≤ 2000000
  inForce : s.tsg.fInForce.natAbs ≤ 2000000
  integral : s.eng.integral.natAbs ≤ 2000000000000
  trim : s.tsg.trim.natAbs ≤ 1000000
  means : ∀ i : Fin 64, s.lrn.table[i].mean.natAbs ≤ 2000000000
  aging : s.lrn.rate.natAbs ≤ 1000
  uncertainty : s.eng.u ≤ 2097151

/-- LOCKED, and ACQUIRE on the reference, only with the reference QUALIFIED and not inhibited (R116). -/
structure State.ReferenceTrusted (s : State) : Prop where
  locked : s.eng.state = .locked → s.eng.source = some .reference
  trusted : (s.eng.state = .locked ∨ s.eng.state = .acquire) → s.eng.source = some .reference →
    s.mon.qual = .qualified ∧ s.eng.inhibit = false

/-- What the engine's record holds in each state: a source exactly in the states that steer to one, the holdover record
and its prediction in HOLDOVER alone, each counter in the states that count it alone, the exhaustion order in HOLDOVER
and FREERUN alone (R99, R107, R123, R129, R135). -/
structure Engine.RecordFits (e : Engine) : Prop where
  locked : e.state = .locked → e.source = some .reference
  follow : e.state = .follow → ∃ k, e.source = some (.tier k)
  acquire : e.state = .acquire → e.source ≠ none
  sourceless : e.state ≠ .locked → e.state ≠ .follow → e.state ≠ .acquire → e.source = none
  record : e.state = .holdover ↔ e.record ≠ none
  nudge : e.state ≠ .holdover → e.nudge = 0 ∧ e.lastPrediction = none
  lockCount : e.state ≠ .acquire → e.lockCount = 0
  tracking : e.state ≠ .locked → e.state ≠ .follow → e.largeCount = 0 ∧ e.steerCount = 0
  disagree : e.state ≠ .locked → e.disagree = 0
  order : e.exhaustionOrder = true → e.state = .holdover ∨ e.state = .freerun

/-- The station's own entry and its own pending mark are empty once second 0 has opened, and every entry before (R67,
R73). -/
structure State.OwnEntryEmpty (s : State) : Prop where
  before : s.pwr.opened = false → ∀ a : Fin 16, s.ptu.peers[a] = none ∧ s.ptu.marks[a] = none
  own : s.ptu.peers[s.pwr.address] = none ∧ s.ptu.marks[s.pwr.address] = none

/-- The capacities of the rings and of the PAGE slots (R37, R59, R117, R147). -/
structure State.WithinCapacity (s : State) : Prop where
  frequency : s.eng.ring.length ≤ 16
  aging : s.lrn.aging.length ≤ 8
  history : s.mon.history.fill ≤ 8
  pages : s.bus.pages.length ≤ 2
  lock : s.eng.lockCount < 4

end Sys2Proof.Machine
end

