-- ==== Sys2Proof/Certificates/Slice0/Obligations.lean ====
section
/-! DEFINITION. The statements for the provers. A statement about a command names in its hypotheses the state and the
operands alone, and concludes with the next state. Where a statement rests on a choice of the model and not on a rule of
the manual, its docstring names the log entry. -/

open Sys2Proof Sys2Proof.Machine

/-! ### The queue, and what is due -/

/-- A step runs the command at the front of the queue with the queue's rest; on an empty queue the part idles, which is
the model's choice (log entry 3). -/
def Obligations.StepRunsFrontCommand : Prop :=
  (∀ (s : State) (i : Instr) (rest : List Instr), s.pending = i :: rest → step s = exec i (s.withPending rest)) ∧
  (∀ s : State, s.pending = [] → step s = .next s)

/-- What fell due at a boundary is taken before any other command of the running part, and taking it leaves nothing due.
A steering limit that is due comes before the rows of the monitor and of the peers (R119). Every command completes in
every state and leaves the queue as it was: the ES216 has no stop (log entries 3 and 4). -/
def Obligations.DueWorkTakenFirst : Prop :=
  (∀ (i : Instr) (s : State), takesDueFirst i = true → s.running = true → exec i s = exec i (settle s)) ∧
  (∀ s : State, s.running = true → (settle s).settled = true ∧ (settle s).running = true) ∧
  (∀ s : State, s.running = true → s.steerDue = true →
    (s.mon.stage = .stale → exec .staleBlock s = exec .staleBlock (takeSteerLimit s)) ∧
    (s.mon.stage = .expiry → s.mon.qual = .candidate →
      exec .qualificationTimerExpiry s = exec .qualificationTimerExpiry (takeSteerLimit s)) ∧
    (s.mon.stage = .expiry → s.mon.qual = .disqualified →
      exec .holdoffExpiry s = exec .holdoffExpiry (takeSteerLimit s)) ∧
    (∀ a, s.ptu.stage = .expiry → s.peerExpired a = true →
      exec (.peerExpiry a) s = exec (.peerExpiry a) (takeSteerLimit s)) ∧
    (∀ a, s.ptu.stage = .quarantine → s.quarantineOver a = true →
      exec (.quarantineEnd a) s = exec (.quarantineEnd a) (takeSteerLimit s))) ∧
  (∀ (i : Instr) (s : State), ∃ t, exec i s = .next t ∧ t.pending = s.pending)

/-! ### Supply, reset, LOAD, SITE_PWR (chapters 1 and 11) -/

/-- SUPPLY_LOSS and RESET_N_ASSERT hold the part in reset with every block at its power-up values, its outputs low and
ALERT_N released; the EEPROM changes at most in the page being written; a low level under 1 us is ignored (R172). What
a block holds before second 0 opens, where R172 names power-up values and the manual gives none, is the model's
choice: instants, settings, address, levels, warm-up and staleness, with the SITE_PWR level kept over the reset (log
entry 2), no work left over (log entry 4), the last cycle of FREQ_OUT (log entry 19), OSC_IN present (log entry 32).
-/
def Obligations.ResetHoldsThePart : Prop :=
  ∀ (s : State) (pageTaken : Bool),
    (∃ t, exec (.supplyLoss pageTaken) s = .next t ∧ t.BlocksReset ∧ t.held = true ∧ t.running = false ∧
      t.pwr = { Power.reset with supplyGood := false, resetLow := s.pwr.resetLow, sitePwr := s.pwr.sitePwr } ∧
      t.tsg.outputsRunning = false ∧ t.tsg.ppsOut = false ∧ t.tsg.auxOut = false ∧ t.alertLow = false ∧
      t.pending = s.pending ∧
      (∀ a, (∀ w, s.lrn.pageWrite = some w → a < w.addr.toNat ∨ w.addr.toNat + w.bytes.length ≤ a) →
        Memory.read t.eeprom a = Memory.read s.eeprom a)) ∧
    (∀ lowNs, 1000 ≤ lowNs → ∃ t, exec (.resetNAssert lowNs pageTaken) s = .next t ∧ t.BlocksReset ∧
      t.held = true ∧ t.running = false ∧
      t.pwr = { Power.reset with supplyGood := s.pwr.supplyGood, resetLow := true, sitePwr := s.pwr.sitePwr } ∧
      t.tsg.outputsRunning = false ∧ t.tsg.ppsOut = false ∧ t.tsg.auxOut = false ∧ t.alertLow = false ∧
      t.pending = s.pending ∧
      (∀ a, (∀ w, s.lrn.pageWrite = some w → a < w.addr.toNat ∨ w.addr.toNat + w.bytes.length ≤ a) →
        Memory.read t.eeprom a = Memory.read s.eeprom a)) ∧
    (∀ lowNs, lowNs < 1000 → exec (.resetNAssert lowNs pageTaken) s = .next s)

/-- SUPPLY_GOOD ends the hold of a bad supply with every block at its power-up values, and RESET_N_RELEASE that of
RESET_N (R172); a supply already good does not become so (log entry 3). What a block holds before second 0 opens,
where R172 names power-up values and the manual gives none, is the model's choice: instants, settings, address,
levels, warm-up and staleness, with the SITE_PWR level kept over the reset (log entry 2), no work left over (log entry
4), the last cycle of FREQ_OUT (log entry 19), OSC_IN present (log entry 32). -/
def Obligations.SupplyAndReleaseEndTheHold : Prop :=
  (∀ s : State, s.pwr.supplyGood = false →
    ∃ t, exec .supplyGood s = .next t ∧ t.BlocksReset ∧ t.held = s.pwr.resetLow ∧ t.pwr.opened = false ∧
      t.pwr.supplyGood = true ∧ t.pwr.sitePwr = s.pwr.sitePwr ∧ t.eeprom = s.eeprom ∧ t.pending = s.pending) ∧
  (∀ s : State, s.pwr.supplyGood = true → exec .supplyGood s = .next s) ∧
  (∀ s : State, exec .resetNRelease s = .next (s.withPwr { s.pwr with resetLow := false }) ∧
    ∀ t, exec .resetNRelease s = .next t → t.held = !s.pwr.supplyGood)

/-- OPEN_SECOND_0 opens second 0 and begins LOAD, on OSC_IN after a good window and otherwise on the check oscillator
with OSC_LOSS and FAULT (R17, R166; the loss at once is log entry 7). That the first conversion starts there is the
model's reading (DEDUCED, log entry 21). -/
def Obligations.SecondZeroOpens : Prop :=
  ∀ (s : State) (cycles : Nat) (straps : BitVec 4) (high : Bool),
    s.held = false → s.pwr.opened = false →
    ∃ t, exec (.openSecond0 cycles straps high) s = .next t ∧ t.running = true ∧
      t.tsg.boundaryIndex = 0 ∧ t.tsg.lastBoundary = 0 ∧ t.tsg.nextBoundary = 1000000000 ∧ t.tsg.phi = 0 ∧
      t.tsg.trim = 0 ∧ t.tsg.slot = none ∧ t.tsg.committed = none ∧ t.tsg.outputsRunning = false ∧
      t.pwr.state = .load ∧ t.pwr.stage = .configuration ∧ t.pwr.address.val = straps.toNat ∧
      t.pwr.sitePwr = high ∧ t.pwr.filtered = high ∧
      t.lrn.converting = true ∧ t.lrn.sampling = .waiting ∧ t.lrn.staleDue = 4000000000 ∧
      (9900 ≤ cycles ∧ cycles ≤ 10100 ∧ s.tsg.windowGap = false → t.tsg.osc = .present ∧ t.scu.raised = 0) ∧
      (¬(9900 ≤ cycles ∧ cycles ≤ 10100 ∧ s.tsg.windowGap = false) →
        t.tsg.osc = .lost ∧ hasFlag t.scu.raised .oscLoss = true ∧ t.eng.state = .fault) ∧
      t.mon = s.mon ∧ t.ptu = s.ptu ∧ t.cfg = s.cfg ∧ t.eeprom = s.eeprom ∧ t.pending = s.pending

/-- CONFIGURATION_READ puts the settings into use, loads the enabled set and raises the flags it finds (R155, R168,
R169); the outputs follow a mute cause and the AUX_OUT mode (R7, R8), the Bus Interface takes the ALERT of the flags
newly raised (R158), and no other block is touched. That the open block keeps its sum and count at another D (log
entry 24), and that running timers, the residual window and the deadlines stay as they were started (log entry 29), is
the model's choice. -/
def Obligations.ConfigurationPutIntoUse : Prop :=
  ∀ (s : State) (acknowledged : Bool), s.ready = true → s.pwr.stage = .configuration →
    let sound : Bool := acknowledged && configurationSound s.eeprom
    ∃ t, exec (.configurationRead acknowledged) s = .next t ∧
      (sound = true → t.cfg = readSettings s.eeprom) ∧ (sound = false → t.cfg = {}) ∧
      t.scu.enabled = t.cfg.alertEnables ∧ (sound = false → t.scu.enabled = 0xFF5F#16) ∧
      (∀ f, hasFlag t.scu.raised f = (hasFlag s.scu.raised f ||
        decide (f = .configDefaulted ∧ (sound = false ∨ storedFields s.eeprom ≠ usedFields (readSettings s.eeprom))) ||
        decide (f = .storeFault ∧ acknowledged = false))) ∧
      t.scu.cause = s.scu.cause ∧ t.pwr = { s.pwr with stage := .learning } ∧
      t.tsg = { s.tsg with
        outputsRunning := s.tsg.outputsRunning && !t.muteCause
        ppsOut := s.tsg.ppsOut && !t.muteCause
        auxOut := match t.cfg.auxMode with
          | .off => false
          | .ppsCopy => s.tsg.auxOut && !t.muteCause && decide (s.pwr.state ≠ .runSave)
          | .sourceIndicator => decide (s.eng.state = .locked ∨ s.eng.state = .follow) &&
            decide (s.pwr.state ≠ .runSave) } ∧
      (let offered : FlagSet := t.scu.raised &&& ~~~s.scu.raised &&& t.scu.enabled
       t.bus = if offered = 0 ∨ s.bus.listenOnly = true then s.bus
        else if s.bus.attempting .alert = true then { s.bus with aside := s.bus.aside ||| offered }
        else { s.bus with alert := some (s.bus.alert.getD 0 ||| offered) }) ∧
      t.mon = s.mon ∧ t.ptu = s.ptu ∧ t.eng = s.eng ∧ t.lrn = s.lrn ∧ t.eeprom = s.eeprom ∧ t.pending = s.pending

/-- Every setting put into use lies in its range, and each time constant is a power of two (R169). Each is read from its
own bytes of the configuration block, most significant first (R175): clamped, rounded down to a power of two, or
defaulted as its kind requires (R169). A sound block has the marker 196, 23 and the sum of bytes 0 to 53 as its check
value (R168, R175). No field changes on being put into use exactly when every stored value lies in its range (R169). -/
def Obligations.SettingsInRange : Prop :=
  ∀ m : Memory,
    let c := readSettings m
    c.busDelay ≤ 2000 ∧ c.cableDelay ≤ 65535 ∧ (1 ≤ c.decimation ∧ c.decimation ≤ 64) ∧
    (4 ≤ c.pointInterval ∧ c.pointInterval ≤ 64) ∧
    (∃ k, c.tauRef = 2 ^ k ∧ 6 ≤ k ∧ k ≤ 13) ∧ (∃ k, c.tauFollow = 2 ^ k ∧ 6 ≤ k ∧ k ≤ 13) ∧
    (∃ k, c.tauEns = 2 ^ k ∧ 8 ≤ k ∧ k ≤ 14) ∧
    (-32767 ≤ c.lmin ∧ c.lmin ≤ 0) ∧ (0 ≤ c.lmax ∧ c.lmax ≤ 32767) ∧
    (1 ≤ c.lwin ∧ c.lwin ≤ 32) ∧ (1 ≤ c.lcnt ∧ c.lcnt ≤ c.lwin) ∧
    (10 ≤ c.qualification ∧ c.qualification ≤ 3600) ∧ (60 ≤ c.holdoff ∧ c.holdoff ≤ 3600) ∧
    (100 ≤ c.stepThreshold ∧ c.stepThreshold ≤ 100000) ∧ (10 ≤ c.lockThreshold ∧ c.lockThreshold ≤ 10000) ∧
    (20 ≤ c.peerLimit ∧ c.peerLimit ≤ 20000) ∧ c.filterConstant ∈ [2, 4, 8, 16] ∧ c.markInterval ∈ [1, 2, 4, 8] ∧
    (1 ≤ c.statusInterval ∧ c.statusInterval ≤ 60) ∧ c.warmup ≤ 3600 ∧
    (1 ≤ c.sigmaFloor ∧ c.sigmaFloor ≤ 10000) ∧ c.sigmaAging ≤ 1000 ∧
    (100 ≤ c.holdoverLimit ∧ c.holdoverLimit ≤ 1000000) ∧
    (100 ≤ c.disagreeThreshold ∧ c.disagreeThreshold ≤ 100000) ∧ (1 ≤ c.disagreeCount ∧ c.disagreeCount ≤ 16) ∧
    (1 ≤ c.slewRate ∧ c.slewRate ≤ 1000) ∧
    (let v := m.unsigned
     let within (lo hi x : Nat) : Nat := if x < lo then lo else if hi < x then hi else x
     c.busRate = (if v 2 1 = 0 then .kbit250 else if v 2 1 = 2 then .kbit1000 else .kbit500) ∧
     c.busDelay = within 0 2000 (v 3 2) ∧ c.cableDelay = v 5 2 ∧ c.decimation = within 1 64 (v 7 1) ∧
     c.pointInterval = within 4 64 (v 8 1) ∧
     (c.tauRef ≤ within 64 8192 (v 9 2) ∧ within 64 8192 (v 9 2) < 2 * c.tauRef) ∧
     (c.tauFollow ≤ within 64 8192 (v 11 2) ∧ within 64 8192 (v 11 2) < 2 * c.tauFollow) ∧
     (c.tauEns ≤ within 256 16384 (v 13 2) ∧ within 256 16384 (v 13 2) < 2 * c.tauEns) ∧
     c.lmin = max (-32767) (min 0 (m.signed 15 2)) ∧ c.lmax = max 0 (m.signed 17 2) ∧
     c.lwin = within 1 32 (v 19 1) ∧ c.lcnt = within 1 c.lwin (v 20 1) ∧
     c.qualification = within 10 3600 (v 21 2) ∧ c.holdoff = within 60 3600 (v 23 2) ∧
     c.stepThreshold = within 100 100000 (v 25 3) ∧ c.lockThreshold = within 10 10000 (v 28 2) ∧
     c.peerLimit = within 20 20000 (v 30 2) ∧
     c.filterConstant = (if v 32 1 ∈ [2, 4, 8, 16] then v 32 1 else 8) ∧
     c.markInterval = (if v 33 1 ∈ [1, 2, 4, 8] then v 33 1 else 2) ∧
     c.statusInterval = within 1 60 (v 34 1) ∧ c.warmup = within 0 3600 (v 35 2) ∧
     c.sigmaFloor = within 1 10000 (v 37 2) ∧ c.sigmaAging = within 0 1000 (v 39 2) ∧
     c.holdoverLimit = within 100 1000000 (v 41 3) ∧ c.disagreeThreshold = within 100 100000 (v 44 3) ∧
     c.disagreeCount = within 1 16 (v 47 1) ∧ c.slewRate = within 1 1000 (v 48 2) ∧
     c.auxMode = (if v 50 1 = 0 then .off else if v 50 1 = 2 then .sourceIndicator else .ppsCopy) ∧
     c.muteOnExhaustion = decide (v 51 1 = 1) ∧ c.alertEnables.toNat = v 52 2 ∧
     (configurationSound m = true ↔ v 0 1 = 196 ∧ v 1 1 = 23 ∧
       ((List.range 54).map fun a => (Memory.read m a).toNat).sum % 65536 = v 54 2) ∧
     (storedFields m = usedFields c ↔
       v 2 1 ≤ 2 ∧ v 3 2 ≤ 2000 ∧ (1 ≤ v 7 1 ∧ v 7 1 ≤ 64) ∧ (4 ≤ v 8 1 ∧ v 8 1 ≤ 64) ∧
       (∃ k, v 9 2 = 2 ^ k ∧ 6 ≤ k ∧ k ≤ 13) ∧ (∃ k, v 11 2 = 2 ^ k ∧ 6 ≤ k ∧ k ≤ 13) ∧
       (∃ k, v 13 2 = 2 ^ k ∧ 8 ≤ k ∧ k ≤ 14) ∧ (-32767 ≤ m.signed 15 2 ∧ m.signed 15 2 ≤ 0) ∧
       0 ≤ m.signed 17 2 ∧ (1 ≤ v 19 1 ∧ v 19 1 ≤ 32) ∧ (1 ≤ v 20 1 ∧ v 20 1 ≤ v 19 1) ∧
       (10 ≤ v 21 2 ∧ v 21 2 ≤ 3600) ∧ (60 ≤ v 23 2 ∧ v 23 2 ≤ 3600) ∧ (100 ≤ v 25 3 ∧ v 25 3 ≤ 100000) ∧
       (10 ≤ v 28 2 ∧ v 28 2 ≤ 10000) ∧ (20 ≤ v 30 2 ∧ v 30 2 ≤ 20000) ∧ v 32 1 ∈ [2, 4, 8, 16] ∧
       v 33 1 ∈ [1, 2, 4, 8] ∧ (1 ≤ v 34 1 ∧ v 34 1 ≤ 60) ∧ v 35 2 ≤ 3600 ∧ (1 ≤ v 37 2 ∧ v 37 2 ≤ 10000) ∧
       v 39 2 ≤ 1000 ∧ (100 ≤ v 41 3 ∧ v 41 3 ≤ 1000000) ∧ (100 ≤ v 44 3 ∧ v 44 3 ≤ 100000) ∧
       (1 ≤ v 47 1 ∧ v 47 1 ≤ 16) ∧ (1 ≤ v 48 2 ∧ v 48 2 ≤ 1000) ∧ v 50 1 ≤ 2 ∧ v 51 1 ≤ 1))

/-- LEARNING_BLOCK_READ restores or empties what was learned and ends LOAD (R152, R170): the RUN state by the filtered
level, warm-up remaining set, and with a warm-up of 0 a source selection that leaves WARMUP (R104). What it finds: no
copy without the marker 182, 77; a faulty one where the check value is not the sum of bytes 272 to 847 or a field is out
of range; otherwise A, each bin and each aging sample from its own bytes, a sample's second being minus its age (R152,
R175). -/
def Obligations.LoadEnds : Prop :=
  (∀ m : Memory,
    let marked : Prop := m.unsigned 256 1 = 182 ∧ m.unsigned 257 1 = 77
    let fits : Prop :=
      ((List.range 576).map fun i => (Memory.read m (272 + i)).toNat).sum % 65536 = m.unsigned 261 2 ∧
      m.unsigned 260 1 ≤ 8 ∧ -1000 ≤ m.signed 258 2 ∧ m.signed 258 2 ≤ 1000 ∧
      ∀ b, b < 64 → -2000000000 ≤ m.signed (274 + 8 * b) 4 ∧ m.signed (274 + 8 * b) 4 ≤ 2000000000 ∧
        (m.unsigned (272 + 8 * b) 2 = 0 → m.signed (274 + 8 * b) 4 = 0 ∧ m.unsigned (278 + 8 * b) 2 = 0)
    (readLearningBlock m = .absent ↔ ¬marked) ∧ (readLearningBlock m = .faulty ↔ marked ∧ ¬fits) ∧
    ∀ (table : Vector Bin 64) (aging : List AgingSample) (rate : Int),
      readLearningBlock m = .sound table aging rate →
      marked ∧ fits ∧ rate = m.signed 258 2 ∧ aging.length = m.unsigned 260 1 ∧
      (∀ b : Fin 64, table[b] =
        (⟨m.unsigned (272 + 8 * b.val) 2, m.signed (274 + 8 * b.val) 4, m.unsigned (278 + 8 * b.val) 2⟩ : Bin)) ∧
      ∀ (i : Nat) (a : AgingSample), aging[i]? = some a → a =
        ⟨m.signed (784 + 8 * i) 4, (4294967296 - m.unsigned (788 + 8 * i) 4) % 4294967296⟩) ∧
  ∀ (s : State) (acknowledged : Bool), s.ready = true → s.pwr.stage = .learning → s.eng.state = .warmup →
    ∃ t, exec (.learningBlockRead acknowledged) s = .next t ∧
      t.pwr = { s.pwr with stage := .done, state := if s.pwr.filtered then .runNormal else .runSave } ∧
      t.eng.warmupLeft = s.cfg.warmup ∧
      (0 < s.cfg.warmup → t.eng = { s.eng with warmupLeft := s.cfg.warmup }) ∧
      (s.cfg.warmup = 0 → t.eng.state ≠ .warmup) ∧
      t.lrn.agingClock = 0 ∧
      (∀ table aging rate, acknowledged = true → readLearningBlock s.eeprom = .sound table aging rate →
        t.lrn.aging = aging ∧ t.lrn.rate = rate ∧ t.lrn.table = table) ∧
      (acknowledged = false ∨ readLearningBlock s.eeprom = .absent ∨ readLearningBlock s.eeprom = .faulty →
        t.lrn.aging = [] ∧ t.lrn.rate = 0 ∧
        t.lrn.table = Vector.replicate 64 Bin.empty) ∧
      (acknowledged = false ∨ readLearningBlock s.eeprom = .faulty → hasFlag t.scu.raised .storeFault = true) ∧
      t.mon = s.mon ∧ t.ptu = s.ptu ∧ t.cfg = s.cfg ∧ t.eeprom = s.eeprom ∧ t.pending = s.pending

/-- BUS_JOIN puts the interface on the bus after LOAD (R49); SITE_PWR_EDGE starts or stops the filter, and
SITE_PWR_FILTER_EXPIRY makes the level the filtered one and, after LOAD, changes the power state (R171). That a part
which does not run only notes the level at its pin is the model's choice (log entries 2 and 3). -/
def Obligations.JoinAndSitePower : Prop :=
  (∀ s : State, s.ready = true → s.pwr.state ≠ .load →
    exec .busJoin s = .next (s.withBus { s.bus with joined := true })) ∧
  (∀ (s : State) (t : Instant) (high : Bool), s.ready = true → high ≠ s.pwr.sitePwr →
    exec (.sitePwrEdge t high) s = .next ((s.at t).withPwr { s.pwr with
      sitePwr := high, filterDue := if high = s.pwr.filtered then none else some (t + 100000000) })) ∧
  (∀ (s : State) (t : Instant) (high : Bool), s.running = false →
    exec (.sitePwrEdge t high) s = .next (s.withPwr { s.pwr with sitePwr := high })) ∧
  (∀ (s : State) (d : Instant), s.ready = true → s.pwr.filterDue = some d →
    ∃ u, exec .sitePwrFilterExpiry s = .next u ∧
      u.pwr = { s.pwr with
        filtered := s.pwr.sitePwr, filterDue := none
        state := if s.pwr.state = .load then .load else if s.pwr.sitePwr then .runNormal else .runSave } ∧
      u.tsg.now = d ∧ (s.pwr.state ≠ .load → s.pwr.sitePwr = false → u.tsg.auxOut = false) ∧
      u.tsg.boundaryIndex = s.tsg.boundaryIndex ∧ u.tsg.nextBoundary = s.tsg.nextBoundary ∧
      u.mon = s.mon ∧ u.ptu = s.ptu ∧ u.eng = s.eng ∧ u.lrn = s.lrn ∧ u.scu = s.scu ∧ u.cfg = s.cfg ∧
      u.eeprom = s.eeprom)

/-! ### Boundaries and OSC_IN (chapter 1) -/

/-- OWN_BOUNDARY with OSC_IN present: the boundary index advances, the boundary falls where it was scheduled, Φ formed
for it comes into force, and a commanded amount joins the trim (R2, R13); the F set before is latched when the latch
is taken first (R3). The applied amount advances the step count, sets or clears the slewing flag and leaves the
remainder in the slot, which a step or a last portion empties (R13, R14; that a first portion emptied from the slot
counts two is DEDUCED, log entry 11), unless the steering limit of this boundary enters FAULT; an engine step may then
take the empty slot. PPS_OUT rises unless muted (R5). The notice shifts the filtered leads and the pending marks
captured before the boundary (R16, R84, R85). -/
def Obligations.BoundaryReached : Prop :=
  ∀ (s : State) (order : List BoundaryTask), s.ready = true → s.tsg.osc = .present →
    ∃ t, exec (.ownBoundary order) s = .next t ∧
      t.tsg.boundaryIndex = s.tsg.boundaryIndex + 1 ∧ t.second = (s.tsg.boundaryIndex + 1) % 4294967296 ∧
      t.tsg.phi = s.tsg.phiNext ∧ t.tsg.lastBoundary = s.tsg.nextBoundary ∧ t.tsg.osc = .present ∧
      (∀ c, s.tsg.committed = some c → c.origin = .command →
        t.tsg.trim = clampAbs 1000000 (s.tsg.trim + c.amount)) ∧
      (s.tsg.committed = none ∨ (∃ c, s.tsg.committed = some c ∧ c.origin = .engine) → t.tsg.trim = s.tsg.trim) ∧
      (order.head? = some .latch → t.tsg.fInForce = s.tsg.fSet) ∧
      (s.eng.steerCount < 599 →
        (s.tsg.committed = none → t.tsg.stepCount = s.tsg.stepCount ∧ t.tsg.slewing = s.tsg.slewing ∧
          ∀ r, s.tsg.slot = some r → t.tsg.slot = some r ∧ t.tsg.committed =
            if r.started ∨ r.due = (t.second + 1) % 4294967296 then some (commitmentOf r s.cfg.slewRate) else none) ∧
        (∀ c, s.tsg.committed = some c → c.kind = .step →
          t.tsg.stepCount = s.tsg.stepCount + 1 ∧ t.tsg.slewing = s.tsg.slewing) ∧
        (∀ c r, s.tsg.committed = some c → c.detached = false → s.tsg.slot = some r → c.kind = .slew →
          r.remaining ≠ c.amount →
          t.tsg.stepCount = s.tsg.stepCount + (if c.first then 1 else 0) ∧ t.tsg.slewing = true ∧
          t.tsg.slot = some { r with remaining := r.remaining - c.amount, started := true } ∧
          t.tsg.committed = some ⟨portionOf r.kind (r.remaining - c.amount) s.cfg.slewRate, r.origin, r.kind, false,
            false⟩) ∧
        (∀ c, s.tsg.committed = some c → c.kind = .slew →
          c.detached = true ∨ (∃ r, s.tsg.slot = some r ∧ r.remaining = c.amount) →
          t.tsg.stepCount = s.tsg.stepCount + (if c.first then 2 else 1) ∧ t.tsg.slewing = false) ∧
        (∀ c r, s.tsg.committed = some c → c.detached = true → s.tsg.slot = some r → t.tsg.slot = some r) ∧
        (∀ c r, s.tsg.committed = some c → c.detached = false → s.tsg.slot = some r →
          c.kind = .step ∨ r.remaining = c.amount →
          t.tsg.slot = none ∨ ∃ q, t.tsg.slot = some q ∧ q.origin = .engine ∧ q.kind = .step)) ∧
      (s.muteCause = true → t.tsg.ppsOut = false ∧ t.tsg.outputsRunning = false) ∧
      (s.muteCause = false → s.cfg.muteOnExhaustion = false → s.eng.steerCount < 599 →
        t.tsg.ppsOut = true ∧ t.tsg.outputsRunning = true) ∧
      (∀ a : Fin 16,
        let x : Int := s.tsg.committedAmount
        (∀ m, s.ptu.marks[a] = some m →
          let d := secondsSince t.second m.rxSecond
          t.ptu.marks[a] = some { m with
            correction := if 1 ≤ d ∧ d ≤ 2147483647 then m.correction - x else m.correction }) ∧
        (s.ptu.marks[a] = none → t.ptu.marks[a] = none) ∧
        (∀ e, s.ptu.peers[a] = some e → ∃ f, t.ptu.peers[a] = some f ∧ f.state = e.state ∧ f.window = e.window ∧
          f.lastHeard = e.lastHeard ∧
          (s.tsg.committed = none → f.lf16 = e.lf16) ∧
          (s.tsg.committed ≠ none → f.lf16 = e.lf16.map fun v => fold 16000000000 (v - 16 * x)))) ∧
      t.pwr = s.pwr ∧ t.cfg = s.cfg ∧ t.eeprom = s.eeprom ∧ t.pending = s.pending

/-- While OSC_IN is lost a boundary follows after 1,000,000,000 ns, Φ stays, and the loss is reported again (R9); at the
first boundary after its return the origin moves to where Φ puts that boundary (R10). That an amount committed to such a
boundary is discarded, so that the trim stays, is the model's reading (DEDUCED, log entry 9). -/
def Obligations.BoundaryInLossAndReturn : Prop :=
  (∀ (s : State) (order : List BoundaryTask), s.ready = true → s.tsg.osc = .lost →
    ∃ t, exec (.ownBoundary order) s = .next t ∧
      t.tsg.boundaryIndex = s.tsg.boundaryIndex + 1 ∧ t.tsg.phi = s.tsg.phi ∧ t.tsg.trim = s.tsg.trim ∧
      t.tsg.lastBoundary = s.tsg.nextBoundary ∧ t.tsg.nextBoundary = s.tsg.nextBoundary + 1000000000 ∧
      t.tsg.osc = .lost ∧ hasFlag t.scu.raised .oscLoss = true ∧ t.eng.state = .fault ∧
      t.pwr = s.pwr ∧ t.cfg = s.cfg ∧ t.eeprom = s.eeprom) ∧
  (∀ (s : State) (order : List BoundaryTask), s.ready = true → s.tsg.osc = .returning →
    ∃ t, exec (.ownBoundary order) s = .next t ∧
      t.tsg.boundaryIndex = s.tsg.boundaryIndex + 1 ∧ t.tsg.phi = s.tsg.phi ∧ t.tsg.trim = s.tsg.trim ∧
      t.tsg.lastBoundary = place (s.tsg.boundaryIndex + 1) s.tsg.phi ∧ t.tsg.osc = .present ∧
      t.pwr = s.pwr ∧ t.cfg = s.cfg ∧ t.eeprom = s.eeprom)

/-- OSC_GAP, and CHECK_WINDOW_END with a count out of range or a gap, declare OSC_IN lost: the committed amount is
discarded and the boundary in progress falls without it (R9); a good window ends the loss (R10). A part whose outputs
obey their mute state has them low after it (MuteStaysObeyed). That a gap in a loss raises nothing, and that a bad
finding between the good window and the next boundary declares the loss anew, is the model's reading (DEDUCED, log
entry 8). -/
def Obligations.OscillatorLossAndReturn : Prop :=
  (∀ (s : State) (t : Instant) (i : Instr), s.ready = true → s.tsg.osc ≠ .lost → s.MuteObeyed →
    (i = .oscGap t ∨ ∃ n, i = .checkWindowEnd t n ∧ (n < 9900 ∨ 10100 < n ∨ s.tsg.windowGap = true)) →
    ∃ u, exec i s = .next u ∧ u.tsg.osc = .lost ∧ u.tsg.committed = none ∧ u.tsg.now = t ∧
      u.tsg.phi = s.tsg.phi ∧ u.tsg.boundaryIndex = s.tsg.boundaryIndex ∧ u.tsg.lastBoundary = s.tsg.lastBoundary ∧
      (s.tsg.osc = .present →
        u.tsg.nextBoundary = place (s.tsg.boundaryIndex + 1) (narrowPhi (s.tsg.phi + s.tsg.fInForce))) ∧
      hasFlag u.scu.raised .oscLoss = true ∧ u.eng.state = .fault ∧ u.eng.integral = s.eng.integral ∧
      u.tsg.ppsOut = false ∧ u.tsg.outputsRunning = false ∧
      u.mon = s.mon ∧ u.ptu = s.ptu ∧ u.lrn = s.lrn ∧ u.pwr = s.pwr ∧ u.cfg = s.cfg ∧ u.eeprom = s.eeprom) ∧
  (∀ (s : State) (t : Instant) (n : Nat), s.ready = true → 9900 ≤ n → n ≤ 10100 → s.tsg.windowGap = false →
    exec (.checkWindowEnd t n) s = .next (s.withTsg { s.tsg with
      now := t, osc := if s.tsg.osc = .lost then .returning else s.tsg.osc })) ∧
  (∀ (s : State) (t : Instant), s.ready = true → s.tsg.osc = .lost →
    exec (.oscGap t) s = .next (s.withTsg { s.tsg with now := t, windowGap := true }))

/-! ### Events due at a boundary -/

/-- What an own boundary does to the Reference Monitor (R45), and its three events. At OWN_BOUNDARY an engine-step
notice empties the block and sets the seed request (R28); a block open for more than D + 4 s stops the work as stale
(R27); otherwise the timer that runs falls by one and stops the work at 0 (R42, R44). STALE_BLOCK empties the block,
QUALIFICATION_TIMER_EXPIRY makes the reference QUALIFIED (R42), and HOLDOFF_EXPIRY makes it CANDIDATE or ABSENT (R44).
A pulse held for the boundary is measured when the work has come so far, against the instant at which the boundary
fell (R21, R45), by the check that a pulse measured at once undergoes (R22, R33): at OWN_BOUNDARY or at the event that
the work stopped for; in ABSENT it is dropped (R30). No steering limit is due, which DueWorkTakenFirst covers,
and no point of the boundary reaches the disagreement count (R98), after which ResidualFaultDisqualifies holds. -/
def Obligations.MonitorBoundaryEvents : Prop :=
  (∀ (s : State) (order : List BoundaryTask), s.ready = true → s.tsg.osc ≠ .returning →
    let k := (s.tsg.boundaryIndex + 1) % 4294967296
    (s.pwr.state = .load ∨ k % s.cfg.pointInterval ≠ 0 ∨ s.eng.disagree + 1 < s.cfg.disagreeCount) →
    let b := if s.tsg.osc = .present ∧ s.tsg.committed.any (fun c => c.origin = .engine) = true then
      { s.mon with blockSum := 0, blockCount := 0, blockOpen := none, seedRequest := true } else s.mon
    let stale : Prop := 0 < b.blockCount ∧ ∃ o, b.blockOpen = some o ∧ s.cfg.decimation + 4 < secondsSince k o
    let m := { b with qualTimer := b.qualTimer.map (· - 1), holdoffTimer := b.holdoffTimer.map (· - 1) }
    let expiry : Prop := (m.qual = .candidate ∧ m.qualTimer = some 0) ∨
      (m.qual = .disqualified ∧ m.holdoffTimer = some 0)
    ∃ t, exec (.ownBoundary order) s = .next t ∧
      (stale → t.mon = { b with stage := .stale }) ∧
      (¬stale → expiry → t.mon = { m with stage := .expiry }) ∧
      (¬stale → ¬expiry → (∀ p, s.mon.held = some p → p.tag ≠ k) → t.mon = { m with stage := .idle }) ∧
      (¬stale → ¬expiry → ∀ p, s.mon.held = some p → p.tag = k →
        t.mon = (checkMeasurement (fold 1000000000 (s.tsg.nextBoundary - p.instant) + s.cfg.cableDelay + t.tsg.trim) k
          ((s.at s.tsg.nextBoundary).withMon { m with stage := .idle, held := none })).mon)) ∧
  (∀ (s v : State) (i : Instr) (p : Pulse), s.running = true → s.steerDue = false →
    (i = .staleBlock ∧ s.mon.stage = .stale ∨
     i = .qualificationTimerExpiry ∧ s.mon.stage = .expiry ∧ s.mon.qual = .candidate ∨
     i = .holdoffExpiry ∧ s.mon.stage = .expiry ∧ s.mon.qual = .disqualified) →
    s.mon.held = some p → p.tag = s.second → exec i (s.withMon { s.mon with held := none }) = .next v →
    exec i s = .next (
      if v.mon.stage ≠ .idle then v.withMon { v.mon with held := some p }
      else if v.mon.qual = .absent then v
      else checkMeasurement (fold 1000000000 (s.tsg.lastBoundary - p.instant) + s.cfg.cableDelay + s.tsg.trim) p.tag
        v)) ∧
  (∀ (s : State) (t : Instant), s.ready = true → s.extraPulse t = false → s.mon.qual ≠ .absent →
    s.tagsNext t = false →
    exec (.refPulse t) s = .next (checkMeasurement
      (fold 1000000000 (s.tsg.lastBoundary - t) + s.cfg.cableDelay + s.tsg.trim) (s.tagOf t)
      ((s.at t).withMon { s.mon with
        lastPulse := some ⟨t, s.tagOf t⟩, missingDue := some (t + 1100000000), consecutiveMissing := 0 }))) ∧
  (∀ s : State, s.running = true → s.mon.stage = .stale → s.steerDue = false → s.NoHeldPulse →
    ∃ m, exec .staleBlock s = .next (s.withMon m) ∧ m.blockCount = 0 ∧ m.blockSum = 0 ∧ m.blockOpen = none ∧
      m.qual = s.mon.qual ∧ m.prediction = s.mon.prediction ∧ m.window = s.mon.window ∧ m.history = s.mon.history ∧
      m.qualTimer = s.mon.qualTimer.map (· - 1) ∧ m.holdoffTimer = s.mon.holdoffTimer.map (· - 1)) ∧
  (∀ s : State, s.running = true → s.mon.stage = .expiry → s.mon.qual = .candidate → s.steerDue = false →
    s.NoHeldPulse →
    ∃ t, exec .qualificationTimerExpiry s = .next t ∧
      t.mon = { s.mon with qual := .qualified, qualTimer := none, holdoffTimer := none, stage := .idle } ∧
      (s.silent = true → t.eng = s.eng) ∧
      (s.silent = false → s.eng.inhibit = false → s.eng.source ≠ some .reference →
        t.eng.state = .acquire ∧ t.eng.source = some .reference ∧ t.eng.lockCount = 0 ∧
        t.tsg.fSet = roundDiv s.eng.integral 1000000) ∧
      t.ptu = s.ptu ∧ t.pwr = s.pwr ∧ t.cfg = s.cfg ∧ t.eeprom = s.eeprom) ∧
  (∀ s : State, s.running = true → s.mon.stage = .expiry → s.mon.qual = .disqualified → s.NoHeldPulse →
    ∃ t, exec .holdoffExpiry s = .next t ∧
      (s.mon.lastPulse ≠ none ∧ s.mon.consecutiveMissing = 0 →
        t.mon.qual = .candidate ∧ t.mon.qualTimer = some s.cfg.qualification ∧ t.mon.seedRequest = true) ∧
      (¬(s.mon.lastPulse ≠ none ∧ s.mon.consecutiveMissing = 0) →
        t.mon.qual = .absent ∧ t.mon.qualTimer = none ∧ t.mon.prediction = none ∧ t.mon.lastPulse = none) ∧
      t.mon.window = [] ∧ t.mon.blockCount = 0 ∧ t.mon.holdoffTimer = none ∧ t.mon.history = s.mon.history ∧
      t.ptu = s.ptu ∧ t.pwr = s.pwr ∧ t.cfg = s.cfg ∧ t.eeprom = s.eeprom)

/-- What an own boundary does to the peer table (R83), and its two events. At OWN_BOUNDARY an entry not heard for 50 s
stops the work (R82); otherwise quarantine remaining falls by one in each QUARANTINED entry, and one that reaches 0
stops the work (R81); otherwise a second that is a multiple of P, after LOAD, forms both results on the table as it
then stands (R83, R89). PEER_EXPIRY empties the entry and its pending mark, counted as unpaired, and the countdown
follows when no other entry expires (R82, R83); that the mark is kept for a sample of that instant is the model's
choice (log entry 31). QUARANTINE_END makes the entry LEARNING with no filtered lead (R81). -/
def Obligations.PeerExpiryAndQuarantineEnd : Prop :=
  (∀ (s : State) (order : List BoundaryTask), s.ready = true →
    let k := (s.tsg.boundaryIndex + 1) % 4294967296
    let late : Prop := ∃ a e, s.ptu.peers[(a : Fin 16)] = some e ∧ 50 ≤ secondsSince k e.lastHeard
    let ended : Prop := ∃ a e, s.ptu.peers[(a : Fin 16)] = some e ∧ e.state = .quarantined ∧ e.quarantine ≤ 1
    let point : Prop := s.pwr.state ≠ .load ∧ k % s.cfg.pointInterval = 0
    ∃ t, exec (.ownBoundary order) s = .next t ∧
      (∀ (a : Fin 16) e, s.ptu.peers[a] = some e → ∃ f, t.ptu.peers[a] = some f ∧ f.state = e.state ∧
        f.lastHeard = e.lastHeard ∧ (late → f.quarantine = e.quarantine) ∧
        (¬late → f.quarantine = if e.state = .quarantined then e.quarantine - 1 else e.quarantine)) ∧
      (∀ a : Fin 16, s.ptu.peers[a] = none → t.ptu.peers[a] = none) ∧ (∀ a : Fin 16, t.ptu.lapsed[a] = none) ∧
      t.ptu.unpaired = s.ptu.unpaired ∧ t.ptu.orphan = s.ptu.orphan ∧
      (late → t.ptu.stage = .expiry) ∧ (¬late → ended → t.ptu.stage = .quarantine) ∧
      (¬late → ¬ended → t.ptu.stage = .idle) ∧
      (late ∨ ended ∨ ¬point → t.ptu.tier1 = s.ptu.tier1 ∧ t.ptu.tier2 = s.ptu.tier2) ∧
      (¬late → ¬ended → point →
        t.ptu.tier1 = ⟨consensusOf (t.contributors .one), some k⟩ ∧ t.ptu.tier2.point = some k)) ∧
  (∀ (s : State) (a : Fin 16), s.running = true → s.ptu.stage = .expiry → s.peerExpired a = true →
    ∃ t, exec (.peerExpiry a) s = .next t ∧ t.ptu.peers[a] = none ∧ t.ptu.marks[a] = none ∧
      t.ptu.lapsed[a] = s.ptu.marks[a] ∧
      (∀ b e, b ≠ a → s.ptu.peers[b] = some e → t.ptu.peers[b] =
        if (∃ c, c ≠ a ∧ s.peerExpired c = true) ∨ e.state ≠ .quarantined then some e
        else some { e with quarantine := e.quarantine - 1 }) ∧
      ((∃ c, c ≠ a ∧ s.peerExpired c = true) → t.ptu.stage = .expiry) ∧
      (s.ptu.marks[a] = none → t.ptu.unpaired = s.ptu.unpaired) ∧
      (s.ptu.marks[a] ≠ none → t.ptu.unpaired = countUp s.ptu.unpaired) ∧
      (∀ b, b ≠ a → t.ptu.marks[b] = s.ptu.marks[b]) ∧ t.ptu.orphan = s.ptu.orphan ∧
      t.pwr = s.pwr ∧ t.cfg = s.cfg ∧ t.eeprom = s.eeprom) ∧
  (∀ (s : State) (a : Fin 16) (e : PeerEntry), s.running = true → s.ptu.stage = .quarantine →
    s.ptu.peers[a] = some e → e.state = .quarantined → e.quarantine = 0 →
    ∃ t, exec (.quarantineEnd a) s = .next t ∧
      t.ptu.peers[a] = some { e with state := .learning, lf16 := none } ∧
      (∀ b, b ≠ a → t.ptu.peers[b] = s.ptu.peers[b]) ∧ t.ptu.marks = s.ptu.marks ∧
      t.ptu.unpaired = s.ptu.unpaired ∧ t.ptu.orphan = s.ptu.orphan ∧
      t.pwr = s.pwr ∧ t.cfg = s.cfg ∧ t.eeprom = s.eeprom)

/-- STEER_LIMIT_REACHED raises STEER_LIMIT and takes the engine to FAULT with the entry of R120: outputs muted, slot and
ring emptied, MARK and FOLLOW slots emptied, I and F kept (R119, R120, R138). At an OWN_BOUNDARY that brings no
observation and no point, the counter rises by one where the F set is at a limit in LOCKED or FOLLOW and is 0 otherwise,
and at 600 the limit is due or taken (R119). -/
def Obligations.SteerLimitEntersFault : Prop :=
  (∀ (s : State) (order : List BoundaryTask), s.ready = true → s.tsg.osc = .present →
    (∀ p, s.mon.held = some p → p.tag ≠ (s.tsg.boundaryIndex + 1) % 4294967296) →
    (s.pwr.state = .load ∨ (s.tsg.boundaryIndex + 1) % 4294967296 % s.cfg.pointInterval ≠ 0) →
    let tracks : Prop := s.eng.state = .locked ∨ s.eng.state = .follow
    let limit : Prop := s.tsg.fSet = 2000000 ∨ s.tsg.fSet = -2000000
    ∃ t, exec (.ownBoundary order) s = .next t ∧
      (tracks → limit → s.eng.steerCount < 599 →
        t.eng.steerCount = s.eng.steerCount + 1 ∧ t.eng.state = s.eng.state) ∧
      (tracks → limit → s.eng.steerCount = 599 → t.eng.state = .fault ∨ t.steerDue = true) ∧
      (tracks → ¬limit → t.eng.steerCount = 0 ∧ t.eng.state = s.eng.state) ∧
      (¬tracks → t.eng.steerCount = 0 ∧ t.eng.state = s.eng.state)) ∧
  ∀ s : State, s.running = true → (s.eng.state = .locked ∨ s.eng.state = .follow) → 600 ≤ s.eng.steerCount →
    ∃ t, exec .steerLimitReached s = .next t ∧
      t.eng = { s.eng with
        state := .fault, source := none, pt := 0, ring := [], lockCount := 0, largeCount := 0, steerCount := 0
        disagree := 0, record := none, nudge := 0, lastPrediction := none, followedU := none, u := 2097151
        exhaustionOrder := false } ∧
      (∀ f, hasFlag t.scu.raised f = (hasFlag s.scu.raised f || f = .steerLimit || f = .sourceChange)) ∧
      t.tsg.slot = none ∧ t.tsg.fSet = s.tsg.fSet ∧ t.tsg.outputsRunning = false ∧ t.tsg.ppsOut = false ∧
      t.tsg.nextBoundary = s.tsg.nextBoundary ∧ t.tsg.phi = s.tsg.phi ∧
      t.bus.mark = none ∧ t.bus.follow = none ∧
      t.mon = s.mon ∧ t.ptu = s.ptu ∧ t.lrn = s.lrn ∧ t.pwr = s.pwr ∧ t.cfg = s.cfg ∧ t.eeprom = s.eeprom

/-- WARMUP_EXPIRY leaves WARMUP for what the source selection finds (R104, R106, R107): ACQUIRE on the reference, FOLLOW
or ACQUIRE on a tier by the magnitude of its consensus, HOLDOVER, or FREERUN. Warm-up remaining falls by one at each
OWN_BOUNDARY, and at 0 after LOAD the expiry is due (R104). -/
def Obligations.WarmupEndsBySelection : Prop :=
  (∀ (s : State) (order : List BoundaryTask), s.ready = true →
    ∃ t, exec (.ownBoundary order) s = .next t ∧ t.eng.warmupLeft = s.eng.warmupLeft - 1 ∧
      (s.eng.state = .warmup → s.tsg.osc ≠ .lost → t.eng.state = .warmup ∧
        (t.warmupDue = true ↔ s.pwr.state ≠ .load ∧ s.eng.warmupLeft ≤ 1))) ∧
  ∀ s : State, s.running = true → s.pwr.state ≠ .load → s.eng.state = .warmup → s.eng.warmupLeft = 0 →
    ∃ t, exec .warmupExpiry s = .next t ∧
      (∀ src, s.selected = .source src → t.eng.source = some src) ∧
      (s.selected = .source .reference → t.eng.state = .acquire) ∧
      (∀ k c, s.selected = .source (.tier k) → (s.ptu.tier k).consensus = some c →
        t.eng.state = (if c.value.natAbs ≤ s.cfg.stepThreshold then .follow else .acquire) ∧
        t.eng.lastC = some ⟨c.value, k⟩) ∧
      (s.selected = .holdover → t.eng.state = .holdover ∧ t.eng.source = none ∧ t.eng.record ≠ none) ∧
      (s.selected = .freerun → t.eng.state = .freerun ∧ t.eng.source = none ∧ t.tsg.fSet = freeRunF s) ∧
      t.eng.warmupLeft = 0 ∧ t.mon = s.mon ∧ t.ptu = s.ptu ∧ t.pwr = s.pwr ∧ t.cfg = s.cfg ∧ t.eeprom = s.eeprom

/-- The first of the five cases of R106 is the outcome of a source selection. -/
def Obligations.SelectionTakesFirstCase : Prop :=
  ∀ s : State,
    let one : Prop := s.mon.qual = .qualified ∧ s.eng.inhibit = false
    let two : Prop := s.ptu.tier1.consensus ≠ none
    let three : Prop := s.eng.ring ≠ []
    let four : Prop := s.ptu.tier2.consensus ≠ none
    (one → s.selected = .source .reference) ∧
    (¬one → two → s.selected = .source (.tier .one)) ∧
    (¬one → ¬two → three → s.selected = .holdover) ∧
    (¬one → ¬two → ¬three → four → s.selected = .source (.tier .two)) ∧
    (¬one → ¬two → ¬three → ¬four → s.selected = .freerun)

/-! ### Timers and pins (chapters 1, 4, 9) -/

/-- AGING_SAMPLE returns the aging clock to 0 and, with a frequency history ring that is not empty, appends the ring's
mean less the table's value of the current bin, with the second of the boundary (R146, R147), and learns A from the end
samples of the aging ring once they span a day (R148). At OWN_BOUNDARY a conversion starts (R139), TEMP_STALE is raised
again while STALE (R140), and at one that brings no observation and no point the aging clock rises by one while the
station is LOCKED, or in FOLLOW on TIER1, with fresh temperature, and is 0 otherwise (R143, R146).
TEMPERATURE_CONVERSION_END takes a reading of -440 to +1000 eighths and restarts the staleness timer; any other
leaves the last valid one (R139). STALENESS_TIMER_EXPIRY makes the sampling STALE and raises TEMP_STALE (R140). -/
def Obligations.AgingAndTemperatureSampling : Prop :=
  (∀ (s : State) (order : List BoundaryTask), s.ready = true →
    ∃ t, exec (.ownBoundary order) s = .next t ∧ t.lrn.converting = true ∧ t.lrn.sampling = s.lrn.sampling ∧
      t.lrn.lastReading = s.lrn.lastReading ∧ t.lrn.aging = s.lrn.aging ∧ t.lrn.rate = s.lrn.rate ∧
      (s.lrn.sampling = .stale → hasFlag t.scu.raised .tempStale = true) ∧
      (s.tsg.osc = .present → s.eng.steerCount < 599 →
        (∀ p, s.mon.held = some p → p.tag ≠ (s.tsg.boundaryIndex + 1) % 4294967296) →
        (s.pwr.state = .load ∨ (s.tsg.boundaryIndex + 1) % 4294967296 % s.cfg.pointInterval ≠ 0) →
        t.lrn.table = s.lrn.table ∧
        t.lrn.agingClock =
          if (s.eng.state = .locked ∨ s.eng.state = .follow ∧ s.eng.source = some (.tier .one)) ∧
            s.lrn.sampling = .fresh then s.lrn.agingClock + 1 else 0)) ∧
  (∀ s : State, s.running = true → 21600 ≤ s.lrn.agingClock →
     ∃ l, exec .agingSample s = .next (s.withLrn l) ∧ l.agingClock = 0 ∧ l.table = s.lrn.table ∧
       (s.eng.ring = [] → l = { s.lrn with agingClock := 0 }) ∧
       (s.eng.ring ≠ [] →
         ∃ z, l.aging = pushBounded 8 s.lrn.aging ⟨z, s.second⟩ ∧
           (∀ b, s.lrn.currentBin = some b → z = meanInt s.eng.ring - s.lrn.tab b) ∧
           (s.lrn.currentBin = none → z = meanInt s.eng.ring) ∧
           l.aging.getLast? = some ⟨z, s.second⟩ ∧
           ∀ a, l.aging.head? = some a →
             let d := secondsSince s.second a.second
             (86400 ≤ d → l.rate = clampAbs 1000 (roundDiv ((z - a.z) * 86400) (1000 * d))) ∧
             (d < 86400 → l.rate = s.lrn.rate))) ∧
  (∀ (s : State) (t : Instant) (r : Int), s.ready = true → s.lrn.converting = true → -440 ≤ r → r ≤ 1000 →
    exec (.temperatureConversionEnd t (some r)) s = .next ((s.at t).withLrn { s.lrn with
      converting := false, lastReading := some r, sampling := .fresh, staleDue := t + 4000000000 })) ∧
  (∀ (s : State) (t : Instant) (r : Option Int), s.ready = true → s.lrn.converting = true →
    (∀ v, r = some v → v < -440 ∨ 1000 < v) →
    exec (.temperatureConversionEnd t r) s = .next ((s.at t).withLrn { s.lrn with converting := false })) ∧
  (∀ s : State, s.ready = true → s.lrn.sampling ≠ .stale →
    ∃ u, exec .stalenessTimerExpiry s = .next u ∧ u.lrn = { s.lrn with sampling := .stale } ∧
      u.tsg = { s.tsg with now := s.lrn.staleDue } ∧
      (∀ f, hasFlag u.scu.raised f = (hasFlag s.scu.raised f || f = .tempStale)) ∧
      u.scu.enabled = s.scu.enabled ∧ u.mon = s.mon ∧ u.ptu = s.ptu ∧ u.eng = s.eng ∧ u.pwr = s.pwr ∧
      u.eeprom = s.eeprom)

/-- MARK_DUE queues a MARK with the sequence number, which advances, outside LOAD, with a class and not in listen-only
(R63); STATUS_PERIODIC_OFFER puts both parts of a STATUS in their slots (R65, R159), byte by byte as R159, R173 and
R174 have them; PPS_PULSE_END lowers PPS_OUT 100 ms after the boundary (R5). At OWN_BOUNDARY a MARK and a STATUS fall
due by the second count and the power state (R63, R65), a STATUS still owed is offered (R65), and BUS_OFF is raised
again while it lasts (R58). FREQ_OUT has a rising edge at the boundary while it runs and then 10 MHz, moved by steps
of at most 1 ns, evenly spread, which add up by the end of the second or where a retard's stretched part begins; it is
low while muted and in that part, a boundary placed again moves no step made, and an applied amount cuts the cycle
short or stretches it (R6, R8). That none falls due in LOAD (log entry 25), that FREQ_OUT is high in the first half of
a cycle and where each step lies (log entry 19) are the model's choices. -/
def Obligations.ScheduledOutputs : Prop :=
  (∀ (s : State) (order : List BoundaryTask), s.ready = true →
    let k := (s.tsg.boundaryIndex + 1) % 4294967296
    ∃ t, exec (.ownBoundary order) s = .next t ∧
      (s.bus.error = .busOff → hasFlag t.scu.raised .busOff = true) ∧
      (s.bus.statusDue = true → s.bus.listenOnly = false → s.bus.attempt = none →
        t.bus.status0 ≠ none ∧ t.bus.status1 ≠ none) ∧
      (s.pwr.state = .load → t.bus.markDue = none ∧ t.bus.statusDue = false) ∧
      (∀ m n : Nat,
        (s.pwr.state = .runNormal ∧ m = s.cfg.markInterval ∧ n = s.cfg.statusInterval) ∨
        (s.pwr.state = .runSave ∧ n = min 240 (4 * s.cfg.statusInterval) ∧
          m = if s.cfg.markInterval = 1 then 4 else if s.cfg.markInterval = 2 then 8 else 16) →
        t.bus.markDue = (if k % m = 0 then
          some (t.tsg.lastBoundary + 20000000 + 25000000 * (s.pwr.address.val : Int)) else none) ∧
        t.bus.statusDue = decide (k % n = 0)) ∧
      t.tsg.freqMade = 0 ∧ t.tsg.freqFrom = t.tsg.lastBoundary ∧
      (s.tsg.osc = .present → t.tsg.freqCycle =
        if 0 < s.tsg.committedAmount then .cutShort s.tsg.committedAmount
        else if s.tsg.committedAmount < 0 then .stretched (-s.tsg.committedAmount) else .whole) ∧
      (s.tsg.osc = .lost → t.tsg.freqSteps = 0)) ∧
  (∀ x : Timescale,
    let nominal := x.lastBoundary + 1000000000 - x.freqSteps
    let span := min x.nextBoundary nominal
    (∀ t, x.lastBoundary ≤ t → (x.freqLevel t = true ↔
      x.outputsRunning = true ∧ t < nominal ∧ (t - x.lastBoundary + x.freqMadeBy t) % 100 < 50)) ∧
    (x.outputsRunning = true → x.freqMade = 0 → x.freqFrom = x.lastBoundary → x.freqSteps < 1000000000 →
      x.freqLevel x.lastBoundary = true ∧ x.freqRises x.lastBoundary = true) ∧
    (∀ t, x.lastBoundary < t →
      (x.freqRises t = true ↔ x.freqLevel t = true ∧ x.freqLevel (t - 1) = false)) ∧
    (x.freqFrom < span → ((x.freqSteps - x.freqMade).natAbs : Int) ≤ span - x.freqFrom →
      x.freqMadeBy x.freqFrom = x.freqMade ∧ x.freqMadeBy span = x.freqSteps ∧
      ∀ t, x.freqFrom ≤ t → t < span →
        (x.freqMadeBy (t + 1) - x.freqMadeBy t).natAbs ≤ 1 ∧
        (((x.freqMadeBy t - x.freqMade) * (span - x.freqFrom) -
          (x.freqSteps - x.freqMade) * (t - x.freqFrom)).natAbs : Int) < span - x.freqFrom) ∧
    x.schedule.freqMadeBy x.now = x.freqMadeBy x.now) ∧
  (∀ s : State,
    let engine : Nat := match s.eng.state with
      | .warmup => 0 | .acquire => 1 | .locked => 2 | .follow => 3 | .holdover => 4 | .freerun => 5 | .fault => 6
    let cls : Nat := match s.eng.state with
      | .locked => 0 | .follow => 1 | .holdover => 2 | .acquire => 3 | .freerun => 3 | .warmup => 4 | .fault => 4
    let reference : Nat := match s.mon.qual with
      | .absent => 0 | .candidate => 1 | .qualified => 2 | .disqualified => 3
    let power : Nat := match s.pwr.state with
      | .load => 0 | .runNormal => 1 | .runSave => 2
    let cause : Nat := match s.scu.cause with
      | .none => 0 | .busy => 1 | .late => 2 | .invalid => 3 | .state => 4
    let active := s.ptu.peers.toList.countP fun e => e.any fun e => e.state = .active
    let bins := s.lrn.table.toList.countP fun b => 0 < b.count
    (statusPart0 s).map BitVec.toNat =
      [16 * engine + 4 * reference + power, 32 * cls + 2 * min 15 active + s.tsg.slewing.toNat] ++
      bytesOf 2 s.scu.raised.toNat ++
      bytesOf 3 (4194304 * (s.tsg.stepCount.toNat : Int) + (min 2097151 s.eng.u : Nat)) ++ [32 * cause] ∧
    (statusPart1 s).map BitVec.toNat =
      [128 + bins] ++ bytesOf 3 (max (-8388608) (min 8388607 s.tsg.fInForce)) ++
      bytesOf 2 (match s.eng.lastC with
        | some c => max (-32767) (min 32767 c.value)
        | none => -32768) ++ bytesOf 2 (s.lrn.lastReading.getD (-32768))) ∧
  (∀ (s : State) (d : Instant), s.ready = true → s.bus.markDue = some d → s.pwr.state ≠ .load →
    s.silent = false → s.bus.listenOnly = false →
    exec .markDue s = .next ((s.at d).withBus { s.bus with
      markDue := none, mark := some ⟨s.bus.sequence, d + 300000000⟩, sequence := s.bus.sequence + 1 })) ∧
  (∀ (s : State) (d : Instant), s.ready = true → s.bus.markDue = some d →
    (s.pwr.state = .load ∨ s.silent = true ∨ s.bus.listenOnly = true) →
    exec .markDue s = .next ((s.at d).withBus { s.bus with markDue := none })) ∧
  (∀ s : State, s.ready = true → s.bus.statusDue = true → s.bus.listenOnly = false → s.bus.attempt = none →
    exec .statusPeriodicOffer s =
      .next ((s.at (min (s.tsg.lastBoundary + 600000000) s.tsg.nextBoundary)).withBus { s.bus with
        statusDue := false, status0 := some (statusPart0 s), status1 := some (statusPart1 s) })) ∧
  (∀ s : State, s.ready = true → s.tsg.ppsOut = true →
    exec .ppsPulseEnd s = .next (s.withTsg { s.tsg with
      now := s.tsg.lastBoundary + 100000000, ppsOut := false
      auxOut := if s.cfg.auxMode = .ppsCopy then false else s.tsg.auxOut }))

/-! ### The reference (chapters 2 and 3) -/

/-- REF_PULSE: a pulse less than 900 ms after the last accepted one, or with its tag, is extra and only counted; any
other becomes the last accepted pulse and restarts the missing-pulse timer at 1.1 s (R18, R19, R39); one that lies
before its boundary in a state other than ABSENT is held for it (R21). One measured at once with the verdict SEED or IN
joins the sum and the count of the block (R22, R23, R24, R33); the block that reaches D forms the observation, rounded
and saturated, which becomes the prediction and in QUALIFIED goes to the engine (R25, R26, R34). The first pulse in
ABSENT is the seed of the candidate period (R41). The tag is the second of the nearer boundary, the later at equal
distance (R21). That a verdict at the instant of a disqualification order is tested on the window the order cleared (log
entry 26), and that a block whose count stands above D completes with its sum divided by D (log entry 24), are the
model's choices. -/
def Obligations.PulseAcceptedOrExtra : Prop :=
  (∀ (s : State) (t : Instant),
    (s.tagsNext t = true ↔ s.tsg.nextBoundary - t ≤ t - s.tsg.lastBoundary) ∧
    (s.tagsNext t = true → s.tagOf t = (s.tsg.boundaryIndex + 1) % 4294967296) ∧
    (s.tagsNext t = false → s.tagOf t = s.tsg.boundaryIndex % 4294967296) ∧
    (s.extraPulse t = true ↔ ∃ l, s.mon.lastPulse = some l ∧ (t - l.instant < 900000000 ∨ s.tagOf t = l.tag))) ∧
  (∀ (s : State) (t : Instant), s.ready = true → s.extraPulse t = true →
    exec (.refPulse t) s = .next ((s.at t).withMon { s.mon with extraCount := countUp s.mon.extraCount })) ∧
  (∀ (s : State) (t : Instant), s.ready = true → s.extraPulse t = false →
    ∃ u, exec (.refPulse t) s = .next u ∧ u.mon.lastPulse = some ⟨t, s.tagOf t⟩ ∧
      u.mon.missingDue = some (t + 1100000000) ∧ u.mon.consecutiveMissing = 0 ∧
      u.mon.extraCount = s.mon.extraCount ∧ u.mon.missingCount = s.mon.missingCount ∧
      (s.mon.qual = .absent → u.mon.qual = .candidate ∧ u.mon.qualTimer = some s.cfg.qualification) ∧
      (s.tagsNext t = true → u.mon.held = some ⟨t, s.tagOf t⟩) ∧
      (s.mon.qual = .absent → s.tagsNext t = false → 1 < s.cfg.decimation →
        let m := fold 1000000000 (s.tsg.lastBoundary - t) + s.cfg.cableDelay + s.tsg.trim
        u.mon.prediction = some m ∧ u.mon.blockSum = m ∧ u.mon.blockCount = 1 ∧ u.mon.blockOpen = some (s.tagOf t) ∧
        u.mon.seedRequest = false ∧ u.mon.window = [] ∧ u.mon.history = s.mon.history) ∧
      u.ptu = s.ptu ∧ u.pwr = s.pwr ∧ u.cfg = s.cfg ∧ u.eeprom = s.eeprom) ∧
  (∀ (s : State) (t : Instant), s.ready = true → s.extraPulse t = false → s.mon.qual ≠ .absent →
    s.tagsNext t = true →
    exec (.refPulse t) s = .next ((s.at t).withMon { s.mon with
      lastPulse := some ⟨t, s.tagOf t⟩, missingDue := some (t + 1100000000), consecutiveMissing := 0
      held := some ⟨t, s.tagOf t⟩ })) ∧
  (∀ (s : State) (t : Instant) (x : Monitor), s.ready = true → s.extraPulse t = false → s.mon.qual ≠ .absent →
    s.tagsNext t = false →
    let m := fold 1000000000 (s.tsg.lastBoundary - t) + s.cfg.cableDelay + s.tsg.trim
    let b := { s.mon with
      lastPulse := some ⟨t, s.tagOf t⟩, missingDue := some (t + 1100000000), consecutiveMissing := 0
      blockSum := s.mon.blockSum + m, blockCount := s.mon.blockCount + 1
      blockOpen := if s.mon.blockCount = 0 then some (s.tagOf t) else s.mon.blockOpen }
    ((s.mon.seedRequest = true ∨ s.mon.prediction = none) ∧ x = { b with prediction := some m, seedRequest := false } ∨
     ∃ p, s.mon.prediction = some p ∧ s.mon.seedRequest = false ∧ s.cfg.lmin ≤ m - p ∧ m - p ≤ s.cfg.lmax ∧
       outCount (pushBounded s.cfg.lwin (s.at t).testedWindow false) < s.cfg.lcnt ∧
       x = { b with
         history := s.mon.history.write (m - p), window := pushBounded s.cfg.lwin s.mon.window false
         ordered := none }) →
    (x.blockCount < s.cfg.decimation → exec (.refPulse t) s = .next ((s.at t).withMon x)) ∧
    (s.cfg.decimation ≤ x.blockCount →
      let q := roundDiv x.blockSum s.cfg.decimation
      let v := (s.at t).withMon { x with
        blockSum := 0, blockCount := 0, blockOpen := none, prediction := some (clampAbs 32767 q) }
      let v := if 32767 < q.natAbs then raise .obsSat v else v
      exec (.refPulse t) s =
        .next (if s.mon.qual = .qualified then takeObservation (clampAbs 32767 q) v else v)))

/-- REF_PULSE in QUALIFIED or CANDIDATE whose residual is out of limits and completes LCNT verdicts OUT in the window
is a residual fault: the ring takes the residual and freezes, the window clears, REF_FAULT is raised, the reference is
DISQUALIFIED with its holdoff started, and the prediction stays (R33, R35, R36, R37). In DISQUALIFIED it restarts the
holdoff (R44). A disqualification order enters DISQUALIFIED with the window cleared and the ring as it was, and takes
the engine off the reference (in a state that EngineRecordFitsItsState allows); it has no effect on a reference that
is not QUALIFIED; a fault that falls together with it and comes second still freezes the ring (R46). That such a fault
is found on the window which the order cleared is the model's choice (log entry 26). A verdict OUT that completes no
fault leaves the block alone (R23). -/
def Obligations.ResidualFaultDisqualifies : Prop :=
  (∀ (s : State) (t : Instant) (p : Int), s.ready = true → s.extraPulse t = false → s.tagsNext t = false →
    s.mon.qual = .qualified ∨ s.mon.qual = .candidate → s.mon.prediction = some p → s.mon.seedRequest = false →
    let r := fold 1000000000 (s.tsg.lastBoundary - t) + s.cfg.cableDelay + s.tsg.trim - p
    (r < s.cfg.lmin ∨ s.cfg.lmax < r) →
    s.cfg.lcnt ≤ outCount (pushBounded s.cfg.lwin s.mon.window true) →
    ∃ u, exec (.refPulse t) s = .next u ∧ u.mon.qual = .disqualified ∧
      u.mon.holdoffTimer = some s.cfg.holdoff ∧ u.mon.qualTimer = none ∧ u.mon.window = [] ∧
      u.mon.prediction = some p ∧ u.mon.blockCount = 0 ∧ u.mon.blockOpen = none ∧
      u.mon.history = { s.mon.history.write r with frozen := true } ∧
      hasFlag u.scu.raised .refFault = true ∧ (s.eng.state = .locked → u.eng.state ≠ .locked) ∧
      u.ptu = s.ptu ∧ u.pwr = s.pwr ∧ u.cfg = s.cfg ∧ u.eeprom = s.eeprom) ∧
  (∀ (s : State) (t : Instant) (p : Int), s.ready = true → s.extraPulse t = false → s.tagsNext t = false →
    s.mon.prediction = some p → s.mon.seedRequest = false →
    let r := fold 1000000000 (s.tsg.lastBoundary - t) + s.cfg.cableDelay + s.tsg.trim - p
    let accepted := { s.mon with
      lastPulse := some ⟨t, s.tagOf t⟩, missingDue := some (t + 1100000000), consecutiveMissing := 0
      history := s.mon.history.write r, ordered := none }
    (r < s.cfg.lmin ∨ s.cfg.lmax < r) →
    (s.mon.qual = .disqualified → s.cfg.lcnt ≤ outCount (pushBounded s.cfg.lwin (s.at t).testedWindow true) →
      exec (.refPulse t) s = .next (raise .refFault ((s.at t).withMon { accepted with
        history := { accepted.history with frozen := true }, window := [], holdoffTimer := some s.cfg.holdoff }))) ∧
    (s.mon.qual ≠ .absent → outCount (pushBounded s.cfg.lwin (s.at t).testedWindow true) < s.cfg.lcnt →
      exec (.refPulse t) s = .next ((s.at t).withMon { accepted with
        window := pushBounded s.cfg.lwin s.mon.window true }))) ∧
  (∀ (s : State) (w : List Bool),
    (s.mon.qual = .disqualified → s.mon.ordered = some ⟨s.tsg.now, w⟩ → s.testedWindow = w) ∧
    (s.mon.qual ≠ .disqualified ∨ (∀ v, s.mon.ordered ≠ some ⟨s.tsg.now, v⟩) → s.testedWindow = s.mon.window)) ∧
  (∀ s : State, s.mon.qual = .qualified →
    (orderDisqualification s).mon = { s.mon with
      qual := .disqualified, window := [], ordered := some ⟨s.tsg.now, s.mon.window⟩, qualTimer := none
      holdoffTimer := some s.cfg.holdoff, blockSum := 0, blockCount := 0, blockOpen := none } ∧
    (s.silent = false → (s.eng.state = .holdover ∨ s.eng.state = .freerun → s.eng.source = none) →
      (orderDisqualification s).eng.source ≠ some .reference)) ∧
  (∀ s : State, s.mon.qual ≠ .qualified → orderDisqualification s = s)

/-- MISSING_PULSE_EVENT: the counts rise, the next event is 1 s later; the third in a row takes QUALIFIED to ABSENT with
REF_LOST and CANDIDATE to ABSENT (R19, R39, R42, R43). -/
def Obligations.MissingPulsesLoseTheReference : Prop :=
  ∀ (s : State) (d : Instant), s.ready = true → s.mon.missingDue = some d → s.mon.qual ≠ .absent →
    ∃ u, exec .missingPulseEvent s = .next u ∧ u.mon.missingCount = countUp s.mon.missingCount ∧
      u.tsg.now = d ∧ u.mon.history = s.mon.history ∧ u.mon.extraCount = s.mon.extraCount ∧
      (s.mon.consecutiveMissing < 2 → u.mon.qual = s.mon.qual ∧ u.mon.missingDue = some (d + 1000000000) ∧
        u.mon.consecutiveMissing = s.mon.consecutiveMissing + 1 ∧ u.eng = s.eng ∧ u.scu = s.scu ∧
        u.mon.qualTimer = (if s.mon.qual = .candidate then some s.cfg.qualification else s.mon.qualTimer)) ∧
      (s.mon.consecutiveMissing = 2 → s.mon.qual = .qualified ∨ s.mon.qual = .candidate →
        u.mon.qual = .absent ∧ u.mon.missingDue = none ∧ u.mon.lastPulse = none ∧ u.mon.prediction = none) ∧
      (s.mon.consecutiveMissing = 2 → s.mon.qual = .qualified → hasFlag u.scu.raised .refLost = true) ∧
      u.ptu = s.ptu ∧ u.pwr = s.pwr ∧ u.cfg = s.cfg ∧ u.eeprom = s.eeprom

/-! ### The cabinet bus (chapter 4) -/

/-- TRANSMIT_ATTEMPT_START sends the frame of the first slot that is filled, in the order MARK, FOLLOW, ALERT, STATUS
part 0, STATUS part 1, PAGE, with kind times 32 plus the own address as identifier, and notes the drive timestamp and
a MARK's snapshot (R49, R50, R59, R60). The edge is timestamped at the receive pin in the second in force there (R50;
at the boundary's own instant the second that ends, log entry 17). An attempt needs an idle bus, no own attempt open,
no BUS_OFF, no listen-only, and in ERROR_PASSIVE the wait of eight recessive bit times past (R57, R59); how the wait
lies on the bus is the model's choice (log entry 27). -/
def Obligations.AttemptTakesFirstSlot : Prop :=
  (∀ (s : State) (t : Instant) (bus : BusTimes), s.ready = true → s.mayStart t bus.idle = false →
    exec (.transmitAttemptStart t bus) s = .next s) ∧
  (∀ (s : State) (t idle : Instant), s.mayStart t idle = true ↔
    s.bus.joined = true ∧ s.bus.seen = none ∧ s.bus.attempt = none ∧ s.bus.error ≠ .busOff ∧
    s.bus.listenOnly = false ∧
    ∀ e, s.bus.waitSince = some e → s.bus.error = .errorPassive → e ≤ idle ∧
      idle + 8 * (match s.cfg.busRate with
        | .kbit250 => 4000
        | .kbit500 => 2000
        | .kbit1000 => 1000) ≤ t) ∧
  (∀ (s : State) (u : Instant),
    (u ≤ s.tsg.nextBoundary →
      s.stampAhead u = ⟨s.second, ((u - s.tsg.lastBoundary) / 10 * 10).toNat, s.tsg.lastBoundary⟩) ∧
    (s.tsg.nextBoundary < u →
      s.stampAhead u = ⟨(s.second + 1) % 4294967296, ((u - s.tsg.nextBoundary) / 10 * 10).toNat,
        s.tsg.nextBoundary⟩)) ∧
  ∀ (s : State) (t : Instant) (bus : BusTimes) (k : SlotKind) (kind : Nat) (data : List Byte), s.ready = true →
    s.mayStart t bus.idle = true →
    ((k = .mark ∧ kind = 1 ∧ ∃ m, s.bus.mark = some m ∧ data = [m.seq]) ∨
     (k = .follow ∧ kind = 2 ∧ s.bus.mark = none ∧ ∃ f, s.bus.follow = some f ∧ data = followBytes f.data) ∨
     (k = .alert ∧ kind = 3 ∧ s.bus.mark = none ∧ s.bus.follow = none ∧
       ∃ m, s.bus.alert = some m ∧ data = be16 m ++ be16 s.scu.raised) ∨
     (k = .status0 ∧ kind = 4 ∧ s.bus.mark = none ∧ s.bus.follow = none ∧ s.bus.alert = none ∧
       s.bus.status0 = some data) ∨
     (k = .status1 ∧ kind = 4 ∧ s.bus.mark = none ∧ s.bus.follow = none ∧ s.bus.alert = none ∧
       s.bus.status0 = none ∧ s.bus.status1 = some data) ∨
     (k = .page ∧ kind = 5 ∧ s.bus.mark = none ∧ s.bus.follow = none ∧ s.bus.alert = none ∧
       s.bus.status0 = none ∧ s.bus.status1 = none ∧ ∃ p rest, s.bus.pages = p :: rest ∧ data = p.bytes)) →
    ∃ b, exec (.transmitAttemptStart t bus) s = .next ((s.at t).withBus b) ∧
      b = { s.bus with
        attempt := some
          { slot := k, inSlot := true, expired := false, drive := s.stamp t
            snapshot := if k = .mark then some ⟨s.tsg.stepCount, s.tsg.slewing, s.cls, s.eng.u⟩ else none
            frame := ⟨false, false, BitVec.ofNat 11 (kind * 32 + (s.pwr.address.val + 1)), data⟩ }
        seen := some (s.stampAhead bus.seen), waitSince := none }

/-- ATTEMPT_COMPLETED: the frame leaves its slot, the transmit error count falls by one, the data-field error count
returns to 0; a MARK leads to a FOLLOW with its sequence, its snapshot, a deadline of 200 ms and its drive timestamp's
nanoseconds, less 1,000,000,000 from there on (R61, R62, R64). In
ERROR_PASSIVE a wait begins (R57). -/
def Obligations.CompletedAttemptLeavesItsSlot : Prop :=
  ∀ (s : State) (t : Instant) (a : Attempt), s.ready = true → s.bus.attempt = some a → a.inSlot = true →
    ∃ u, exec (.attemptCompleted t) s = .next u ∧ u.tsg = { s.tsg with now := t } ∧
      u.bus.attempt = none ∧ u.bus.dataErrors = 0 ∧ u.bus.receiveErrors = s.bus.receiveErrors ∧
      u.bus.waitSince = (if u.bus.error = .errorPassive then some t else none) ∧
      (s.bus.error ≠ .busOff → s.bus.listenOnly = false → u.bus.transmitErrors = s.bus.transmitErrors - 1) ∧
      (s.bus.error = .busOff ∨ s.bus.listenOnly = true → u.bus.transmitErrors = s.bus.transmitErrors) ∧
      (a.slot = .mark → u.bus.mark = none) ∧
      (a.slot = .mark → s.silent = false → s.bus.listenOnly = false → ∀ n c, a.snapshot = some n → n.cls = some c →
        a.drive.ns < 1000000000 → n.u ≤ 2097151 →
        ∃ f, u.bus.follow = some f ∧ f.deadline = a.drive.instant + 200000000 ∧ f.data.seq = a.frame.data.headD 0 ∧
          f.data.cls = c ∧ f.data.txTime.toNat = a.drive.ns ∧ f.data.stepCount = n.stepCount ∧
          f.data.slewing = n.slewing ∧ f.data.u.toNat = n.u) ∧
      (a.slot = .mark → s.silent = false → s.bus.listenOnly = false → a.snapshot ≠ none →
        1000000000 ≤ a.drive.ns → a.drive.ns < 2000000000 →
        ∃ f, u.bus.follow = some f ∧ f.data.txTime.toNat = a.drive.ns - 1000000000) ∧
      (a.slot = .follow → a.snapshot = none → u.bus.follow = none) ∧
      (a.slot = .page → u.bus.pages = s.bus.pages.drop 1) ∧
      (a.slot = .status0 → u.bus.status0 = s.bus.wait0) ∧ (a.slot = .status1 → u.bus.status1 = s.bus.wait1) ∧
      (a.slot = .alert → u.bus.alert = if s.bus.aside = 0 then none else some s.bus.aside) ∧
      u.mon = s.mon ∧ u.ptu = s.ptu ∧ u.eng = s.eng ∧ u.lrn = s.lrn ∧ u.scu = s.scu ∧ u.pwr = s.pwr ∧
      u.eeprom = s.eeprom

/-- ARBITRATION_LOST leaves the frame in its slot, both error counts as they were, and the seen timestamp with the
frame that won (R51, R56, R61), with a wait in ERROR_PASSIVE (R57). A MARK, FOLLOW or PAGE whose deadline passed under
the attempt is dropped at its end, a MARK with MARK_LATE and its counter (R62). START_OF_FRAME_EDGE_SEEN timestamps an
edge of another party's (R50); an ERROR_PASSIVE wait that has ended by then, or that ERROR_ACTIVE has ended, is over
(R57, R59), and that one cut by the frame begins anew is the model's choice (log entry 27). -/
def Obligations.ArbitrationLostKeepsTheFrame : Prop :=
  (∀ (s : State) (t : Instant) (a : Attempt), s.ready = true → s.bus.attempt = some a → a.expired = false →
    ∃ b, exec (.arbitrationLost t) s = .next ((s.at t).withBus b) ∧ b.attempt = none ∧ b.dataErrors = 0 ∧
      b.seen = s.bus.seen ∧ b.waitSince = (if s.bus.error = .errorPassive then some t else none) ∧
      b.transmitErrors = s.bus.transmitErrors ∧ b.receiveErrors = s.bus.receiveErrors ∧
      b.error = s.bus.error ∧ b.mark = s.bus.mark ∧ b.follow = s.bus.follow ∧ b.pages = s.bus.pages ∧
      (s.bus.wait0 = none → b.status0 = s.bus.status0) ∧ (s.bus.wait1 = none → b.status1 = s.bus.status1) ∧
      (s.bus.aside = 0 → b.alert = s.bus.alert)) ∧
  (∀ (s : State) (t : Instant) (a : Attempt), s.ready = true → s.bus.attempt = some a → a.expired = true →
    a.inSlot = true →
    ∃ u, exec (.arbitrationLost t) s = .next u ∧ u.bus.attempt = none ∧ u.bus.seen = s.bus.seen ∧
      (a.slot = .mark → u.bus.mark = none ∧ u.bus.marksLate = countUp s.bus.marksLate ∧
        u.bus.follow = s.bus.follow ∧ u.bus.pages = s.bus.pages ∧
        ∀ f, hasFlag u.scu.raised f = (hasFlag s.scu.raised f || f = .markLate)) ∧
      (a.slot = .follow → u.bus.follow = none ∧ u.bus.mark = s.bus.mark ∧ u.bus.pages = s.bus.pages) ∧
      (a.slot = .page → u.bus.pages = s.bus.pages.drop 1 ∧ u.bus.mark = s.bus.mark ∧ u.bus.follow = s.bus.follow) ∧
      (a.slot ≠ .mark → u.scu = s.scu ∧ u.bus.marksLate = s.bus.marksLate) ∧
      u.eng = s.eng ∧ u.ptu = s.ptu ∧ u.mon = s.mon ∧ u.lrn = s.lrn) ∧
  (∀ (s : State) (t idle : Instant), s.ready = true → s.bus.joined = true → s.bus.attempt = none →
    let bit : Int := match s.cfg.busRate with
      | .kbit250 => 4000
      | .kbit500 => 2000
      | .kbit1000 => 1000
    ∃ w, exec (.startOfFrameEdgeSeen ⟨idle, t⟩) s = .next ((s.at t).withBus { s.bus with
        waitSince := w
        seen := some ⟨s.second, ((t - s.tsg.lastBoundary) / 10 * 10).toNat, s.tsg.lastBoundary⟩ }) ∧
      (s.bus.waitSince = none ∨ s.bus.error ≠ .errorPassive → w = none) ∧
      (∀ e, s.bus.waitSince = some e → s.bus.error = .errorPassive →
        w = if e ≤ idle ∧ idle + 8 * bit ≤ t then none else some t))

/-- TRANSMIT_ERROR adds 8 to the transmit error count, but for an acknowledgement error in ERROR_PASSIVE; above 255
the interface enters BUS_OFF with its flag; a third data-field bit error in a row is an address conflict (R54, R56,
R57, R58). A frame whose deadline passed under the attempt is dropped (R62), which at a third data-field bit error
comes before the queue is emptied, so that a MARK is counted late: the model's choice (log entry 30). RECEIVE_ERROR
adds 1 to the receive error count, which holds at 255. -/
def Obligations.BusErrorsCounted : Prop :=
  (∀ (s : State) (t : Instant) (a : Attempt) (kind : BusError) (inData : Bool), s.ready = true →
    s.bus.attempt = some a → s.bus.error ≠ .busOff → s.bus.listenOnly = false →
    let n := if kind = .acknowledgement ∧ s.bus.error = .errorPassive then s.bus.transmitErrors
      else s.bus.transmitErrors + 8
    let d := if kind = .bit ∧ inData = true then s.bus.dataErrors + 1 else 0
    ∃ u, exec (.transmitError t kind inData) s = .next u ∧ u.bus.attempt = none ∧ u.bus.seen = none ∧
      u.bus.transmitErrors = n ∧ u.bus.receiveErrors = s.bus.receiveErrors ∧
      u.bus.waitSince = (if u.bus.error = .errorPassive then some t else none) ∧
      (255 < n → u.bus.error = .busOff ∧ u.bus.recovery = 0 ∧ hasFlag u.scu.raised .busOff = true) ∧
      (n ≤ 255 → u.bus.error =
        if n < 128 ∧ s.bus.receiveErrors < 128 then .errorActive else .errorPassive) ∧
      (3 ≤ d → u.bus.dataErrors = 0 ∧ u.bus.listenOnly = true ∧ u.bus.mark = none ∧ u.bus.pages = [] ∧
        hasFlag u.scu.raised .addrConflict = true) ∧
      (d < 3 → u.bus.dataErrors = d ∧ u.bus.listenOnly = false ∧
        (a.expired = false → u.bus.mark = s.bus.mark ∧ u.bus.follow = s.bus.follow ∧ u.bus.pages = s.bus.pages)) ∧
      (a.expired = true → a.inSlot = true →
        (a.slot = .mark → u.bus.mark = none ∧ u.bus.marksLate = countUp s.bus.marksLate ∧
          hasFlag u.scu.raised .markLate = true) ∧
        (a.slot = .follow → u.bus.follow = none) ∧
        (a.slot = .page → d < 3 → u.bus.pages = s.bus.pages.drop 1) ∧
        (a.slot ≠ .mark → hasFlag u.scu.raised .markLate = hasFlag s.scu.raised .markLate)) ∧
      u.mon = s.mon ∧ u.ptu = s.ptu ∧ u.eng = s.eng ∧ u.lrn = s.lrn ∧ u.eeprom = s.eeprom) ∧
  (∀ (s : State) (t : Instant) (kind : BusError), s.ready = true → s.bus.joined = true → s.bus.attempt = none →
    s.bus.error ≠ .busOff → s.bus.listenOnly = false →
    ∃ b, exec (.receiveError t kind) s = .next ((s.at t).withBus b) ∧
      b = { s.bus with
        seen := none, receiveErrors := min 255 (s.bus.receiveErrors + 1)
        error := if s.bus.transmitErrors < 128 ∧ s.bus.receiveErrors + 1 < 128 then .errorActive
          else .errorPassive })

/-- RECOVERY_COUNT_RISE counts in BUS_OFF, and BUS_OFF_RECOVERY at 128 returns to ERROR_ACTIVE with the counts at 0
and the queue as it stood (R58). That the counts go to 0 in listen-only too is the model's choice (log entry 33). -/
def Obligations.BusOffRecovers : Prop :=
  (∀ s : State, s.ready = true → s.bus.error = .busOff →
    exec .recoveryCountRise s = .next (s.withBus { s.bus with recovery := s.bus.recovery + 1 })) ∧
  (∀ s : State, s.running = true → s.bus.error = .busOff → 128 ≤ s.bus.recovery →
    exec .busOffRecovery s = .next (s.withBus { s.bus with
      error := .errorActive, transmitErrors := 0, receiveErrors := 0, recovery := 0 }))

/-- MARK_DEADLINE drops a MARK that is not under attempt, with MARK_LATE and its counter; FOLLOW_DEADLINE and
PAGE_DEADLINE drop theirs with no flag; a frame under attempt is not cut (R62). -/
def Obligations.DeadlinesDropFrames : Prop :=
  (∀ (s : State) (m : MarkEntry), s.ready = true → s.bus.mark = some m → s.bus.attempting .mark = false →
    ∃ u, exec .markDeadline s = .next u ∧ u.tsg = { s.tsg with now := m.deadline } ∧ u.bus.mark = none ∧
      u.bus.marksLate = countUp s.bus.marksLate ∧ u.bus.follow = s.bus.follow ∧ u.bus.pages = s.bus.pages ∧
      (∀ f, hasFlag u.scu.raised f = (hasFlag s.scu.raised f || f = .markLate)) ∧ u.eng = s.eng ∧ u.ptu = s.ptu) ∧
  (∀ (s : State) (f : FollowEntry), s.ready = true → s.bus.follow = some f → s.bus.attempting .follow = false →
    exec .followDeadline s = .next ((s.at f.deadline).withBus { s.bus with follow := none })) ∧
  (∀ (s : State) (i : Fin 2) (p : PageEntry), s.ready = true → s.bus.pages[i.val]? = some p →
    s.bus.attempting .page = false →
    exec (.pageDeadline i) s = .next ((s.at p.deadline).withBus { s.bus with pages := s.bus.pages.eraseIdx i.val })) ∧
  (∀ (s : State) (m : MarkEntry) (a : Attempt), s.ready = true → s.bus.mark = some m → s.bus.attempt = some a →
    a.slot = .mark → a.inSlot = true →
    exec .markDeadline s =
      .next ((s.at m.deadline).withBus { s.bus with attempt := some { a with expired := true } })) ∧
  (∀ (s : State) (f : FollowEntry) (a : Attempt), s.ready = true → s.bus.follow = some f → s.bus.attempt = some a →
    a.slot = .follow → a.inSlot = true →
    exec .followDeadline s =
      .next ((s.at f.deadline).withBus { s.bus with attempt := some { a with expired := true } })) ∧
  (∀ (s : State) (p : PageEntry) (a : Attempt), s.ready = true → s.bus.attempt = some a → a.slot = .page →
    a.inSlot = true →
    (s.bus.pages[0]? = some p → exec (.pageDeadline 0) s =
      .next ((s.at p.deadline).withBus { s.bus with attempt := some { a with expired := true } })) ∧
    (s.bus.pages[1]? = some p →
      exec (.pageDeadline 1) s = .next ((s.at p.deadline).withBus { s.bus with pages := s.bus.pages.eraseIdx 1 })))

/-- A received frame is bad exactly when, being a data frame with an 11-bit identifier, its kind is above 5, its source
above 16, its source 0 in a frame that is no COMMAND or the reverse, its length not its kind's, or a COMMAND's spare bit
is set (R52). -/
def Obligations.BadFramesAreThoseOfTheRule : Prop :=
  ∀ f : RawFrame, readFrame f = .bad ↔
    (f.remote = false ∧ f.extended = false ∧
      (5 < f.ident.toNat / 32 ∨ 16 < f.ident.toNat % 32 ∨
       (f.ident.toNat / 32 = 0 ∧ f.ident.toNat % 32 ≠ 0) ∨ (f.ident.toNat / 32 ≠ 0 ∧ f.ident.toNat % 32 = 0) ∨
       f.data.length ≠ (if f.ident.toNat / 32 = 1 then 1 else if f.ident.toNat / 32 = 3 then 4 else 8) ∨
       (f.ident.toNat / 32 = 0 ∧ (f.data.getD 3 0).getLsbD 7 = true)))

/-- A MARK, a FOLLOW and a COMMAND laid out by R174 read back as what they carry, whatever their fields; and receiving
one is the command of the table that names it: for a COMMAND, the one of its code, and INVALID_COMMAND_CODE for a code
that the table does not list. -/
def Obligations.FramesReadBackAsSent : Prop :=
  (∀ a seq, readFrame (markRaw a seq) = .mark a seq) ∧
  (∀ a f, readFrame (followRaw a f) = .follow a f) ∧
  (∀ code c, readFrame (commandRaw code c) = .command code c) ∧
  (∀ (s : State) (t : Instant) (a : Fin 16) (seq : BitVec 8),
    exec (.frameReceived t (markRaw a seq)) s = exec (.markFrame t a seq) s) ∧
  (∀ (s : State) (t : Instant) (a : Fin 16) (f : FollowData),
    exec (.frameReceived t (followRaw a f)) s = exec (.followFrame t a f) s) ∧
  (∀ (s : State) (t : Instant) (code : BitVec 8) (c : CommandFrame), code = 0 ∨ 15 < code.toNat →
    exec (.frameReceived t (commandRaw code c)) s = exec (.invalidCommandCode t code c) s) ∧
  (∀ (s : State) (t : Instant) (c : CommandFrame), ∀ p ∈ ([(1, .statusQuery t c), (2, .clearErrors t c),
      (3, .alertEnable t c), (4, .alertDisable t c), (5, .errorSet t c), (6, .phaseStep t c), (7, .phaseSlew t c),
      (8, .adjustAbort t c), (9, .refInhibit t c), (10, .refRelease t c), (11, .historyRelease t c),
      (12, .tableRead t c), (13, .learnSave t c), (14, .learnClear t c), (15, .restart t c)] :
        List (BitVec 8 × Instr)), exec (.frameReceived t (commandRaw p.1 c)) s = exec p.2 s)

/-- FRAME_RECEIVED: a bad frame is counted and discarded, a remote frame or one with a 29-bit identifier ignored, and
another station's ALERT, STATUS or PAGE discarded (R52, R53). A frame with the own address, heard while no attempt is
open, raises ADDR_CONFLICT and makes the station listen-only with an empty queue; it reaches no other block (R54,
R55). -/
def Obligations.ReceivedFramesDiscardedOrOwn : Prop :=
  (∀ (s : State) (st : Stamp) (t : Instant) (f : RawFrame), s.hears st = true →
     (readFrame f = .bad → exec (.frameReceived t f) s =
       .next ((s.heard t).withBus { (s.heard t).bus with badFrames := countUp s.bus.badFrames })) ∧
     (readFrame f = .ignored → exec (.frameReceived t f) s = .next (s.heard t)) ∧
     (∀ a, readFrame f = .other a → a ≠ s.pwr.address → exec (.frameReceived t f) s = .next (s.heard t))) ∧
  (∀ (s : State) (st : Stamp) (t : Instant) (i : Instr), s.hears st = true →
     ((∃ seq, i = .markFrame t s.pwr.address seq) ∨ (∃ f, i = .followFrame t s.pwr.address f) ∨
      (∃ f, i = .frameReceived t f ∧ readFrame f = .other s.pwr.address)) →
     ∃ u, exec i s = .next u ∧ (∀ f, hasFlag u.scu.raised f = (hasFlag s.scu.raised f || f = .addrConflict)) ∧
       u.bus.listenOnly = true ∧
       (s.bus.listenOnly = false → u.bus.mark = none ∧ u.bus.follow = none ∧ u.bus.alert = none ∧
         u.bus.status0 = none ∧ u.bus.status1 = none ∧ u.bus.pages = [] ∧ u.bus.marksLate = s.bus.marksLate) ∧
       u.ptu = s.ptu ∧ u.mon = s.mon ∧ u.eng = s.eng ∧ u.lrn = s.lrn ∧ u.tsg = { s.tsg with now := t } ∧
       u.eeprom = s.eeprom)

/-! ### Marks and peers (chapter 5) -/

/-- MARK_FRAME fills the peer's pending-mark slot, a record held there being counted as unpaired (R68); when its timer
of 250 ms runs out, PENDING_TIMER_EXPIRY empties the slot and counts it (R69). -/
def Obligations.MarksAwaitTheirFollow : Prop :=
  (∀ (s : State) (st : Stamp) (t : Instant) (a : Fin 16) (seq : BitVec 8), s.hears st = true → a ≠ s.pwr.address →
    ∃ p, exec (.markFrame t a seq) s = .next ((s.heard t).withPtu p) ∧
      p.marks[a] = some ⟨seq, st.ns, st.second, 0, st.instant + 250000000⟩ ∧
      (∀ b, b ≠ a → p.marks[b] = s.ptu.marks[b]) ∧ p.peers = s.ptu.peers ∧ p.orphan = s.ptu.orphan ∧
      p.unpaired = (if s.ptu.marks[a] = none then s.ptu.unpaired else countUp s.ptu.unpaired)) ∧
  (∀ (s : State) (a : Fin 16) (m : PendingMark), s.ready = true → s.ptu.marks[a] = some m →
    ∃ p, exec (.pendingTimerExpiry a) s = .next ((s.at m.timer).withPtu p) ∧ p.marks[a] = none ∧
      (∀ b, b ≠ a → p.marks[b] = s.ptu.marks[b]) ∧ p.peers = s.ptu.peers ∧ p.orphan = s.ptu.orphan ∧
      p.unpaired = countUp s.ptu.unpaired)

/-- FOLLOW_FRAME: without a pending mark of its sequence it is an orphan and nothing else changes; at the instant
of the boundary at which its entry expired, the mark that the entry lost there serves as if it were still held, so that
the sample finds the entry EMPTY (R82; how, is the model's choice, log entry 31); with one, the record
is consumed, an EMPTY entry is seeded in LEARNING with 16 times the folded lead unless the peer is slewing, and a
QUARANTINED one is only heard (R70, R72, R74). A LEARNING or ACTIVE entry notes a slewing peer (R75), is seeded anew
without a filtered lead (R74), takes a step-count change by reseeding or, at the fourth within 600 s, by QUARANTINED
(R76), and otherwise checks the sample against the peer limit (R77): an IN one moves the filter (R78) and at four in a
row makes a LEARNING entry ACTIVE (R79); three OUT in the window reseed a LEARNING entry (R79) and put an ACTIVE one in
QUARANTINED (R80). Every entry to QUARANTINED raises PEER_QUARANTINE, and nothing else does. -/
def Obligations.FollowsPairWithTheirMark : Prop :=
  ∀ (s : State) (st : Stamp) (t : Instant) (a : Fin 16) (f : FollowData), s.hears st = true → a ≠ s.pwr.address →
    ((∀ m, s.ptu.marks[a] = some m → m.seq ≠ f.seq) →
      (s.ptu.marks[a] = none → t = s.tsg.lastBoundary → ∀ m, s.ptu.lapsed[a] = some m → m.seq ≠ f.seq) →
      exec (.followFrame t a f) s =
        .next ((s.heard t).withPtu { s.ptu with orphan := countUp s.ptu.orphan })) ∧
    (∀ m, s.ptu.marks[a] = none → t = s.tsg.lastBoundary → s.ptu.lapsed[a] = some m → m.seq = f.seq →
      exec (.followFrame t a f) s =
        exec (.followFrame t a f) (s.withPtu { s.ptu with marks := s.ptu.marks.set a (some m) })) ∧
    (∀ m, s.ptu.marks[a] = some m → m.seq = f.seq →
      ∃ u, exec (.followFrame t a f) s = .next u ∧ u.ptu.marks[a] = none ∧ u.ptu.orphan = s.ptu.orphan ∧
        u.ptu.lapsed[a] = none ∧ (∀ b, b ≠ a → u.ptu.lapsed[b] = s.ptu.lapsed[b] ∧ u.ptu.marks[b] = s.ptu.marks[b]) ∧
        u.ptu.unpaired = s.ptu.unpaired ∧ (∀ b, b ≠ a → u.ptu.peers[b] = s.ptu.peers[b]) ∧
        (s.ptu.peers[a] = none → f.slewing = true → u.ptu.peers[a] = none) ∧
        (s.ptu.peers[a] = none → f.slewing = false →
          ∃ e, u.ptu.peers[a] = some e ∧ e.state = .learning ∧ e.cls = f.cls ∧ e.u = f.u.toNat ∧
            e.stepSeen = f.stepCount ∧ e.run = 0 ∧ e.window = [] ∧ e.lastHeard = st.second ∧
            e.lf16 = some (16 * fold 1000000000
              ((f.txTime.toNat : Int) - ((m.rxNs : Int) - s.cfg.busDelay) + m.correction))) ∧
        (∀ e, s.ptu.peers[a] = some e → e.state = .quarantined →
          u.ptu.peers[a] = some { e with lastHeard := st.second }) ∧
        (s.ptu.peers[a] = none → u.scu = s.scu) ∧
        (∀ e, s.ptu.peers[a] = some e →
          (e.state = .quarantined ∨ (∀ x, u.ptu.peers[a] = some x → x.state ≠ .quarantined) → u.scu = s.scu) ∧
          (e.state ≠ .quarantined → (∃ x, u.ptu.peers[a] = some x ∧ x.state = .quarantined) →
            ∀ g, hasFlag u.scu.raised g = (hasFlag s.scu.raised g || g = .peerQuarantine))) ∧
        (∀ e, s.ptu.peers[a] = some e → e.state ≠ .quarantined → f.slewing = true →
          u.ptu.peers[a] = some { e with lastHeard := st.second, slewing := true }) ∧
        (∀ e, s.ptu.peers[a] = some e → e.state ≠ .quarantined → f.slewing = false →
          let l := fold 1000000000 ((f.txTime.toNat : Int) - ((m.rxNs : Int) - s.cfg.busDelay) + m.correction)
          let h := { e with lastHeard := st.second, cls := f.cls, u := f.u.toNat, slewing := false }
          let out := { h with
            state := .quarantined, quarantine := 120, lf16 := none, window := [], stepTimes := [], run := 0 }
          (e.lf16 = none → u.ptu.peers[a] = some { h with
            state := .learning, lf16 := some (16 * l), stepSeen := f.stepCount, run := 0, window := [] }) ∧
          (e.lf16 ≠ none → f.stepCount ≠ e.stepSeen →
            let times := pushBounded 4 e.stepTimes st.second
            let four : Prop := times.length = 4 ∧
              ∀ x y, times.head? = some x → times.getLast? = some y → secondsSince y x ≤ 600
            (four → u.ptu.peers[a] = some { out with stepSeen := f.stepCount }) ∧
            (¬four → u.ptu.peers[a] = some { h with
              stepSeen := f.stepCount, stepTimes := times, lf16 := some (16 * l), window := [], run := 0 })) ∧
          (∀ v, e.lf16 = some v → f.stepCount = e.stepSeen →
            let off := (fold 1000000000 (l - roundDiv v 16)).natAbs
            (off ≤ s.cfg.peerLimit → u.ptu.peers[a] = some { h with
              window := pushBounded 8 e.window false, run := min 4 (e.run + 1)
              lf16 := some (fold 16000000000
                (v + roundDiv (fold 16000000000 (16 * l - v)) s.cfg.filterConstant))
              state := if min 4 (e.run + 1) = 4 then .active else e.state }) ∧
            (s.cfg.peerLimit < off → outCount (pushBounded 8 e.window true) < 3 →
              u.ptu.peers[a] = some { h with window := pushBounded 8 e.window true, run := 0 }) ∧
            (s.cfg.peerLimit < off → 3 ≤ outCount (pushBounded 8 e.window true) →
              (e.state = .active → u.ptu.peers[a] = some out) ∧
              (e.state = .learning →
                u.ptu.peers[a] = some { h with lf16 := some (16 * l), window := [], run := 0 })))) ∧
        u.tsg = { s.tsg with now := t } ∧ u.mon = s.mon ∧ u.eng = s.eng ∧ u.lrn = s.lrn ∧ u.eeprom = s.eeprom)

/-! ### Commands (chapter 10) -/

/-- A COMMAND whose mask does not name the station is ignored, whatever its code (R160, step 1); one that names it with
a code that the table does not list is refused INVALID (R160, step 2). -/
def Obligations.CommandsForOthersIgnored : Prop :=
  (∀ (s : State) (st : Stamp) (t : Instant) (i : Instr) (code : BitVec 8) (c : CommandFrame), s.hears st = true →
    isNamed c s = false → commandOf i = some (code, c) →
    (i = .invalidCommandCode t code c ∨ (∃ f, i = .frameReceived t f) ∨ i = .statusQuery t c ∨ i = .clearErrors t c ∨
     i = .alertEnable t c ∨ i = .alertDisable t c ∨ i = .errorSet t c ∨ i = .phaseStep t c ∨ i = .phaseSlew t c ∨
     i = .adjustAbort t c ∨ i = .refInhibit t c ∨ i = .refRelease t c ∨ i = .historyRelease t c ∨
     i = .tableRead t c ∨ i = .learnSave t c ∨ i = .learnClear t c ∨ i = .restart t c) →
    exec i s = .next (s.heard t)) ∧
  (∀ (s : State) (st : Stamp) (t : Instant) (code : BitVec 8) (c : CommandFrame), s.hears st = true →
    isNamed c s = true → (code = 0 ∨ 15 < code.toNat) →
    ∃ u, exec (.invalidCommandCode t code c) s = .next u ∧ u.scu.cause = .invalid ∧
      u.scu.enabled = s.scu.enabled ∧
      (∀ f, hasFlag u.scu.raised f = (hasFlag s.scu.raised f || f = .cmdRefused)) ∧
      u.tsg = { s.tsg with now := t } ∧ u.mon = s.mon ∧ u.ptu = s.ptu ∧ u.eng = s.eng ∧ u.lrn = s.lrn ∧
      u.pwr = s.pwr ∧ u.eeprom = s.eeprom)

/-- CLEAR_ERRORS, ALERT_ENABLE, ALERT_DISABLE and ERROR_SET, flag by flag, with a mask of sixteen bits (R155, R157); a
larger argument is refused INVALID (R160, R174). The flags that ERROR_SET newly raises and that are enabled are
offered as an ALERT, which merges with the one queued and is discarded in listen-only (R55, R60, R154, R158).
STATUS_QUERY offers both parts of a STATUS (R159), which listen-only discards (R55). In any state, a flag newly raised
and enabled that comes while the ALERT is under attempt is held aside (R60); ALERT_N is low exactly while some flag is
both raised and enabled (R156). -/
def Obligations.FlagCommands : Prop :=
  (∀ (s : State) (st : Stamp) (t : Instant) (c : CommandFrame), s.hears st = true → isNamed c s = true →
    (c.argument.toNat ≤ 65535 →
      (∃ u, exec (.clearErrors t c) s = .next ((s.heard t).withScu u) ∧ u.enabled = s.scu.enabled ∧
        (∀ f : Flag, hasFlag u.raised f = (hasFlag s.scu.raised f && !c.argument.getLsbD f.index)) ∧
        u.cause = (if hasFlag s.scu.raised .cmdRefused = true ∧ c.argument.getLsbD 11 = true then .none
          else s.scu.cause)) ∧
      (∃ u, exec (.alertEnable t c) s = .next ((s.heard t).withScu u) ∧ u.raised = s.scu.raised ∧
        u.cause = s.scu.cause ∧
        (∀ f : Flag, hasFlag u.enabled f = (hasFlag s.scu.enabled f || c.argument.getLsbD f.index))) ∧
      (∃ u, exec (.alertDisable t c) s = .next ((s.heard t).withScu u) ∧ u.raised = s.scu.raised ∧
        u.cause = s.scu.cause ∧
        (∀ f : Flag, hasFlag u.enabled f = (hasFlag s.scu.enabled f && !c.argument.getLsbD f.index))) ∧
      (∃ u, exec (.errorSet t c) s = .next u ∧ u.scu.enabled = s.scu.enabled ∧ u.scu.cause = s.scu.cause ∧
        (∀ f : Flag, hasFlag u.scu.raised f = (hasFlag s.scu.raised f || c.argument.getLsbD f.index)) ∧
        (let offered : FlagSet := c.argument.extractLsb' 0 16 &&& s.scu.enabled &&& ~~~s.scu.raised
         u.bus = if offered = 0 ∨ s.bus.listenOnly = true then (s.heard t).bus
          else { (s.heard t).bus with alert := some (s.bus.alert.getD 0 ||| offered) }) ∧
        u.tsg = { s.tsg with now := t } ∧ u.mon = s.mon ∧ u.ptu = s.ptu ∧ u.eng = s.eng ∧ u.lrn = s.lrn ∧
        u.pwr = s.pwr ∧ u.eeprom = s.eeprom)) ∧
    (65535 < c.argument.toNat → ∀ i ∈ [Instr.clearErrors t c, .alertEnable t c, .alertDisable t c, .errorSet t c],
      ∃ u, exec i s = .next u ∧ u.scu.cause = .invalid ∧ u.scu.enabled = s.scu.enabled ∧
        (∀ f, hasFlag u.scu.raised f = (hasFlag s.scu.raised f || f = .cmdRefused))) ∧
    (s.bus.listenOnly = false → exec (.statusQuery t c) s = .next ((s.heard t).withBus { (s.heard t).bus with
      status0 := some (statusPart0 s), status1 := some (statusPart1 s) })) ∧
    (s.bus.listenOnly = true → exec (.statusQuery t c) s = .next (s.heard t))) ∧
  (∀ (s : State) (f : Flag), (raise f s).scu.raised = s.scu.raised ||| f.mask ∧
    (hasFlag s.scu.raised f = true → raise f s = s) ∧
    (hasFlag s.scu.raised f = false → hasFlag s.scu.enabled f = true → s.bus.listenOnly = false →
      (s.bus.attempting .alert = true → (raise f s).bus = { s.bus with aside := s.bus.aside ||| f.mask }) ∧
      (s.bus.attempting .alert = false →
        (raise f s).bus = { s.bus with alert := some (s.bus.alert.getD 0 ||| f.mask) })) ∧
    (hasFlag s.scu.raised f = false → hasFlag s.scu.enabled f = false ∨ s.bus.listenOnly = true →
      (raise f s).bus = s.bus)) ∧
  (∀ s : State, s.alertLow = true ↔ ∃ f, hasFlag s.scu.raised f = true ∧ hasFlag s.scu.enabled f = true)

/-- PHASE_STEP and PHASE_SLEW pass the checks in the order of R160 and are refused with the cause of the first that
fails; one that passes is taken into the slot for boundary j + d, and for d = 1 is committed at once (R12, R13, R161,
R162). The guard window is the first 50 ms after the boundary before the timestamp and the last 50 ms before the one
that follows it (R161). -/
def Obligations.PhaseAdjustments : Prop :=
  (∀ (s : State) (st : Stamp), s.inGuard st = true ↔ st.ns < 50000000 ∨
    (if st.second = s.tsg.boundaryIndex % 4294967296 then s.tsg.nextBoundary else s.tsg.lastBoundary) -
      (st.opened + (st.ns : Int)) < 50000000) ∧
  ∀ (s : State) (st : Stamp) (t : Instant) (c : CommandFrame) (kind : AdjustKind) (i : Instr), s.hears st = true →
    isNamed c s = true → ((kind = .step ∧ i = .phaseStep t c) ∨ (kind = .slew ∧ i = .phaseSlew t c)) →
    let a := c.argument.toInt
    let d := c.byte3.toNat
    let part : Int := if kind = .step then a else if 0 ≤ a then min a s.cfg.slewRate else -(min (-a) s.cfg.slewRate)
    let inRange : Prop := a ≠ 0 ∧ a.natAbs ≤ 499999999 ∧ 1 ≤ d ∧ d ≤ 15
    let busy : Prop := s.tsg.slot ≠ none ∨ (d = 1 ∧ s.tsg.committed ≠ none)
    let late : Prop := d = 1 ∧ s.tsg.nextWith part < st.instant + 50000000
    (inRange → s.silent = false → s.inGuard st = false → ¬busy → ¬late →
      ∃ x, exec i s = .next ((s.heard t).withTsg x) ∧
        x.slot = some ⟨.command, kind, a, a, secondAfter st.second d, false⟩ ∧
        (d = 1 → x.committed = some ⟨part, .command, kind, true, false⟩ ∧ x.nextBoundary = s.tsg.nextWith part) ∧
        (d ≠ 1 → x.committed = s.tsg.committed ∧ x.nextBoundary = s.tsg.nextBoundary) ∧
        x.phi = s.tsg.phi ∧ x.trim = s.tsg.trim ∧ x.stepCount = s.tsg.stepCount ∧
        x.lastBoundary = s.tsg.lastBoundary ∧ x.fInForce = s.tsg.fInForce) ∧
    (∀ cause,
      ((¬inRange ∧ cause = .invalid) ∨ (inRange ∧ s.silent = true ∧ cause = .state) ∨
       (inRange ∧ s.silent = false ∧ s.inGuard st = true ∧ cause = .late) ∨
       (inRange ∧ s.silent = false ∧ s.inGuard st = false ∧ busy ∧ cause = .busy) ∨
       (inRange ∧ s.silent = false ∧ s.inGuard st = false ∧ ¬busy ∧ late ∧ cause = .late)) →
      ∃ u, exec i s = .next u ∧ u.scu.cause = cause ∧ hasFlag u.scu.raised .cmdRefused = true ∧
        u.tsg = { s.tsg with now := t } ∧ u.mon = s.mon ∧ u.ptu = s.ptu ∧ u.eng = s.eng ∧ u.lrn = s.lrn)

/-- ADJUST_ABORT empties the slot; a committed amount stays committed, and with none the end of a started slew counts at
once (R14, R15). -/
def Obligations.AbortEmptiesTheSlot : Prop :=
  ∀ (s : State) (st : Stamp) (t : Instant) (c : CommandFrame), s.hears st = true → isNamed c s = true →
    ∃ x, exec (.adjustAbort t c) s = .next ((s.heard t).withTsg x) ∧ x.slot = none ∧
      x.committedAmount = s.tsg.committedAmount ∧ x.nextBoundary = s.tsg.nextBoundary ∧ x.phi = s.tsg.phi ∧
      x.trim = s.tsg.trim ∧ x.fSet = s.tsg.fSet ∧
      (s.tsg.committed ≠ none ∨ s.tsg.slewStarted = false →
        x.stepCount = s.tsg.stepCount ∧ x.slewing = s.tsg.slewing) ∧
      (s.tsg.committed = none → s.tsg.slewStarted = true →
        x.stepCount = s.tsg.stepCount + 1 ∧ x.slewing = false)

/-- REF_INHIBIT and REF_RELEASE set and clear the inhibit; outside WARMUP and FAULT a selection follows, which leaves
the reference or takes a QUALIFIED one (R106, R107, R108). -/
def Obligations.InhibitAndRelease : Prop :=
  ∀ (s : State) (st : Stamp) (t : Instant) (c : CommandFrame), s.hears st = true → isNamed c s = true →
    (s.silent = true →
      exec (.refInhibit t c) s = .next ((s.heard t).withEng { s.eng with inhibit := true }) ∧
      exec (.refRelease t c) s = .next ((s.heard t).withEng { s.eng with inhibit := false })) ∧
    (s.silent = false → ∃ u, exec (.refInhibit t c) s = .next u ∧ u.eng.inhibit = true ∧
      u.eng.state ≠ .locked ∧ ¬(u.eng.state = .acquire ∧ u.eng.source = some .reference) ∧
      u.mon = s.mon ∧ u.ptu = s.ptu ∧ u.pwr = s.pwr ∧ u.eeprom = s.eeprom) ∧
    (s.silent = false → s.mon.qual = .qualified → ∃ u, exec (.refRelease t c) s = .next u ∧ u.eng.inhibit = false ∧
      u.eng.source = some .reference ∧ (s.eng.source ≠ some .reference → u.eng.state = .acquire) ∧
      u.eng.integral = s.eng.integral ∧ u.mon = s.mon ∧ u.ptu = s.ptu ∧ u.pwr = s.pwr ∧ u.eeprom = s.eeprom)

/-- HISTORY_RELEASE unfreezes and empties the residual history ring (R38); TABLE_READ queues the page with a deadline
of 1 s, or is refused BUSY with both slots full and INVALID above page 69, and in listen-only the page is discarded
(R162, R163). The eight bytes of each page are those of R163 and R174: a bin's count, mean and deviation; the history
ring; the counters; A, the aging fill, the base of the holdover record and the fill of the frequency ring. -/
def Obligations.HistoryReleaseAndTableRead : Prop :=
  (∀ (s : State) (n : Nat), n ≤ 69 →
    let h := s.mon.history
    let ring : Nat := 16 * (h.fill % 16) + 2 * h.pointer.val + h.frozen.toNat
    (pageBytes s n).map BitVec.toNat = n ::
      if n < 64 then
        (match s.lrn.table[n]? with
          | some b => bytesOf 2 (min 65535 b.count : Nat) ++
              bytesOf 3 (max (-8388608) (min 8388607 (roundDiv b.mean 250))) ++ bytesOf 2 (min 65535 b.deviation : Nat)
          | none => [])
      else if n = 64 then bytesOf 2 h.slots[0] ++ bytesOf 2 h.slots[1] ++ bytesOf 2 h.slots[2] ++ [ring]
      else if n = 65 then bytesOf 2 h.slots[3] ++ bytesOf 2 h.slots[4] ++ bytesOf 2 h.slots[5] ++ [ring]
      else if n = 66 then bytesOf 2 h.slots[6] ++ bytesOf 2 h.slots[7] ++ [0, 0, ring]
      else if n = 67 then bytesOf 2 s.ptu.unpaired ++ bytesOf 2 s.ptu.orphan ++ bytesOf 2 s.bus.badFrames ++ [0]
      else if n = 68 then bytesOf 2 s.bus.marksLate ++ bytesOf 2 s.mon.missingCount ++ bytesOf 2 s.mon.extraCount ++ [0]
      else bytesOf 2 (16 * max (-2048) (min 2047 s.lrn.rate) + (s.lrn.aging.length % 16 : Nat)) ++
        bytesOf 4 (match s.eng.record with
          | some r => max (-2147483647) (min 2147483647 r.base)
          | none => -2147483648) ++ [s.eng.ring.length % 256]) ∧
  ∀ (s : State) (st : Stamp) (t : Instant) (c : CommandFrame), s.hears st = true → isNamed c s = true →
    exec (.historyRelease t c) s = .next ((s.heard t).withMon { s.mon with
      history := ⟨Vector.replicate 8 0, 0, 7, false⟩ }) ∧
    (c.byte3.toNat ≤ 69 → s.bus.listenOnly = false → s.bus.pages.length < 2 →
      exec (.tableRead t c) s = .next ((s.heard t).withBus { (s.heard t).bus with
        pages := s.bus.pages ++ [⟨pageBytes (s.heard t) c.byte3.toNat, t + 1000000000⟩] })) ∧
    (c.byte3.toNat ≤ 69 → s.bus.listenOnly = true → exec (.tableRead t c) s = .next (s.heard t)) ∧
    (69 < c.byte3.toNat ∨ (s.bus.listenOnly = false ∧ 2 ≤ s.bus.pages.length) →
      ∃ u, exec (.tableRead t c) s = .next u ∧
        u.scu.cause = (if 69 < c.byte3.toNat then .invalid else .busy) ∧
        hasFlag u.scu.raised .cmdRefused = true ∧ u.bus.pages = s.bus.pages ∧ u.lrn = s.lrn)

/-- LEARN_SAVE starts a save with its first page, the cleared marker, or, while a page write that a RESTART left runs
on, to begin after it (log entry 16); LEARN_CLEAR empties what was learned; both are refused BUSY while a save is in
flight (R149, R150). -/
def Obligations.LearnSaveAndClear : Prop :=
  ∀ (s : State) (st : Stamp) (t : Instant) (c : CommandFrame), s.hears st = true → isNamed c s = true →
    (s.lrn.save = none → s.lrn.pageWrite = none →
      exec (.learnSave t c) s = .next ((s.heard t).withLrn { s.lrn with
        save := some ⟨0, 0, []⟩, pageWrite := some ⟨256, List.replicate 16 0, true⟩ })) ∧
    (s.lrn.save = none → s.lrn.pageWrite ≠ none →
      exec (.learnSave t c) s = .next ((s.heard t).withLrn { s.lrn with save := some ⟨0, 0, []⟩ })) ∧
    (s.lrn.save = none →
      exec (.learnClear t c) s = .next ((s.heard t).withLrn { s.lrn with
        table := Vector.replicate 64 ⟨0, 0, 0⟩, aging := [], rate := 0, agingClock := 0 })) ∧
    (s.lrn.save ≠ none → ∀ i ∈ [Instr.learnSave t c, .learnClear t c],
      ∃ u, exec i s = .next u ∧ u.scu.cause = .busy ∧ hasFlag u.scu.raised .cmdRefused = true ∧ u.lrn = s.lrn ∧
        u.eeprom = s.eeprom)

/-- EEPROM_PAGE_WRITE_DONE puts the page's bytes into the memory, no other byte, and begins the next page or ends the
save (R150), but does not put there the validity marker of a save that a RESTART abandoned (R151; DEDUCED, log entry
16). A page write is a transfer to the memory's device address with the two bytes of its memory address, and the reads
of LOAD are transfers that answer with the two blocks (R151, R175; how far each reaches is the model's choice, log
entry 22). EEPROM_FAILURE abandons the save with STORE_FAULT (R151), and the memory takes the page under way or not,
as its operand says (log entry 15), but not the validity marker (R151); that of a write which a RESTART left raises
nothing (DEDUCED, log entry 16). Each page of a save has its address and its sixteen bytes (R150, R175): zeros over
the marker, two bins, two samples of the aging ring with the ages of the instant at which the first aging page begins,
and the marker page with A, the fill count and the sum of the bytes of the pages before it. -/
def Obligations.PageWritesLandOrFail : Prop :=
  (∀ n : Nat, (savePageAddr n).toNat = if n = 0 ∨ 37 ≤ n then 256 else 256 + 16 * n) ∧
  (∀ (s : State) (p : SaveProgress),
    let n := p.page
    let bytes := (savePageBytes s p).map BitVec.toNat
    let bin (i : Nat) : List Nat := match s.lrn.table[i]? with
      | some b => bytesOf 2 b.count ++ bytesOf 4 b.mean ++ bytesOf 2 (min 65535 b.deviation : Nat)
      | none => []
    let sample (i : Nat) : List Nat := match p.aging[i]? with
      | some (z, age) => bytesOf 4 (max (-2147483647) (min 2147483647 z)) ++ bytesOf 4 age
      | none => List.replicate 8 0
    (n = 0 → bytes = List.replicate 16 0) ∧
    (1 ≤ n → n ≤ 32 → bytes = bin (2 * n - 2) ++ bin (2 * n - 1)) ∧
    (33 ≤ n → n ≤ 36 → bytes = sample (2 * n - 66) ++ sample (2 * n - 65)) ∧
    (37 ≤ n → bytes = [182, 77] ++ bytesOf 2 s.lrn.rate ++ [p.aging.length % 256] ++ bytesOf 2 p.check.toNat ++
      List.replicate 9 0)) ∧
  (∀ (s : State) (w : PageWrite), s.ready = true → s.lrn.pageWrite = some w → Memory.wf s.eeprom = true →
    ∃ u, exec .eepromPageWriteDone s = .next u ∧
      (w.ofSave = true ∨ w.validates = false →
        ∀ k b, w.bytes[k]? = some b → Memory.read u.eeprom (w.addr.toNat + k) = b) ∧
      (w.ofSave = false → w.validates = true → u.eeprom = s.eeprom) ∧
      (∀ a, a < w.addr.toNat ∨ w.addr.toNat + w.bytes.length ≤ a → Memory.read u.eeprom a = Memory.read s.eeprom a) ∧
      (s.lrn.save = none → u.lrn = { s.lrn with pageWrite := none }) ∧
      (∀ p, s.lrn.save = some p → w.ofSave = true → 37 ≤ p.page →
        u.lrn = { s.lrn with pageWrite := none, save := none }) ∧
      (∀ p, s.lrn.save = some p → w.ofSave = true → p.page < 37 →
        ∃ q v, u.lrn.save = some q ∧ q.page = p.page + 1 ∧ u.lrn.pageWrite = some v ∧
          v.addr = savePageAddr (p.page + 1) ∧ v.ofSave = true ∧ v.bytes = savePageBytes s q ∧
          q.aging = (if q.page = 33 then s.lrn.aging.map fun x => (x.z, secondsSince s.second x.second) else p.aging) ∧
          q.check = (if q.page ≤ 36 then p.check + BitVec.ofNat 16 (v.bytes.map BitVec.toNat).sum else p.check)) ∧
      u.lrn.table = s.lrn.table ∧ u.tsg = s.tsg ∧ u.mon = s.mon ∧ u.bus = s.bus ∧ u.ptu = s.ptu ∧ u.eng = s.eng ∧
      u.scu = s.scu) ∧
  (∀ (s : State) (w : PageWrite) (taken : Bool), s.ready = true → s.lrn.pageWrite = some w → w.ofSave = true →
    ∃ u, exec (.eepromFailure taken) s = .next u ∧ u.lrn = { s.lrn with pageWrite := none, save := none } ∧
      u.eeprom = (if taken && !w.validates then Memory.writeAll s.eeprom w.addr.toNat w.bytes else s.eeprom) ∧
      (∀ f, hasFlag u.scu.raised f = (hasFlag s.scu.raised f || f = .storeFault)) ∧
      u.tsg = s.tsg ∧ u.mon = s.mon ∧ u.ptu = s.ptu ∧ u.eng = s.eng) ∧
  (∀ (s : State) (w : PageWrite) (taken : Bool), s.ready = true → s.lrn.pageWrite = some w → w.ofSave = false →
    s.lrn.save = none →
    exec (.eepromFailure taken) s = .next ((s.withLrn { s.lrn with pageWrite := none }).withEeprom
      (if taken && !w.validates then Memory.writeAll s.eeprom w.addr.toNat w.bytes else s.eeprom))) ∧
  (∀ w : PageWrite, w.transfer =
    ⟨80, [w.addr.extractLsb' 8 8, w.addr.extractLsb' 0 8], .write w.bytes⟩ ∧
    (w.validates = true ↔ w.addr = 256 ∧ w.bytes.take 2 = [182, 77])) ∧
  (∀ m : Memory,
    (LoadStage.configuration.transfers.map (Memory.answer m)).flatten = Memory.readAll m 0 56 ∧
    (LoadStage.learning.transfers.map (Memory.answer m)).flatten = Memory.readAll m 256 592 ∧
    ∀ x ∈ LoadStage.configuration.transfers ++ LoadStage.learning.transfers, x.device = 80)

/-- RESTART in the order of R164: the raised set is cleared, the queue emptied and listen-only cleared, then each
block takes its RESTART values (R17, R32, R48, R66, R88, R100, R122, R137, R153). The flags that stand after it are
those its own acts raise: SOURCE_CHANGE at a change of class, HOLD_EXHAUSTED at an entry to FREERUN (R137, R164). The
error state, the transmit error count and the recovery count, the step count and the slewing flag but for a running
slew's end (R14), the sampling state and the last reading are kept, and PPS_OUT and FREQ_OUT unless a mute cause
begins (R8, R17); the power controller, the settings and the EEPROM keep theirs (R172). One taken while an attempt is
open lets the attempt run to its end, its slot emptied (R66); that it may then be taken at all, and that the seen
timestamp stays with the frame of the attempt, is the model's choice (log entry 17). -/
def Obligations.RestartValues : Prop :=
  (∀ (s : State) (st : Stamp) (t : Instant) (c : CommandFrame), s.ready = true → s.bus.joined = true →
    s.bus.seen = some st → isNamed c s = true →
    let state : EngineState := if 0 < s.eng.warmupLeft then .warmup else .freerun
    let exhausted : Prop := s.eng.warmupLeft = 0 ∧ s.cfg.holdoverLimit < 2097151
    ∃ u, exec (.restart t c) s = .next u ∧
      u.mon = Monitor.reset ∧ u.ptu = PeerUnit.reset ∧
      u.lrn = { s.lrn with save := none, pageWrite := s.lrn.pageWrite.map fun w => { w with ofSave := false } } ∧
      u.eng = { s.eng with
        state := state, source := none, pt := 0, ring := [], lockCount := 0, largeCount := 0, steerCount := 0
        inhibit := false, lastY := none, lastC := none, disagree := 0, record := none, nudge := 0
        lastPrediction := none, followedU := none, u := 2097151
        exhaustionOrder := decide (exhausted ∧ s.cfg.muteOnExhaustion = true) } ∧
      (∀ f, hasFlag u.scu.raised f = decide
        (f = .sourceChange ∧ classOf s.eng.state ≠ classOf state ∨ f = .holdExhausted ∧ exhausted)) ∧
      u.scu.enabled = s.scu.enabled ∧ u.scu.cause = .none ∧
      u.tsg.slot = none ∧ u.tsg.committedAmount = s.tsg.committedAmount ∧ u.tsg.phi = s.tsg.phi ∧
      u.tsg.trim = s.tsg.trim ∧ u.tsg.fInForce = s.tsg.fInForce ∧ u.tsg.osc = s.tsg.osc ∧
      u.tsg.windowGap = s.tsg.windowGap ∧ u.tsg.nextBoundary = s.tsg.nextBoundary ∧
      u.tsg.boundaryIndex = s.tsg.boundaryIndex ∧ u.tsg.lastBoundary = s.tsg.lastBoundary ∧
      u.tsg.fSet = (if 0 < s.eng.warmupLeft then s.tsg.fSet else freeRunF s) ∧
      (s.tsg.committed ≠ none ∨ s.tsg.slewStarted = false →
        u.tsg.stepCount = s.tsg.stepCount ∧ u.tsg.slewing = s.tsg.slewing) ∧
      (s.tsg.committed = none → s.tsg.slewStarted = true →
        u.tsg.stepCount = s.tsg.stepCount + 1 ∧ u.tsg.slewing = false) ∧
      u.tsg.outputsRunning = (s.tsg.outputsRunning && !u.muteCause) ∧ u.tsg.ppsOut = (s.tsg.ppsOut && !u.muteCause) ∧
      u.bus.listenOnly = false ∧ u.bus.dataErrors = 0 ∧ u.bus.mark = none ∧ u.bus.follow = none ∧
      u.bus.pages = [] ∧ u.bus.wait0 = none ∧ u.bus.wait1 = none ∧ u.bus.aside = 0 ∧
      (s.eng.state = state → u.bus.status0 = none ∧ u.bus.status1 = none) ∧
      (u.scu.raised = 0 → u.bus.alert = none) ∧
      u.bus.badFrames = 0 ∧ u.bus.marksLate = 0 ∧ u.bus.sequence = s.bus.sequence ∧ u.bus.joined = true ∧
      u.bus.transmitErrors = s.bus.transmitErrors ∧ u.bus.recovery = s.bus.recovery ∧
      u.bus.receiveErrors = (if s.bus.error = .busOff ∨ s.bus.listenOnly = true then s.bus.receiveErrors
        else s.bus.receiveErrors - 1) ∧
      u.bus.error = (if s.bus.error = .busOff then .busOff
        else if s.bus.transmitErrors < 128 ∧ u.bus.receiveErrors < 128 then .errorActive else .errorPassive) ∧
      u.pwr = s.pwr ∧ u.cfg = s.cfg ∧ u.eeprom = s.eeprom ∧
      (s.bus.attempt = none → u.bus.attempt = none ∧ u.bus.seen = none) ∧
      (∀ a, s.bus.attempt = some a →
        u.bus.attempt = some { a with inSlot := false } ∧ u.bus.seen = s.bus.seen))

/-! ### Arithmetic of the rules -/

/-- What sets F. An observation in LOCKED on a trusted reference, with no steering limit due: proportional term,
integral and F by R111, the push by R117, the last y by R112, U by R131; a large input counts, and the third in a row
goes back to ACQUIRE, where it asks for a step (R109, R116). An observation in ACQUIRE: a large one asks for an engine
step, for the next boundary where that is free and 50 ms off (R11, R113); a small one is an update with 64 s, and the
fourth in a row within the lock threshold brings LOCKED (R113, R115). A consensus is an input in FOLLOW and in ACQUIRE
on its tier in the same way, saturated, with P for its period (R110, R112, R116). A point in LOCKED makes the
disagreement check, and the count reached raises REF_DISAGREE and disqualifies the reference (R97, R98). At an own
boundary in HOLDOVER that brings no observation and no point, F is the prediction, exact and rounded once, plus the
nudge (R125); in FREERUN it is the table's value at the current bin (R130). The nudge of a point in HOLDOVER is formed
from tier 2 and sets F at once (R127, R128), and the boundary's work and the nudge lead to one F in either order
(R128). That the counters are 0 after a return to ACQUIRE is the model's reading (DEDUCED, log entry 13), and that the
order follows the point's own selection its choice (log entry 18). -/
def Obligations.LockedObservationSteers : Prop :=
  (∀ (s : State) (y : Int), s.eng.state = .locked → s.eng.source = some .reference → s.eng.inhibit = false →
    s.mon.qual = .qualified →
    let large := if s.cfg.stepThreshold < y.natAbs then s.eng.largeCount + 1 else 0
    large < 3 →
    let i := clampAbs 2000000000000
      (s.eng.integral + roundDiv (1000000000 * y * s.cfg.decimation) (s.cfg.tauRef * s.cfg.tauRef))
    let p := roundDiv (2000 * y) s.cfg.tauRef
    let t := takeObservation y s
    t.eng = { s.eng with
      integral := i, pt := p, lastY := some y, largeCount := large, u := min 2097151 (20 + y.natAbs)
      ring := pushBounded 16 s.eng.ring (roundDiv i 1000) } ∧
    t.tsg = { s.tsg with fSet := clampAbs 2000000 (roundDiv i 1000000 + p) } ∧
    t.mon = s.mon ∧ t.ptu = s.ptu ∧ t.bus = s.bus ∧ t.scu = s.scu ∧ t.lrn.aging = s.lrn.aging ∧
    (s.lrn.sampling ≠ .fresh → t.lrn = s.lrn)) ∧
  (∀ (s : State) (y : Int), s.eng.state = .locked → s.eng.source = some .reference → s.eng.inhibit = false →
    s.mon.qual = .qualified → s.cfg.stepThreshold < y.natAbs → 2 ≤ s.eng.largeCount →
    let t := takeObservation y s
    t.eng = { s.eng with
      state := .acquire, pt := 0, lockCount := 0, largeCount := 0, steerCount := 0, disagree := 0, record := none
      nudge := 0, lastPrediction := none, exhaustionOrder := false, lastY := some y, u := 2097151 } ∧
    t.tsg.fSet = roundDiv s.eng.integral 1000000 ∧ hasFlag t.scu.raised .sourceChange = true ∧
    (∀ r, s.tsg.slot = some r → t.tsg.slot = some r ∧ t.tsg.committed = s.tsg.committed) ∧
    (s.tsg.slot = none → ∃ due, t.tsg.slot = some ⟨.engine, .step, y, y, due, false⟩) ∧
    t.mon = s.mon ∧ t.ptu = s.ptu ∧ t.lrn = s.lrn) ∧
  (∀ (s : State) (y : Int), s.eng.state = .acquire → s.eng.source = some .reference → s.eng.inhibit = false →
    s.mon.qual = .qualified →
    let t := takeObservation y s
    let next := if s.tsg.osc = .present then
      place (s.tsg.boundaryIndex + 1) (narrowPhi (s.tsg.phi + s.tsg.fInForce + 1000 * y)) else s.tsg.nextBoundary
    let soon : Prop := s.tsg.committed = none ∧ s.tsg.now + 50000000 ≤ next
    let i := clampAbs 2000000000000 (s.eng.integral + roundDiv (1000000000 * y * s.cfg.decimation) 4096)
    let p := roundDiv (2000 * y) 64
    let n := if y.natAbs ≤ s.cfg.lockThreshold then s.eng.lockCount + 1 else 0
    (s.cfg.stepThreshold < y.natAbs →
      t.eng = { s.eng with lockCount := 0, lastY := some y, u := 2097151 } ∧
      (s.tsg.slot ≠ none → t.tsg = s.tsg) ∧
      (s.tsg.slot = none → soon →
        t.tsg.slot = some ⟨.engine, .step, y, y, (s.tsg.boundaryIndex + 1) % 4294967296, false⟩ ∧
        t.tsg.committed = some ⟨y, .engine, .step, true, false⟩ ∧ t.tsg.nextBoundary = next) ∧
      (s.tsg.slot = none → ¬soon → t.tsg = { s.tsg with
        slot := some ⟨.engine, .step, y, y, (s.tsg.boundaryIndex + 2) % 4294967296, false⟩ }) ∧ t.scu = s.scu) ∧
    (y.natAbs ≤ s.cfg.stepThreshold → n < 4 →
      t.eng = { s.eng with integral := i, pt := p, lockCount := n, lastY := some y, u := 2097151 } ∧
      t.tsg = { s.tsg with fSet := clampAbs 2000000 (roundDiv i 1000000 + p) } ∧ t.scu = s.scu) ∧
    (y.natAbs ≤ s.cfg.stepThreshold → 4 ≤ n →
      t.eng = { s.eng with
        state := .locked, integral := i, pt := p, lockCount := 0, largeCount := 0, steerCount := 0, lastY := some y
        u := min 2097151 (20 + y.natAbs) } ∧
      t.tsg.fSet = clampAbs 2000000 (roundDiv i 1000000 + p) ∧ t.tsg.slot = s.tsg.slot ∧
      hasFlag t.scu.raised .sourceChange = true) ∧
    t.mon = s.mon ∧ t.ptu = s.ptu ∧ t.lrn = s.lrn) ∧
  (∀ (s : State) (k : Tier), s.eng.source = some (.tier k) →
    ((s.ptu.tier k).consensus = none → consensusInput s = s) ∧
    (∀ c, (s.ptu.tier k).consensus = some c →
      let y : Int := max (-32767) (min 32767 c.value)
      let t := consensusInput s
      let tau := if s.eng.state = .follow then s.cfg.tauFollow else 64
      let i := clampAbs 2000000000000
        (s.eng.integral + roundDiv (1000000000 * y * s.cfg.pointInterval) (tau * tau))
      let p := roundDiv (2000 * y) tau
      let f := clampAbs 2000000 (roundDiv i 1000000 + p)
      let u := min 2097151 (c.leastU + 100 + c.value.natAbs)
      let taken := { s.eng with lastC := some ⟨c.value, k⟩, followedU := some c.leastU }
      (s.eng.state = .follow →
        let large := if s.cfg.stepThreshold < y.natAbs then s.eng.largeCount + 1 else 0
        (large < 3 →
          t.eng = { taken with
            integral := i, pt := p, largeCount := large, u := u
            ring := if k = .one then pushBounded 16 s.eng.ring (roundDiv i 1000) else s.eng.ring } ∧
          t.tsg = { s.tsg with fSet := f } ∧ t.scu = s.scu) ∧
        (3 ≤ large →
          t.eng = { taken with
            state := .acquire, pt := 0, lockCount := 0, largeCount := 0, steerCount := 0, disagree := 0
            record := none, nudge := 0, lastPrediction := none, exhaustionOrder := false, u := 2097151 } ∧
          t.tsg.fSet = roundDiv s.eng.integral 1000000 ∧
          (s.tsg.slot = none → ∃ due, t.tsg.slot = some ⟨.engine, .step, y, y, due, false⟩))) ∧
      (s.eng.state = .acquire →
        let n := if y.natAbs ≤ s.cfg.lockThreshold then s.eng.lockCount + 1 else 0
        (s.cfg.stepThreshold < y.natAbs → t.eng = { taken with lockCount := 0, u := 2097151 } ∧
          (s.tsg.slot = none → ∃ due, t.tsg.slot = some ⟨.engine, .step, y, y, due, false⟩)) ∧
        (y.natAbs ≤ s.cfg.stepThreshold → n < 4 →
          t.eng = { taken with integral := i, pt := p, lockCount := n, u := 2097151 } ∧
          t.tsg = { s.tsg with fSet := f }) ∧
        (y.natAbs ≤ s.cfg.stepThreshold → 4 ≤ n →
          t.eng = { taken with
            state := .follow, integral := i, pt := p, lockCount := 0, largeCount := 0, steerCount := 0, u := u } ∧
          t.tsg.fSet = f ∧ hasFlag t.scu.raised .sourceChange = true)) ∧
      t.mon = s.mon ∧ t.ptu = s.ptu)) ∧
  (∀ s : State,
    let disagrees (r : Option Consensus) : Prop := ∃ c, r = some c ∧ 2 ≤ c.count ∧
      c.spread ≤ s.cfg.disagreeThreshold ∧ s.cfg.disagreeThreshold < c.value.natAbs
    (s.eng.state ≠ .locked → disagreementCheck s = (s, false)) ∧
    (s.eng.state = .locked → ¬disagrees s.ptu.tier1.consensus → 0 < s.cfg.disagreeCount →
      disagreementCheck s = (s.withEng { s.eng with disagree := 0 }, false)) ∧
    (s.eng.state = .locked → disagrees s.ptu.tier1.consensus →
      (s.eng.disagree + 1 < s.cfg.disagreeCount →
        disagreementCheck s = (s.withEng { s.eng with disagree := s.eng.disagree + 1 }, false)) ∧
      (s.cfg.disagreeCount ≤ s.eng.disagree + 1 →
        disagreementCheck s = (raise .refDisagree (s.withEng { s.eng with disagree := 0 }), true))) ∧
    (s.silent = true → takePoint s = (s, false)) ∧
    (s.silent = false → takePoint s =
      (selectSource (takeNudge (consensusInput (disagreementCheck s).1)), (disagreementCheck s).2)) ∧
    (s.eng.state = .locked → s.eng.source = some .reference → s.mon.qual = .qualified →
      disagrees (consensusOf (s.contributors .one)) → s.cfg.disagreeCount ≤ s.eng.disagree + 1 →
      let t := observationPoint s
      t.ptu.tier1 = ⟨consensusOf (s.contributors .one), some s.second⟩ ∧
      t.mon.qual = .disqualified ∧ t.mon.holdoffTimer = some s.cfg.holdoff ∧ t.mon.history = s.mon.history ∧
      hasFlag t.scu.raised .refDisagree = true ∧ t.eng.source = some (.tier .one) ∧ t.eng.disagree = 0)) ∧
  (∀ (s : State) (order : List BoundaryTask), s.ready = true → s.tsg.osc = .present →
    (∀ p, s.mon.held = some p → p.tag ≠ (s.tsg.boundaryIndex + 1) % 4294967296) →
    (s.pwr.state = .load ∨ (s.tsg.boundaryIndex + 1) % 4294967296 % s.cfg.pointInterval ≠ 0) →
    (∀ r, s.eng.state = .holdover → s.eng.record = some r →
      let now : Int := secondsSince ((s.tsg.boundaryIndex + 1) % 4294967296) r.entrySecond
      let temperature : Int := match s.lrn.currentBin, r.entryBin with
        | some b, some b0 => s.lrn.tab b - s.lrn.tab b0
        | _, _ => 0
      let p := clampAbs 2000000 (roundDiv ((r.base + temperature) * 86400 + s.lrn.rate * 1000 * now) 86400000)
      ∃ t, exec (.ownBoundary order) s = .next t ∧ t.eng.state = .holdover ∧ t.eng.record = some r ∧
        t.eng.lastPrediction = some p ∧ t.eng.nudge = s.eng.nudge ∧
        t.tsg.fSet = clampAbs 2000000 (p + s.eng.nudge) ∧
        t.eng.integral = s.eng.integral ∧ t.eng.ring = s.eng.ring) ∧
    (s.eng.state = .freerun →
      ∃ t, exec (.ownBoundary order) s = .next t ∧ t.eng.state = .freerun ∧
        (s.lrn.currentBin = none → t.tsg.fSet = 0) ∧
        (∀ b, s.lrn.currentBin = some b → t.tsg.fSet = roundDiv (s.lrn.tab b) 1000) ∧
        t.eng.integral = s.eng.integral ∧ t.eng.ring = s.eng.ring)) ∧
  (∀ (s : State) (p : Int), s.eng.state = .holdover → s.eng.lastPrediction = some p →
    (∀ c, s.ptu.tier2.consensus = some c →
      let n := clampAbs 1000 (roundDiv (2000 * c.value) s.cfg.tauEns)
      let t := takeNudge s
      t.eng = { s.eng with
        nudge := n, lastC := some ⟨c.value, .two⟩, followedU := some c.leastU, u := s.uncertainty } ∧
      t.tsg = { s.tsg with fSet := clampAbs 2000000 (p + n) }) ∧
    (s.ptu.tier2.consensus = none →
      takeNudge s = (s.withEng { s.eng with nudge := 0 }).withTsg { s.tsg with fSet := clampAbs 2000000 p })) ∧
  (∀ (s : State) (r : HoldoverRecord), s.eng.state = .holdover → s.eng.record = some r →
    (takeNudge (engineBoundary s)).tsg.fSet = (engineBoundary (takeNudge s)).tsg.fSet ∧
    (takeNudge (engineBoundary s)).eng.nudge = (engineBoundary (takeNudge s)).eng.nudge)

/-- The bin of a temperature (R141): the whole part of (T + 320) / 16 toward minus infinity, kept within 0 to 63; bin k
covers -40 + 2k degrees inclusive to -38 + 2k exclusive. -/
def Obligations.BinOfTemperature : Prop :=
  (∀ T : Int, ((binOf T).val : Int) = if (T + 320) / 16 < 0 then 0 else if 63 < (T + 320) / 16 then 63
    else (T + 320) / 16) ∧
  (∀ (T : Int) (k : Nat), k < 64 → 8 * (-40 + 2 * (k : Int)) ≤ T → T < 8 * (-38 + 2 * (k : Int)) → (binOf T).val = k) ∧
  (∀ T : Int, T < 8 * -40 → (binOf T).val = 0) ∧ (∀ T : Int, 8 * 86 ≤ T → (binOf T).val = 63) ∧
  [-328, -320, 7, 90, 96, 703, 880].map (fun T => (binOf T).val) = [0, 0, 20, 25, 26, 63, 63]

/-- The consensus of a tier (R93): the weighted mean rounded half away from zero, between the least and the greatest
lead of its contributors, whose total weight is above zero; the weighted sum stays within 128,000,000,000. The
contributors are the ACTIVE peers of the tier's classes that do not slew, and for tier 2 the station itself in
HOLDOVER, each with the weight of its U, if that is above zero (R90, R91, R92); spread, count, total weight and least
U are formed over the same contributors (R94), and a tier without any has no consensus (R95). -/
def Obligations.ConsensusLiesBetweenLeads : Prop :=
  ∀ (s : State) (k : Tier),
    let cs := s.contributors k
    let weight (u : Nat) : Nat := if u ≤ 100 then 16 else if u ≤ 400 then 8 else if u ≤ 1600 then 4
      else if u ≤ 6400 then 2 else if u ≤ 25600 then 1 else 0
    let tier (c : StationClass) : Option Tier := match c with
      | .ref => some .one | .follow => some .two | .hold => some .two | .free => none
    (let peers : List Contributor := (List.finRange 16).filterMap fun a => (s.ptu.peers[a]).bind fun e =>
      e.lf16.bind fun v =>
        if e.state = .active ∧ e.slewing = false ∧ e.u ≤ 25600 ∧ tier e.cls = some k then
          some ⟨roundDiv v 16, e.u, weight e.u⟩ else none
     cs = peers ++
      if k = .two ∧ s.eng.state = .holdover ∧ s.eng.u ≤ 25600 then [⟨0, s.eng.u, weight s.eng.u⟩] else []) ∧
    (0 < totalWeight cs → ∃ c, consensusOf cs = some c) ∧ (cs = [] → consensusOf cs = none) ∧
    (∀ c, consensusOf cs = some c →
      0 < totalWeight cs ∧ c.weight = totalWeight cs ∧ c.count = cs.length ∧
      (∃ x ∈ cs, ∃ y ∈ cs, c.spread = x.lead - y.lead) ∧ (∀ x ∈ cs, ∀ y ∈ cs, x.lead - y.lead ≤ c.spread) ∧
      (∃ x ∈ cs, c.leastU = x.u) ∧ (∀ x ∈ cs, c.leastU ≤ x.u) ∧
      2 * (c.value * totalWeight cs - weightedSum cs).natAbs ≤ totalWeight cs ∧
      (2 * (c.value * totalWeight cs - weightedSum cs).natAbs = totalWeight cs →
        (weightedSum cs).natAbs < (c.value * totalWeight cs).natAbs) ∧
      (∃ x ∈ cs, x.lead ≤ c.value) ∧ (∃ x ∈ cs, c.value ≤ x.lead) ∧
      (∀ x, cs = [x] → c.value = x.lead) ∧ (k = .two → cs = (s.ownContribution .two).toList → c.value = 0)) ∧
    ((∀ x ∈ cs, x.lead.natAbs ≤ 500000000) → (weightedSum cs).natAbs ≤ 128000000000) ∧
    roundDiv 204 20 = 10 ∧ roundDiv (-90) 20 = -5 ∧ roundDiv 300 18 = 17

/-- U in HOLDOVER (R133): the exact sum rounded up to the least integer not below it, saturated at 2,097,151; U₀ at
entry; saturated for the whole stay from a saturated U₀; and never falling within a stay, whatever command is taken (a
stay shorter than the 2^32 seconds of the second count; that t, taken modulo 2^32 by R125, brings U back to U₀ in a
longer one is the model's choice, log entry 36). -/
def Obligations.HoldoverUncertainty : Prop :=
  ∀ (s : State) (r : HoldoverRecord), s.eng.state = .holdover → s.eng.record = some r →
    let t := secondsSince s.second r.entrySecond
    (∃ q, s.uncertainty = min 2097151 (r.u0 + q) ∧
      r.sigma * t * 172800 + s.cfg.sigmaAging * t * t ≤ 172800000 * q ∧
      (∀ q', r.sigma * t * 172800 + s.cfg.sigmaAging * t * t ≤ 172800000 * q' → q ≤ q')) ∧
    (s.second = r.entrySecond → s.uncertainty = min 2097151 r.u0) ∧
    (r.u0 = 2097151 → s.uncertainty = 2097151) ∧
    (∀ s' : State, s'.eng.state = .holdover → s'.eng.record = some r → s'.cfg.sigmaAging = s.cfg.sigmaAging →
      t ≤ secondsSince s'.second r.entrySecond → s.uncertainty ≤ s'.uncertainty) ∧
    (∀ (i : Instr) (u : State), s.eng.u = s.uncertainty → t + 1 < 4294967296 → exec i s = .next u →
      u.eng.state = .holdover → u.eng.record = some r → u.cfg = s.cfg → s.eng.u ≤ u.eng.u)

/-! ### Invariants that every step keeps -/

/-- Every step keeps the EEPROM's contents in canonical form, from every state that has it (the model's own form, log
entry 1). -/
def Obligations.EepromStaysCanonical : Prop :=
  ∀ s t : State, s.EepromCanonical → step s = .next t → t.EepromCanonical

/-- Every step keeps the outputs low while a mute cause holds (R5 to R8). -/
def Obligations.MuteStaysObeyed : Prop :=
  ∀ s t : State, s.MuteObeyed → step s = .next t → t.MuteObeyed

/-- Every step keeps the transmit queue empty in listen-only (R55). -/
def Obligations.ListenOnlyStaysQuiet : Prop :=
  ∀ s t : State, s.ListenOnlyQuiet → step s = .next t → t.ListenOnlyQuiet

/-- Every step keeps the next boundary where R2 places it for F in force and the committed amount, the steps of
FREQ_OUT as many as F alone moves that boundary (R6), and the remaining amount of an adjustment within what was
requested, with its sign (R11, R13). -/
def Obligations.BoundaryStaysScheduled : Prop :=
  (∀ s t : State, s.tsg.Scheduled → step s = .next t → t.tsg.Scheduled) ∧
  (∀ s t : State, s.tsg.SlotSound → step s = .next t → t.tsg.SlotSound)

/-- Every step keeps the counters that hold at their top and the capacities of the rings and slots. -/
def Obligations.CountersAndCapacitiesKept : Prop :=
  ∀ s t : State, s.CountersHeld → s.WithinCapacity → step s = .next t → t.CountersHeld ∧ t.WithinCapacity

/-- Every step keeps F, I, the trim, the learned means, A and U within their limits. -/
def Obligations.SteeringStaysBounded : Prop :=
  ∀ s t : State, s.SteeringBounded → step s = .next t → t.SteeringBounded

/-- The engine is in LOCKED only while the reference is QUALIFIED and not inhibited (R116): every step keeps it. -/
def Obligations.LockedOnlyOnTrustedReference : Prop :=
  ∀ s t : State, s.ReferenceTrusted → step s = .next t → t.ReferenceTrusted

/-- Every step keeps the engine's record fitting its state (R99, R107, R123, R129, R135). That the large-error counter
is 0 in ACQUIRE after a return there is the model's reading (DEDUCED, log entry 13). -/
def Obligations.EngineRecordFitsItsState : Prop :=
  ∀ s t : State, s.eng.RecordFits → step s = .next t → t.eng.RecordFits

/-- The station's own entry and pending mark stay empty (R67, R73): every step keeps it. -/
def Obligations.OwnEntryStaysEmpty : Prop :=
  ∀ s t : State, s.OwnEntryEmpty → step s = .next t → t.OwnEntryEmpty

/-- The state after reset meets every invariant above. Where the manual gives no value at reset, the model's stands
(log entries 1, 2, 32). -/
def Obligations.ResetMeetsInvariants : Prop :=
  State.reset.EepromCanonical ∧ State.reset.MuteObeyed ∧ State.reset.ListenOnlyQuiet ∧
  State.reset.tsg.Scheduled ∧ State.reset.CountersHeld ∧ State.reset.WithinCapacity ∧
  State.reset.SteeringBounded ∧ State.reset.ReferenceTrusted ∧ State.reset.OwnEntryEmpty ∧
  State.reset.tsg.SlotSound ∧ State.reset.eng.RecordFits

/-! ### Rules of the whole part -/

/-- The engine leaves FAULT only at RESTART or hard reset (R121). -/
def Obligations.FaultLeftOnlyByReset : Prop :=
  ∀ (i : Instr) (s t : State), s.eng.state = .fault → isReset i = false → carries i 15 = false →
    exec i s = .next t → t.eng.state = .fault

/-- A raised flag stays raised until CLEAR_ERRORS, RESTART, a reset or the opening of second 0 (R154, R157, R164). -/
def Obligations.RaisedFlagsStay : Prop :=
  ∀ (i : Instr) (s t : State) (f : Flag), hasFlag s.scu.raised f = true → isReset i = false →
    carries i 2 = false → carries i 15 = false → (∀ n b p, i ≠ .openSecond0 n b p) →
    exec i s = .next t → hasFlag t.scu.raised f = true

/-- The temperature table changes only by learning, by LEARN_CLEAR, by the restoration in LOAD and by a reset (R142): a
change needs fresh temperature and touches the current bin alone; outside a boundary it is one update of that bin, made
while the class is REF, or FOLLOW on tier 1 (R143, R144). -/
def Obligations.TableChangesOnlyByLearning : Prop :=
  ∀ (i : Instr) (s t : State), isReset i = false → (∀ a, i ≠ .learningBlockRead a) → carries i 14 = false →
    exec i s = .next t → t.lrn.table ≠ s.lrn.table →
    s.lrn.sampling = .fresh ∧
    (∀ b : Fin 64, s.lrn.currentBin ≠ some b → t.lrn.table[b] = s.lrn.table[b]) ∧
    (s.settled = true ∨ takesDueFirst i = false → (∀ o, i ≠ .ownBoundary o) →
      s.learningAllowed = true ∧
      ∃ b v, s.lrn.currentBin = some b ∧ t.lrn.table = s.lrn.table.set b (s.lrn.table[b].update v))

/-- What commands leave alone (R2, R3, R13, R150, R151, R166, R168): the second count, the boundary just past, Φ, F in
force and the trim move at OWN_BOUNDARY, a reset and the opening of second 0 alone; the settings at CONFIGURATION_READ
and a reset; the EEPROM at a page write's end, its failure and a reset; the address at the opening of second 0 and a
reset. -/
def Obligations.WhatCommandsLeaveAlone : Prop :=
  ∀ (i : Instr) (s t : State), isReset i = false → exec i s = .next t →
    ((∀ n b p, i ≠ .openSecond0 n b p) → (∀ o, i ≠ .ownBoundary o) →
      t.tsg.boundaryIndex = s.tsg.boundaryIndex ∧ t.tsg.lastBoundary = s.tsg.lastBoundary ∧ t.tsg.phi = s.tsg.phi ∧
      t.tsg.fInForce = s.tsg.fInForce ∧ t.tsg.trim = s.tsg.trim) ∧
    ((∀ a, i ≠ .configurationRead a) → t.cfg = s.cfg) ∧
    (i ≠ .eepromPageWriteDone → (∀ b, i ≠ .eepromFailure b) → t.eeprom = s.eeprom) ∧
    ((∀ n b p, i ≠ .openSecond0 n b p) → t.pwr.address = s.pwr.address)
end

