-- ==== Sys2Proof/Laws/State.lean ====
section
/-! SUPPORT. One lemma per component per update of the state, and the same for the instant: no proof unfolds an
update. -/

namespace Sys2Proof.Machine

@[simp] theorem State.withTsg_tsg (s : State) (x : Timescale) : (s.withTsg x).tsg = x := rfl
@[simp] theorem State.withTsg_mon (s : State) (x : Timescale) : (s.withTsg x).mon = s.mon := rfl
@[simp] theorem State.withTsg_bus (s : State) (x : Timescale) : (s.withTsg x).bus = s.bus := rfl
@[simp] theorem State.withTsg_ptu (s : State) (x : Timescale) : (s.withTsg x).ptu = s.ptu := rfl
@[simp] theorem State.withTsg_eng (s : State) (x : Timescale) : (s.withTsg x).eng = s.eng := rfl
@[simp] theorem State.withTsg_lrn (s : State) (x : Timescale) : (s.withTsg x).lrn = s.lrn := rfl
@[simp] theorem State.withTsg_scu (s : State) (x : Timescale) : (s.withTsg x).scu = s.scu := rfl
@[simp] theorem State.withTsg_pwr (s : State) (x : Timescale) : (s.withTsg x).pwr = s.pwr := rfl
@[simp] theorem State.withTsg_cfg (s : State) (x : Timescale) : (s.withTsg x).cfg = s.cfg := rfl
@[simp] theorem State.withTsg_eeprom (s : State) (x : Timescale) : (s.withTsg x).eeprom = s.eeprom := rfl
@[simp] theorem State.withTsg_pending (s : State) (x : Timescale) : (s.withTsg x).pending = s.pending := rfl
@[simp] theorem State.withTsg_twice (s : State) (x y : Timescale) : (s.withTsg x).withTsg y = s.withTsg y := rfl
@[simp] theorem State.withTsg_self (s : State) : s.withTsg s.tsg = s := rfl

@[simp] theorem State.withMon_tsg (s : State) (x : Monitor) : (s.withMon x).tsg = s.tsg := rfl
@[simp] theorem State.withMon_mon (s : State) (x : Monitor) : (s.withMon x).mon = x := rfl
@[simp] theorem State.withMon_bus (s : State) (x : Monitor) : (s.withMon x).bus = s.bus := rfl
@[simp] theorem State.withMon_ptu (s : State) (x : Monitor) : (s.withMon x).ptu = s.ptu := rfl
@[simp] theorem State.withMon_eng (s : State) (x : Monitor) : (s.withMon x).eng = s.eng := rfl
@[simp] theorem State.withMon_lrn (s : State) (x : Monitor) : (s.withMon x).lrn = s.lrn := rfl
@[simp] theorem State.withMon_scu (s : State) (x : Monitor) : (s.withMon x).scu = s.scu := rfl
@[simp] theorem State.withMon_pwr (s : State) (x : Monitor) : (s.withMon x).pwr = s.pwr := rfl
@[simp] theorem State.withMon_cfg (s : State) (x : Monitor) : (s.withMon x).cfg = s.cfg := rfl
@[simp] theorem State.withMon_eeprom (s : State) (x : Monitor) : (s.withMon x).eeprom = s.eeprom := rfl
@[simp] theorem State.withMon_pending (s : State) (x : Monitor) : (s.withMon x).pending = s.pending := rfl
@[simp] theorem State.withMon_twice (s : State) (x y : Monitor) : (s.withMon x).withMon y = s.withMon y := rfl
@[simp] theorem State.withMon_self (s : State) : s.withMon s.mon = s := rfl

@[simp] theorem State.withBus_tsg (s : State) (x : Bus) : (s.withBus x).tsg = s.tsg := rfl
@[simp] theorem State.withBus_mon (s : State) (x : Bus) : (s.withBus x).mon = s.mon := rfl
@[simp] theorem State.withBus_bus (s : State) (x : Bus) : (s.withBus x).bus = x := rfl
@[simp] theorem State.withBus_ptu (s : State) (x : Bus) : (s.withBus x).ptu = s.ptu := rfl
@[simp] theorem State.withBus_eng (s : State) (x : Bus) : (s.withBus x).eng = s.eng := rfl
@[simp] theorem State.withBus_lrn (s : State) (x : Bus) : (s.withBus x).lrn = s.lrn := rfl
@[simp] theorem State.withBus_scu (s : State) (x : Bus) : (s.withBus x).scu = s.scu := rfl
@[simp] theorem State.withBus_pwr (s : State) (x : Bus) : (s.withBus x).pwr = s.pwr := rfl
@[simp] theorem State.withBus_cfg (s : State) (x : Bus) : (s.withBus x).cfg = s.cfg := rfl
@[simp] theorem State.withBus_eeprom (s : State) (x : Bus) : (s.withBus x).eeprom = s.eeprom := rfl
@[simp] theorem State.withBus_pending (s : State) (x : Bus) : (s.withBus x).pending = s.pending := rfl
@[simp] theorem State.withBus_twice (s : State) (x y : Bus) : (s.withBus x).withBus y = s.withBus y := rfl
@[simp] theorem State.withBus_self (s : State) : s.withBus s.bus = s := rfl

@[simp] theorem State.withPtu_tsg (s : State) (x : PeerUnit) : (s.withPtu x).tsg = s.tsg := rfl
@[simp] theorem State.withPtu_mon (s : State) (x : PeerUnit) : (s.withPtu x).mon = s.mon := rfl
@[simp] theorem State.withPtu_bus (s : State) (x : PeerUnit) : (s.withPtu x).bus = s.bus := rfl
@[simp] theorem State.withPtu_ptu (s : State) (x : PeerUnit) : (s.withPtu x).ptu = x := rfl
@[simp] theorem State.withPtu_eng (s : State) (x : PeerUnit) : (s.withPtu x).eng = s.eng := rfl
@[simp] theorem State.withPtu_lrn (s : State) (x : PeerUnit) : (s.withPtu x).lrn = s.lrn := rfl
@[simp] theorem State.withPtu_scu (s : State) (x : PeerUnit) : (s.withPtu x).scu = s.scu := rfl
@[simp] theorem State.withPtu_pwr (s : State) (x : PeerUnit) : (s.withPtu x).pwr = s.pwr := rfl
@[simp] theorem State.withPtu_cfg (s : State) (x : PeerUnit) : (s.withPtu x).cfg = s.cfg := rfl
@[simp] theorem State.withPtu_eeprom (s : State) (x : PeerUnit) : (s.withPtu x).eeprom = s.eeprom := rfl
@[simp] theorem State.withPtu_pending (s : State) (x : PeerUnit) : (s.withPtu x).pending = s.pending := rfl
@[simp] theorem State.withPtu_twice (s : State) (x y : PeerUnit) : (s.withPtu x).withPtu y = s.withPtu y := rfl
@[simp] theorem State.withPtu_self (s : State) : s.withPtu s.ptu = s := rfl

@[simp] theorem State.withEng_tsg (s : State) (x : Engine) : (s.withEng x).tsg = s.tsg := rfl
@[simp] theorem State.withEng_mon (s : State) (x : Engine) : (s.withEng x).mon = s.mon := rfl
@[simp] theorem State.withEng_bus (s : State) (x : Engine) : (s.withEng x).bus = s.bus := rfl
@[simp] theorem State.withEng_ptu (s : State) (x : Engine) : (s.withEng x).ptu = s.ptu := rfl
@[simp] theorem State.withEng_eng (s : State) (x : Engine) : (s.withEng x).eng = x := rfl
@[simp] theorem State.withEng_lrn (s : State) (x : Engine) : (s.withEng x).lrn = s.lrn := rfl
@[simp] theorem State.withEng_scu (s : State) (x : Engine) : (s.withEng x).scu = s.scu := rfl
@[simp] theorem State.withEng_pwr (s : State) (x : Engine) : (s.withEng x).pwr = s.pwr := rfl
@[simp] theorem State.withEng_cfg (s : State) (x : Engine) : (s.withEng x).cfg = s.cfg := rfl
@[simp] theorem State.withEng_eeprom (s : State) (x : Engine) : (s.withEng x).eeprom = s.eeprom := rfl
@[simp] theorem State.withEng_pending (s : State) (x : Engine) : (s.withEng x).pending = s.pending := rfl
@[simp] theorem State.withEng_twice (s : State) (x y : Engine) : (s.withEng x).withEng y = s.withEng y := rfl
@[simp] theorem State.withEng_self (s : State) : s.withEng s.eng = s := rfl

@[simp] theorem State.withLrn_tsg (s : State) (x : Learning) : (s.withLrn x).tsg = s.tsg := rfl
@[simp] theorem State.withLrn_mon (s : State) (x : Learning) : (s.withLrn x).mon = s.mon := rfl
@[simp] theorem State.withLrn_bus (s : State) (x : Learning) : (s.withLrn x).bus = s.bus := rfl
@[simp] theorem State.withLrn_ptu (s : State) (x : Learning) : (s.withLrn x).ptu = s.ptu := rfl
@[simp] theorem State.withLrn_eng (s : State) (x : Learning) : (s.withLrn x).eng = s.eng := rfl
@[simp] theorem State.withLrn_lrn (s : State) (x : Learning) : (s.withLrn x).lrn = x := rfl
@[simp] theorem State.withLrn_scu (s : State) (x : Learning) : (s.withLrn x).scu = s.scu := rfl
@[simp] theorem State.withLrn_pwr (s : State) (x : Learning) : (s.withLrn x).pwr = s.pwr := rfl
@[simp] theorem State.withLrn_cfg (s : State) (x : Learning) : (s.withLrn x).cfg = s.cfg := rfl
@[simp] theorem State.withLrn_eeprom (s : State) (x : Learning) : (s.withLrn x).eeprom = s.eeprom := rfl
@[simp] theorem State.withLrn_pending (s : State) (x : Learning) : (s.withLrn x).pending = s.pending := rfl
@[simp] theorem State.withLrn_twice (s : State) (x y : Learning) : (s.withLrn x).withLrn y = s.withLrn y := rfl
@[simp] theorem State.withLrn_self (s : State) : s.withLrn s.lrn = s := rfl

@[simp] theorem State.withScu_tsg (s : State) (x : StatusUnit) : (s.withScu x).tsg = s.tsg := rfl
@[simp] theorem State.withScu_mon (s : State) (x : StatusUnit) : (s.withScu x).mon = s.mon := rfl
@[simp] theorem State.withScu_bus (s : State) (x : StatusUnit) : (s.withScu x).bus = s.bus := rfl
@[simp] theorem State.withScu_ptu (s : State) (x : StatusUnit) : (s.withScu x).ptu = s.ptu := rfl
@[simp] theorem State.withScu_eng (s : State) (x : StatusUnit) : (s.withScu x).eng = s.eng := rfl
@[simp] theorem State.withScu_lrn (s : State) (x : StatusUnit) : (s.withScu x).lrn = s.lrn := rfl
@[simp] theorem State.withScu_scu (s : State) (x : StatusUnit) : (s.withScu x).scu = x := rfl
@[simp] theorem State.withScu_pwr (s : State) (x : StatusUnit) : (s.withScu x).pwr = s.pwr := rfl
@[simp] theorem State.withScu_cfg (s : State) (x : StatusUnit) : (s.withScu x).cfg = s.cfg := rfl
@[simp] theorem State.withScu_eeprom (s : State) (x : StatusUnit) : (s.withScu x).eeprom = s.eeprom := rfl
@[simp] theorem State.withScu_pending (s : State) (x : StatusUnit) : (s.withScu x).pending = s.pending := rfl
@[simp] theorem State.withScu_twice (s : State) (x y : StatusUnit) : (s.withScu x).withScu y = s.withScu y := rfl
@[simp] theorem State.withScu_self (s : State) : s.withScu s.scu = s := rfl

@[simp] theorem State.withPwr_tsg (s : State) (x : Power) : (s.withPwr x).tsg = s.tsg := rfl
@[simp] theorem State.withPwr_mon (s : State) (x : Power) : (s.withPwr x).mon = s.mon := rfl
@[simp] theorem State.withPwr_bus (s : State) (x : Power) : (s.withPwr x).bus = s.bus := rfl
@[simp] theorem State.withPwr_ptu (s : State) (x : Power) : (s.withPwr x).ptu = s.ptu := rfl
@[simp] theorem State.withPwr_eng (s : State) (x : Power) : (s.withPwr x).eng = s.eng := rfl
@[simp] theorem State.withPwr_lrn (s : State) (x : Power) : (s.withPwr x).lrn = s.lrn := rfl
@[simp] theorem State.withPwr_scu (s : State) (x : Power) : (s.withPwr x).scu = s.scu := rfl
@[simp] theorem State.withPwr_pwr (s : State) (x : Power) : (s.withPwr x).pwr = x := rfl
@[simp] theorem State.withPwr_cfg (s : State) (x : Power) : (s.withPwr x).cfg = s.cfg := rfl
@[simp] theorem State.withPwr_eeprom (s : State) (x : Power) : (s.withPwr x).eeprom = s.eeprom := rfl
@[simp] theorem State.withPwr_pending (s : State) (x : Power) : (s.withPwr x).pending = s.pending := rfl
@[simp] theorem State.withPwr_twice (s : State) (x y : Power) : (s.withPwr x).withPwr y = s.withPwr y := rfl
@[simp] theorem State.withPwr_self (s : State) : s.withPwr s.pwr = s := rfl

@[simp] theorem State.withCfg_tsg (s : State) (x : Settings) : (s.withCfg x).tsg = s.tsg := rfl
@[simp] theorem State.withCfg_mon (s : State) (x : Settings) : (s.withCfg x).mon = s.mon := rfl
@[simp] theorem State.withCfg_bus (s : State) (x : Settings) : (s.withCfg x).bus = s.bus := rfl
@[simp] theorem State.withCfg_ptu (s : State) (x : Settings) : (s.withCfg x).ptu = s.ptu := rfl
@[simp] theorem State.withCfg_eng (s : State) (x : Settings) : (s.withCfg x).eng = s.eng := rfl
@[simp] theorem State.withCfg_lrn (s : State) (x : Settings) : (s.withCfg x).lrn = s.lrn := rfl
@[simp] theorem State.withCfg_scu (s : State) (x : Settings) : (s.withCfg x).scu = s.scu := rfl
@[simp] theorem State.withCfg_pwr (s : State) (x : Settings) : (s.withCfg x).pwr = s.pwr := rfl
@[simp] theorem State.withCfg_cfg (s : State) (x : Settings) : (s.withCfg x).cfg = x := rfl
@[simp] theorem State.withCfg_eeprom (s : State) (x : Settings) : (s.withCfg x).eeprom = s.eeprom := rfl
@[simp] theorem State.withCfg_pending (s : State) (x : Settings) : (s.withCfg x).pending = s.pending := rfl
@[simp] theorem State.withCfg_twice (s : State) (x y : Settings) : (s.withCfg x).withCfg y = s.withCfg y := rfl
@[simp] theorem State.withCfg_self (s : State) : s.withCfg s.cfg = s := rfl

@[simp] theorem State.withEeprom_tsg (s : State) (x : Memory) : (s.withEeprom x).tsg = s.tsg := rfl
@[simp] theorem State.withEeprom_mon (s : State) (x : Memory) : (s.withEeprom x).mon = s.mon := rfl
@[simp] theorem State.withEeprom_bus (s : State) (x : Memory) : (s.withEeprom x).bus = s.bus := rfl
@[simp] theorem State.withEeprom_ptu (s : State) (x : Memory) : (s.withEeprom x).ptu = s.ptu := rfl
@[simp] theorem State.withEeprom_eng (s : State) (x : Memory) : (s.withEeprom x).eng = s.eng := rfl
@[simp] theorem State.withEeprom_lrn (s : State) (x : Memory) : (s.withEeprom x).lrn = s.lrn := rfl
@[simp] theorem State.withEeprom_scu (s : State) (x : Memory) : (s.withEeprom x).scu = s.scu := rfl
@[simp] theorem State.withEeprom_pwr (s : State) (x : Memory) : (s.withEeprom x).pwr = s.pwr := rfl
@[simp] theorem State.withEeprom_cfg (s : State) (x : Memory) : (s.withEeprom x).cfg = s.cfg := rfl
@[simp] theorem State.withEeprom_eeprom (s : State) (x : Memory) : (s.withEeprom x).eeprom = x := rfl
@[simp] theorem State.withEeprom_pending (s : State) (x : Memory) : (s.withEeprom x).pending = s.pending := rfl
@[simp] theorem State.withEeprom_twice (s : State) (x y : Memory) : (s.withEeprom x).withEeprom y = s.withEeprom y := rfl
@[simp] theorem State.withEeprom_self (s : State) : s.withEeprom s.eeprom = s := rfl

@[simp] theorem State.withPending_tsg (s : State) (x : List Instr) : (s.withPending x).tsg = s.tsg := rfl
@[simp] theorem State.withPending_mon (s : State) (x : List Instr) : (s.withPending x).mon = s.mon := rfl
@[simp] theorem State.withPending_bus (s : State) (x : List Instr) : (s.withPending x).bus = s.bus := rfl
@[simp] theorem State.withPending_ptu (s : State) (x : List Instr) : (s.withPending x).ptu = s.ptu := rfl
@[simp] theorem State.withPending_eng (s : State) (x : List Instr) : (s.withPending x).eng = s.eng := rfl
@[simp] theorem State.withPending_lrn (s : State) (x : List Instr) : (s.withPending x).lrn = s.lrn := rfl
@[simp] theorem State.withPending_scu (s : State) (x : List Instr) : (s.withPending x).scu = s.scu := rfl
@[simp] theorem State.withPending_pwr (s : State) (x : List Instr) : (s.withPending x).pwr = s.pwr := rfl
@[simp] theorem State.withPending_cfg (s : State) (x : List Instr) : (s.withPending x).cfg = s.cfg := rfl
@[simp] theorem State.withPending_eeprom (s : State) (x : List Instr) : (s.withPending x).eeprom = s.eeprom := rfl
@[simp] theorem State.withPending_pending (s : State) (x : List Instr) : (s.withPending x).pending = x := rfl
@[simp] theorem State.withPending_twice (s : State) (x y : List Instr) : (s.withPending x).withPending y = s.withPending y := rfl
@[simp] theorem State.withPending_self (s : State) : s.withPending s.pending = s := rfl

@[simp] theorem State.at_tsg (s : State) (t : Instant) : (s.at t).tsg = { s.tsg with now := t } := rfl
@[simp] theorem State.at_mon (s : State) (t : Instant) : (s.at t).mon = s.mon := rfl
@[simp] theorem State.at_bus (s : State) (t : Instant) : (s.at t).bus = s.bus := rfl
@[simp] theorem State.at_ptu (s : State) (t : Instant) : (s.at t).ptu = s.ptu := rfl
@[simp] theorem State.at_eng (s : State) (t : Instant) : (s.at t).eng = s.eng := rfl
@[simp] theorem State.at_lrn (s : State) (t : Instant) : (s.at t).lrn = s.lrn := rfl
@[simp] theorem State.at_scu (s : State) (t : Instant) : (s.at t).scu = s.scu := rfl
@[simp] theorem State.at_pwr (s : State) (t : Instant) : (s.at t).pwr = s.pwr := rfl
@[simp] theorem State.at_cfg (s : State) (t : Instant) : (s.at t).cfg = s.cfg := rfl
@[simp] theorem State.at_eeprom (s : State) (t : Instant) : (s.at t).eeprom = s.eeprom := rfl
@[simp] theorem State.at_pending (s : State) (t : Instant) : (s.at t).pending = s.pending := rfl

end Sys2Proof.Machine
end

