-- ==== Sys2Proof/Laws/FlagsFrame.lean ====
section
/-! SUPPORT. What each operation of Machine/Flags.lean leaves as it was: one lemma per operation, a conjunction over the
blocks it never touches, for `simp`. -/

namespace Sys2Proof.Machine

@[simp] theorem offerAlert_keeps (m : FlagSet) (s : State) :
    (offerAlert m s).tsg = s.tsg ∧ (offerAlert m s).mon = s.mon ∧ (offerAlert m s).ptu = s.ptu ∧
    (offerAlert m s).eng = s.eng ∧ (offerAlert m s).lrn = s.lrn ∧ (offerAlert m s).scu = s.scu ∧
    (offerAlert m s).pwr = s.pwr ∧ (offerAlert m s).cfg = s.cfg ∧ (offerAlert m s).eeprom = s.eeprom ∧
    (offerAlert m s).pending = s.pending := by
  unfold offerAlert
  try dsimp only
  repeat' split
  all_goals simp

@[simp] theorem raise_keeps (f : Flag) (s : State) :
    (raise f s).tsg = s.tsg ∧ (raise f s).mon = s.mon ∧ (raise f s).ptu = s.ptu ∧ (raise f s).eng = s.eng ∧
    (raise f s).lrn = s.lrn ∧ (raise f s).pwr = s.pwr ∧ (raise f s).cfg = s.cfg ∧
    (raise f s).eeprom = s.eeprom ∧ (raise f s).pending = s.pending := by
  unfold raise
  try dsimp only
  repeat' split
  all_goals simp

@[simp] theorem offerStatus_keeps (s : State) :
    (offerStatus s).tsg = s.tsg ∧ (offerStatus s).mon = s.mon ∧ (offerStatus s).ptu = s.ptu ∧
    (offerStatus s).eng = s.eng ∧ (offerStatus s).lrn = s.lrn ∧ (offerStatus s).scu = s.scu ∧
    (offerStatus s).pwr = s.pwr ∧ (offerStatus s).cfg = s.cfg ∧ (offerStatus s).eeprom = s.eeprom ∧
    (offerStatus s).pending = s.pending := by
  unfold offerStatus
  try dsimp only
  repeat' split
  all_goals simp

@[simp] theorem refuse_keeps (c : Cause) (s : State) :
    (refuse c s).tsg = s.tsg ∧ (refuse c s).mon = s.mon ∧ (refuse c s).ptu = s.ptu ∧ (refuse c s).eng = s.eng ∧
    (refuse c s).lrn = s.lrn ∧ (refuse c s).pwr = s.pwr ∧ (refuse c s).cfg = s.cfg ∧
    (refuse c s).eeprom = s.eeprom ∧ (refuse c s).pending = s.pending := by
  unfold refuse
  try dsimp only
  all_goals simp

@[simp] theorem raiseAll_keeps (fs : List Flag) (s : State) :
    (raiseAll fs s).tsg = s.tsg ∧ (raiseAll fs s).mon = s.mon ∧ (raiseAll fs s).ptu = s.ptu ∧
    (raiseAll fs s).eng = s.eng ∧ (raiseAll fs s).lrn = s.lrn ∧ (raiseAll fs s).pwr = s.pwr ∧
    (raiseAll fs s).cfg = s.cfg ∧ (raiseAll fs s).eeprom = s.eeprom ∧ (raiseAll fs s).pending = s.pending := by
  induction fs generalizing s with
  | nil => simp [raiseAll]
  | cons f fs ih => simp [raiseAll, ih]

end Sys2Proof.Machine
end

