-- ==== Sys2Proof/Laws/OutputsFrame.lean ====
section
/-! SUPPORT. What each operation of Machine/Outputs.lean leaves as it was: one lemma per operation, a conjunction over
the blocks it never touches, for `simp`. -/

namespace Sys2Proof.Machine

@[simp] theorem refreshOutputs_keeps (s : State) :
    (refreshOutputs s).mon = s.mon ∧ (refreshOutputs s).bus = s.bus ∧ (refreshOutputs s).ptu = s.ptu ∧
    (refreshOutputs s).eng = s.eng ∧ (refreshOutputs s).lrn = s.lrn ∧ (refreshOutputs s).scu = s.scu ∧
    (refreshOutputs s).pwr = s.pwr ∧ (refreshOutputs s).cfg = s.cfg ∧ (refreshOutputs s).eeprom = s.eeprom ∧
    (refreshOutputs s).pending = s.pending := by
  unfold refreshOutputs
  try dsimp only
  repeat' split
  all_goals simp

@[simp] theorem boundaryOutputs_keeps (s : State) :
    (boundaryOutputs s).mon = s.mon ∧ (boundaryOutputs s).bus = s.bus ∧ (boundaryOutputs s).ptu = s.ptu ∧
    (boundaryOutputs s).eng = s.eng ∧ (boundaryOutputs s).lrn = s.lrn ∧ (boundaryOutputs s).scu = s.scu ∧
    (boundaryOutputs s).pwr = s.pwr ∧ (boundaryOutputs s).cfg = s.cfg ∧ (boundaryOutputs s).eeprom = s.eeprom ∧
    (boundaryOutputs s).pending = s.pending := by
  unfold boundaryOutputs
  try dsimp only
  repeat' split
  all_goals simp

@[simp] theorem endPulse_keeps (s : State) :
    (endPulse s).mon = s.mon ∧ (endPulse s).bus = s.bus ∧ (endPulse s).ptu = s.ptu ∧ (endPulse s).eng = s.eng ∧
    (endPulse s).lrn = s.lrn ∧ (endPulse s).scu = s.scu ∧ (endPulse s).pwr = s.pwr ∧ (endPulse s).cfg = s.cfg ∧
    (endPulse s).eeprom = s.eeprom ∧ (endPulse s).pending = s.pending := by
  unfold endPulse
  try dsimp only
  repeat' split
  all_goals simp

end Sys2Proof.Machine
end

