-- ==== Sys2Proof/Laws/TimescaleFrame.lean ====
section
/-! SUPPORT. What each operation of Machine/Timescale.lean leaves as it was: one lemma per operation, a conjunction
over the blocks it never touches, for `simp`; what scheduling does to the steps of FREQ_OUT. -/

namespace Sys2Proof.Machine

/-- Up to the instant the boundary was last scheduled, FREQ_OUT has made the steps noted there (R6). -/
theorem Timescale.freqMadeBy_of_le {x : Timescale} {t : Instant} (h : t ≤ x.freqFrom) :
    x.freqMadeBy t = x.freqMade := by
  simp [Timescale.freqMadeBy, h]

/-- From the end of its spread on, FREQ_OUT has made all its steps (R6). -/
theorem Timescale.freqMadeBy_of_span_le {x : Timescale} {t : Instant} (hf : x.freqFrom < t) (h : x.freqSpan ≤ t) :
    x.freqMadeBy t = x.freqSteps := by
  simp [Timescale.freqMadeBy, Int.not_le.mpr hf, h]

/-- Scheduling notes the steps made by then, and spreads the rest from there (R6). -/
theorem Timescale.schedule_freq {x : Timescale} (h : x.osc = .present) :
    x.schedule.freqMade = x.freqMadeBy x.now ∧ x.schedule.freqFrom = x.now ∧
    x.schedule.freqSteps = x.lastBoundary + Config.second - place (x.boundaryIndex + 1) (x.phiWith 0) := by
  simp [Timescale.schedule, h]

@[simp] theorem commitDue_keeps (s : State) :
    (commitDue s).mon = s.mon ∧ (commitDue s).bus = s.bus ∧ (commitDue s).ptu = s.ptu ∧
    (commitDue s).eng = s.eng ∧ (commitDue s).lrn = s.lrn ∧ (commitDue s).scu = s.scu ∧
    (commitDue s).pwr = s.pwr ∧ (commitDue s).cfg = s.cfg ∧ (commitDue s).eeprom = s.eeprom ∧
    (commitDue s).pending = s.pending := by
  unfold commitDue
  try dsimp only
  repeat' split
  all_goals simp

@[simp] theorem takeCommitted_keeps (r : AdjustRecord) (s : State) :
    (takeCommitted r s).mon = s.mon ∧ (takeCommitted r s).bus = s.bus ∧ (takeCommitted r s).ptu = s.ptu ∧
    (takeCommitted r s).eng = s.eng ∧ (takeCommitted r s).lrn = s.lrn ∧ (takeCommitted r s).scu = s.scu ∧
    (takeCommitted r s).pwr = s.pwr ∧ (takeCommitted r s).cfg = s.cfg ∧ (takeCommitted r s).eeprom = s.eeprom ∧
    (takeCommitted r s).pending = s.pending := by
  unfold takeCommitted
  try dsimp only
  all_goals simp

@[simp] theorem requestStep_keeps (y : Int) (s : State) :
    (requestStep y s).mon = s.mon ∧ (requestStep y s).bus = s.bus ∧ (requestStep y s).ptu = s.ptu ∧
    (requestStep y s).eng = s.eng ∧ (requestStep y s).lrn = s.lrn ∧ (requestStep y s).scu = s.scu ∧
    (requestStep y s).pwr = s.pwr ∧ (requestStep y s).cfg = s.cfg ∧ (requestStep y s).eeprom = s.eeprom ∧
    (requestStep y s).pending = s.pending := by
  unfold requestStep
  try dsimp only
  repeat' split
  all_goals simp

@[simp] theorem acceptAdjust_keeps (k : AdjustKind) (a : Int) (d : Nat) (st : Stamp) (s : State) :
    (acceptAdjust k a d st s).mon = s.mon ∧ (acceptAdjust k a d st s).bus = s.bus ∧
    (acceptAdjust k a d st s).ptu = s.ptu ∧ (acceptAdjust k a d st s).eng = s.eng ∧
    (acceptAdjust k a d st s).lrn = s.lrn ∧ (acceptAdjust k a d st s).scu = s.scu ∧
    (acceptAdjust k a d st s).pwr = s.pwr ∧ (acceptAdjust k a d st s).cfg = s.cfg ∧
    (acceptAdjust k a d st s).eeprom = s.eeprom ∧ (acceptAdjust k a d st s).pending = s.pending := by
  unfold acceptAdjust
  try dsimp only
  repeat' split
  all_goals simp

@[simp] theorem abortSlot_keeps (s : State) :
    (abortSlot s).mon = s.mon ∧ (abortSlot s).bus = s.bus ∧ (abortSlot s).ptu = s.ptu ∧
    (abortSlot s).eng = s.eng ∧ (abortSlot s).lrn = s.lrn ∧ (abortSlot s).scu = s.scu ∧
    (abortSlot s).pwr = s.pwr ∧ (abortSlot s).cfg = s.cfg ∧ (abortSlot s).eeprom = s.eeprom ∧
    (abortSlot s).pending = s.pending := by
  unfold abortSlot
  try dsimp only
  repeat' split
  all_goals simp

end Sys2Proof.Machine
end

