-- ==== Sys2Proof/Laws/LearningFrame.lean ====
section
/-! SUPPORT. What each operation of Machine/Learning.lean leaves as it was: one lemma per operation, a conjunction
over the blocks it never touches, for `simp`. -/

namespace Sys2Proof.Machine

@[simp] theorem learnOffer_keeps (v : Int) (s : State) :
    (learnOffer v s).tsg = s.tsg ∧ (learnOffer v s).mon = s.mon ∧ (learnOffer v s).bus = s.bus ∧
    (learnOffer v s).ptu = s.ptu ∧ (learnOffer v s).eng = s.eng ∧ (learnOffer v s).scu = s.scu ∧
    (learnOffer v s).pwr = s.pwr ∧ (learnOffer v s).cfg = s.cfg ∧ (learnOffer v s).eeprom = s.eeprom ∧
    (learnOffer v s).pending = s.pending := by
  unfold learnOffer
  try dsimp only
  repeat' split
  all_goals simp

@[simp] theorem takeAgingSample_keeps (s : State) :
    (takeAgingSample s).tsg = s.tsg ∧ (takeAgingSample s).mon = s.mon ∧ (takeAgingSample s).bus = s.bus ∧
    (takeAgingSample s).ptu = s.ptu ∧ (takeAgingSample s).eng = s.eng ∧ (takeAgingSample s).scu = s.scu ∧
    (takeAgingSample s).pwr = s.pwr ∧ (takeAgingSample s).cfg = s.cfg ∧ (takeAgingSample s).eeprom = s.eeprom ∧
    (takeAgingSample s).pending = s.pending := by
  unfold takeAgingSample
  try dsimp only
  repeat' split
  all_goals simp

@[simp] theorem clearLearning_keeps (s : State) :
    (clearLearning s).tsg = s.tsg ∧ (clearLearning s).mon = s.mon ∧ (clearLearning s).bus = s.bus ∧
    (clearLearning s).ptu = s.ptu ∧ (clearLearning s).eng = s.eng ∧ (clearLearning s).scu = s.scu ∧
    (clearLearning s).pwr = s.pwr ∧ (clearLearning s).cfg = s.cfg ∧ (clearLearning s).eeprom = s.eeprom ∧
    (clearLearning s).pending = s.pending := by
  unfold clearLearning
  try dsimp only
  all_goals simp

@[simp] theorem beginPage_keeps (p : SaveProgress) (s : State) :
    (beginPage p s).tsg = s.tsg ∧ (beginPage p s).mon = s.mon ∧ (beginPage p s).bus = s.bus ∧
    (beginPage p s).ptu = s.ptu ∧ (beginPage p s).eng = s.eng ∧ (beginPage p s).scu = s.scu ∧
    (beginPage p s).pwr = s.pwr ∧ (beginPage p s).cfg = s.cfg ∧ (beginPage p s).eeprom = s.eeprom ∧
    (beginPage p s).pending = s.pending := by
  unfold beginPage
  try dsimp only
  repeat' split
  all_goals simp

@[simp] theorem startSave_keeps (s : State) :
    (startSave s).tsg = s.tsg ∧ (startSave s).mon = s.mon ∧ (startSave s).bus = s.bus ∧
    (startSave s).ptu = s.ptu ∧ (startSave s).eng = s.eng ∧ (startSave s).scu = s.scu ∧
    (startSave s).pwr = s.pwr ∧ (startSave s).cfg = s.cfg ∧ (startSave s).eeprom = s.eeprom ∧
    (startSave s).pending = s.pending := by
  unfold startSave
  try dsimp only
  repeat' split
  all_goals simp

@[simp] theorem landPage_keeps (w : PageWrite) (s : State) :
    (landPage w s).tsg = s.tsg ∧ (landPage w s).mon = s.mon ∧ (landPage w s).bus = s.bus ∧
    (landPage w s).ptu = s.ptu ∧ (landPage w s).eng = s.eng ∧ (landPage w s).lrn = s.lrn ∧
    (landPage w s).scu = s.scu ∧ (landPage w s).pwr = s.pwr ∧ (landPage w s).cfg = s.cfg ∧
    (landPage w s).pending = s.pending := by
  unfold landPage
  try dsimp only
  all_goals simp

@[simp] theorem cutPage_keeps (b : Bool) (w : PageWrite) (s : State) :
    (cutPage b w s).tsg = s.tsg ∧ (cutPage b w s).mon = s.mon ∧ (cutPage b w s).bus = s.bus ∧
    (cutPage b w s).ptu = s.ptu ∧ (cutPage b w s).eng = s.eng ∧ (cutPage b w s).lrn = s.lrn ∧
    (cutPage b w s).scu = s.scu ∧ (cutPage b w s).pwr = s.pwr ∧ (cutPage b w s).cfg = s.cfg ∧
    (cutPage b w s).pending = s.pending := by
  unfold cutPage
  split
  all_goals simp

@[simp] theorem pageWriteDone_keeps (s : State) :
    (pageWriteDone s).tsg = s.tsg ∧ (pageWriteDone s).mon = s.mon ∧ (pageWriteDone s).bus = s.bus ∧
    (pageWriteDone s).ptu = s.ptu ∧ (pageWriteDone s).eng = s.eng ∧ (pageWriteDone s).scu = s.scu ∧
    (pageWriteDone s).pwr = s.pwr ∧ (pageWriteDone s).cfg = s.cfg ∧ (pageWriteDone s).pending = s.pending := by
  unfold pageWriteDone
  try dsimp only
  repeat' split
  all_goals simp

@[simp] theorem pageWriteFailed_keeps (b : Bool) (s : State) :
    (pageWriteFailed b s).tsg = s.tsg ∧ (pageWriteFailed b s).mon = s.mon ∧ (pageWriteFailed b s).ptu = s.ptu ∧
    (pageWriteFailed b s).eng = s.eng ∧ (pageWriteFailed b s).pwr = s.pwr ∧ (pageWriteFailed b s).cfg = s.cfg ∧
    (pageWriteFailed b s).pending = s.pending := by
  unfold pageWriteFailed
  try dsimp only
  repeat' split
  all_goals simp

@[simp] theorem cutTransfer_keeps (b : Bool) (s : State) :
    (cutTransfer b s).tsg = s.tsg ∧ (cutTransfer b s).mon = s.mon ∧ (cutTransfer b s).bus = s.bus ∧
    (cutTransfer b s).ptu = s.ptu ∧ (cutTransfer b s).eng = s.eng ∧ (cutTransfer b s).lrn = s.lrn ∧
    (cutTransfer b s).scu = s.scu ∧ (cutTransfer b s).pwr = s.pwr ∧ (cutTransfer b s).cfg = s.cfg ∧
    (cutTransfer b s).pending = s.pending := by
  unfold cutTransfer
  try dsimp only
  repeat' split
  all_goals simp

@[simp] theorem putLearning_keeps (t : Vector Bin 64) (a : List AgingSample) (r : Int) (s : State) :
    (putLearning t a r s).tsg = s.tsg ∧ (putLearning t a r s).mon = s.mon ∧ (putLearning t a r s).bus = s.bus ∧
    (putLearning t a r s).ptu = s.ptu ∧ (putLearning t a r s).eng = s.eng ∧ (putLearning t a r s).scu = s.scu ∧
    (putLearning t a r s).pwr = s.pwr ∧ (putLearning t a r s).cfg = s.cfg ∧
    (putLearning t a r s).eeprom = s.eeprom ∧ (putLearning t a r s).pending = s.pending := by
  unfold putLearning
  try dsimp only
  all_goals simp

@[simp] theorem restoreLearning_keeps (b : Bool) (s : State) :
    (restoreLearning b s).tsg = s.tsg ∧ (restoreLearning b s).mon = s.mon ∧ (restoreLearning b s).ptu = s.ptu ∧
    (restoreLearning b s).eng = s.eng ∧ (restoreLearning b s).pwr = s.pwr ∧ (restoreLearning b s).cfg = s.cfg ∧
    (restoreLearning b s).eeprom = s.eeprom ∧ (restoreLearning b s).pending = s.pending := by
  unfold restoreLearning
  try dsimp only
  repeat' split
  all_goals simp

/-- A page of a save in flight lands. -/
@[simp] theorem PageWrite.lands_of_save {w : PageWrite} (h : w.ofSave = true) : w.lands = true := by
  simp [PageWrite.lands, h]

end Sys2Proof.Machine
end

