-- ==== Sys2Proof/Laws/EngineFrame.lean ====
section
/-! SUPPORT. What each operation of Machine/Engine.lean leaves as it was: one lemma per operation, a conjunction over
the blocks it never touches, for `simp`. -/

namespace Sys2Proof.Machine

@[simp] theorem recomputeU_keeps (s : State) :
    (recomputeU s).tsg = s.tsg ∧ (recomputeU s).mon = s.mon ∧ (recomputeU s).bus = s.bus ∧
    (recomputeU s).ptu = s.ptu ∧ (recomputeU s).lrn = s.lrn ∧ (recomputeU s).scu = s.scu ∧
    (recomputeU s).pwr = s.pwr ∧ (recomputeU s).cfg = s.cfg ∧ (recomputeU s).eeprom = s.eeprom ∧
    (recomputeU s).pending = s.pending := by
  unfold recomputeU
  try dsimp only
  all_goals simp

@[simp] theorem exhaustionTest_keeps (s : State) :
    (exhaustionTest s).mon = s.mon ∧ (exhaustionTest s).ptu = s.ptu ∧ (exhaustionTest s).lrn = s.lrn ∧
    (exhaustionTest s).pwr = s.pwr ∧ (exhaustionTest s).cfg = s.cfg ∧ (exhaustionTest s).eeprom = s.eeprom ∧
    (exhaustionTest s).pending = s.pending := by
  unfold exhaustionTest
  try dsimp only
  repeat' split
  all_goals simp

@[simp] theorem setF_keeps (f : Int) (s : State) :
    (setF f s).mon = s.mon ∧ (setF f s).bus = s.bus ∧ (setF f s).ptu = s.ptu ∧ (setF f s).eng = s.eng ∧
    (setF f s).lrn = s.lrn ∧ (setF f s).scu = s.scu ∧ (setF f s).pwr = s.pwr ∧ (setF f s).cfg = s.cfg ∧
    (setF f s).eeprom = s.eeprom ∧ (setF f s).pending = s.pending := by
  unfold setF
  try dsimp only
  all_goals simp

@[simp] theorem predict_keeps (s : State) :
    (predict s).mon = s.mon ∧ (predict s).bus = s.bus ∧ (predict s).ptu = s.ptu ∧ (predict s).lrn = s.lrn ∧
    (predict s).scu = s.scu ∧ (predict s).pwr = s.pwr ∧ (predict s).cfg = s.cfg ∧
    (predict s).eeprom = s.eeprom ∧ (predict s).pending = s.pending := by
  unfold predict
  try dsimp only
  repeat' split
  all_goals simp

@[simp] theorem loopUpdate_keeps (y : Int) (p t : Nat) (s : State) :
    (loopUpdate y p t s).mon = s.mon ∧ (loopUpdate y p t s).bus = s.bus ∧ (loopUpdate y p t s).ptu = s.ptu ∧
    (loopUpdate y p t s).scu = s.scu ∧ (loopUpdate y p t s).pwr = s.pwr ∧ (loopUpdate y p t s).cfg = s.cfg ∧
    (loopUpdate y p t s).eeprom = s.eeprom ∧ (loopUpdate y p t s).pending = s.pending := by
  unfold loopUpdate
  try dsimp only
  all_goals simp

@[simp] theorem recordY_keeps (y : Int) (s : State) :
    (recordY y s).tsg = s.tsg ∧ (recordY y s).mon = s.mon ∧ (recordY y s).bus = s.bus ∧
    (recordY y s).ptu = s.ptu ∧ (recordY y s).lrn = s.lrn ∧ (recordY y s).scu = s.scu ∧
    (recordY y s).pwr = s.pwr ∧ (recordY y s).cfg = s.cfg ∧ (recordY y s).eeprom = s.eeprom ∧
    (recordY y s).pending = s.pending := by
  unfold recordY
  try dsimp only
  all_goals simp

@[simp] theorem recordC_keeps (c : Consensus) (t : Tier) (s : State) :
    (recordC c t s).tsg = s.tsg ∧ (recordC c t s).mon = s.mon ∧ (recordC c t s).bus = s.bus ∧
    (recordC c t s).ptu = s.ptu ∧ (recordC c t s).lrn = s.lrn ∧ (recordC c t s).scu = s.scu ∧
    (recordC c t s).pwr = s.pwr ∧ (recordC c t s).cfg = s.cfg ∧ (recordC c t s).eeprom = s.eeprom ∧
    (recordC c t s).pending = s.pending := by
  unfold recordC
  try dsimp only
  all_goals simp

@[simp] theorem announce_keeps (e : EngineState) (s : State) :
    (announce e s).mon = s.mon ∧ (announce e s).ptu = s.ptu ∧ (announce e s).eng = s.eng ∧
    (announce e s).lrn = s.lrn ∧ (announce e s).pwr = s.pwr ∧ (announce e s).cfg = s.cfg ∧
    (announce e s).eeprom = s.eeprom ∧ (announce e s).pending = s.pending := by
  unfold announce
  try dsimp only
  repeat' split
  all_goals simp

@[simp] theorem lockAchieved_keeps (s : State) :
    (lockAchieved s).mon = s.mon ∧ (lockAchieved s).ptu = s.ptu ∧ (lockAchieved s).lrn = s.lrn ∧
    (lockAchieved s).pwr = s.pwr ∧ (lockAchieved s).cfg = s.cfg ∧ (lockAchieved s).eeprom = s.eeprom ∧
    (lockAchieved s).pending = s.pending := by
  unfold lockAchieved
  try dsimp only
  repeat' split
  all_goals simp

@[simp] theorem acquireInput_keeps (y : Int) (p : Nat) (s : State) :
    (acquireInput y p s).mon = s.mon ∧ (acquireInput y p s).ptu = s.ptu ∧ (acquireInput y p s).pwr = s.pwr ∧
    (acquireInput y p s).cfg = s.cfg ∧ (acquireInput y p s).eeprom = s.eeprom ∧
    (acquireInput y p s).pending = s.pending := by
  unfold acquireInput
  try dsimp only
  repeat' split
  all_goals simp

@[simp] theorem pushRing_keeps (s : State) :
    (pushRing s).tsg = s.tsg ∧ (pushRing s).mon = s.mon ∧ (pushRing s).bus = s.bus ∧ (pushRing s).ptu = s.ptu ∧
    (pushRing s).lrn = s.lrn ∧ (pushRing s).scu = s.scu ∧ (pushRing s).pwr = s.pwr ∧ (pushRing s).cfg = s.cfg ∧
    (pushRing s).eeprom = s.eeprom ∧ (pushRing s).pending = s.pending := by
  unfold pushRing
  try dsimp only
  all_goals simp

@[simp] theorem setIntegralF_keeps (s : State) :
    (setIntegralF s).mon = s.mon ∧ (setIntegralF s).bus = s.bus ∧ (setIntegralF s).ptu = s.ptu ∧
    (setIntegralF s).eng = s.eng ∧ (setIntegralF s).lrn = s.lrn ∧ (setIntegralF s).scu = s.scu ∧
    (setIntegralF s).pwr = s.pwr ∧ (setIntegralF s).cfg = s.cfg ∧ (setIntegralF s).eeprom = s.eeprom ∧
    (setIntegralF s).pending = s.pending := by
  unfold setIntegralF
  try dsimp only
  all_goals simp

@[simp] theorem enterAcquireReference_keeps (s : State) :
    (enterAcquireReference s).mon = s.mon ∧ (enterAcquireReference s).ptu = s.ptu ∧
    (enterAcquireReference s).lrn = s.lrn ∧ (enterAcquireReference s).pwr = s.pwr ∧
    (enterAcquireReference s).cfg = s.cfg ∧ (enterAcquireReference s).eeprom = s.eeprom ∧
    (enterAcquireReference s).pending = s.pending := by
  simp [enterAcquireReference, enterState]

@[simp] theorem enterAcquireTier_keeps (t : Tier) (c : Consensus) (s : State) :
    (enterAcquireTier t c s).mon = s.mon ∧ (enterAcquireTier t c s).ptu = s.ptu ∧
    (enterAcquireTier t c s).pwr = s.pwr ∧ (enterAcquireTier t c s).cfg = s.cfg ∧
    (enterAcquireTier t c s).eeprom = s.eeprom ∧ (enterAcquireTier t c s).pending = s.pending := by
  simp [enterAcquireTier, enterState]

@[simp] theorem enterFollow_keeps (t : Tier) (c : Consensus) (s : State) :
    (enterFollow t c s).mon = s.mon ∧ (enterFollow t c s).ptu = s.ptu ∧ (enterFollow t c s).lrn = s.lrn ∧
    (enterFollow t c s).pwr = s.pwr ∧ (enterFollow t c s).cfg = s.cfg ∧ (enterFollow t c s).eeprom = s.eeprom ∧
    (enterFollow t c s).pending = s.pending := by
  simp [enterFollow, enterState]

@[simp] theorem enterHoldover_keeps (s : State) :
    (enterHoldover s).mon = s.mon ∧ (enterHoldover s).ptu = s.ptu ∧ (enterHoldover s).lrn = s.lrn ∧
    (enterHoldover s).pwr = s.pwr ∧ (enterHoldover s).cfg = s.cfg ∧ (enterHoldover s).eeprom = s.eeprom ∧
    (enterHoldover s).pending = s.pending := by
  simp [enterHoldover, enterState]

@[simp] theorem enterFreerun_keeps (s : State) :
    (enterFreerun s).mon = s.mon ∧ (enterFreerun s).ptu = s.ptu ∧ (enterFreerun s).lrn = s.lrn ∧
    (enterFreerun s).pwr = s.pwr ∧ (enterFreerun s).cfg = s.cfg ∧ (enterFreerun s).eeprom = s.eeprom ∧
    (enterFreerun s).pending = s.pending := by
  simp [enterFreerun, enterState]

@[simp] theorem trackInput_keeps (y : Int) (p t : Nat) (s : State) :
    (trackInput y p t s).mon = s.mon ∧ (trackInput y p t s).ptu = s.ptu ∧ (trackInput y p t s).pwr = s.pwr ∧
    (trackInput y p t s).cfg = s.cfg ∧ (trackInput y p t s).eeprom = s.eeprom ∧
    (trackInput y p t s).pending = s.pending := by
  unfold trackInput
  dsimp only
  repeat' split
  all_goals simp [enterState]

@[simp] theorem applySelection_keeps (s : State) :
    (applySelection s).mon = s.mon ∧ (applySelection s).ptu = s.ptu ∧ (applySelection s).pwr = s.pwr ∧
    (applySelection s).cfg = s.cfg ∧ (applySelection s).eeprom = s.eeprom ∧
    (applySelection s).pending = s.pending := by
  unfold applySelection
  try dsimp only
  repeat' split
  all_goals simp

@[simp] theorem selectSource_keeps (s : State) :
    (selectSource s).mon = s.mon ∧ (selectSource s).ptu = s.ptu ∧ (selectSource s).pwr = s.pwr ∧
    (selectSource s).cfg = s.cfg ∧ (selectSource s).eeprom = s.eeprom ∧ (selectSource s).pending = s.pending := by
  unfold selectSource
  try dsimp only
  repeat' split
  all_goals simp

@[simp] theorem takeObservation_keeps (y : Int) (s : State) :
    (takeObservation y s).mon = s.mon ∧ (takeObservation y s).ptu = s.ptu ∧ (takeObservation y s).pwr = s.pwr ∧
    (takeObservation y s).cfg = s.cfg ∧ (takeObservation y s).eeprom = s.eeprom ∧
    (takeObservation y s).pending = s.pending := by
  unfold takeObservation
  try dsimp only
  repeat' split
  all_goals simp

@[simp] theorem consensusInput_keeps (s : State) :
    (consensusInput s).mon = s.mon ∧ (consensusInput s).ptu = s.ptu ∧ (consensusInput s).pwr = s.pwr ∧
    (consensusInput s).cfg = s.cfg ∧ (consensusInput s).eeprom = s.eeprom ∧
    (consensusInput s).pending = s.pending := by
  unfold consensusInput
  try dsimp only
  repeat' split
  all_goals simp

@[simp] theorem takeNudge_keeps (s : State) :
    (takeNudge s).mon = s.mon ∧ (takeNudge s).bus = s.bus ∧ (takeNudge s).ptu = s.ptu ∧
    (takeNudge s).lrn = s.lrn ∧ (takeNudge s).scu = s.scu ∧ (takeNudge s).pwr = s.pwr ∧
    (takeNudge s).cfg = s.cfg ∧ (takeNudge s).eeprom = s.eeprom ∧ (takeNudge s).pending = s.pending := by
  unfold takeNudge
  try dsimp only
  repeat' split
  all_goals simp

@[simp] theorem disagreementCheck_keeps (s : State) :
    (disagreementCheck s).1.tsg = s.tsg ∧ (disagreementCheck s).1.mon = s.mon ∧
    (disagreementCheck s).1.ptu = s.ptu ∧ (disagreementCheck s).1.lrn = s.lrn ∧
    (disagreementCheck s).1.pwr = s.pwr ∧ (disagreementCheck s).1.cfg = s.cfg ∧
    (disagreementCheck s).1.eeprom = s.eeprom ∧ (disagreementCheck s).1.pending = s.pending := by
  unfold disagreementCheck
  try dsimp only
  repeat' split
  all_goals simp

@[simp] theorem takePoint_keeps (s : State) :
    (takePoint s).1.mon = s.mon ∧ (takePoint s).1.ptu = s.ptu ∧ (takePoint s).1.pwr = s.pwr ∧
    (takePoint s).1.cfg = s.cfg ∧ (takePoint s).1.eeprom = s.eeprom ∧ (takePoint s).1.pending = s.pending := by
  unfold takePoint
  try dsimp only
  repeat' split
  all_goals simp

@[simp] theorem emptyMarkSlots_keeps (s : State) :
    (emptyMarkSlots s).tsg = s.tsg ∧ (emptyMarkSlots s).mon = s.mon ∧ (emptyMarkSlots s).ptu = s.ptu ∧
    (emptyMarkSlots s).eng = s.eng ∧ (emptyMarkSlots s).lrn = s.lrn ∧ (emptyMarkSlots s).scu = s.scu ∧
    (emptyMarkSlots s).pwr = s.pwr ∧ (emptyMarkSlots s).cfg = s.cfg ∧ (emptyMarkSlots s).eeprom = s.eeprom ∧
    (emptyMarkSlots s).pending = s.pending := by
  unfold emptyMarkSlots
  try dsimp only
  all_goals simp

@[simp] theorem enterFault_keeps (s : State) :
    (enterFault s).mon = s.mon ∧ (enterFault s).ptu = s.ptu ∧ (enterFault s).lrn = s.lrn ∧
    (enterFault s).pwr = s.pwr ∧ (enterFault s).cfg = s.cfg ∧ (enterFault s).eeprom = s.eeprom ∧
    (enterFault s).pending = s.pending := by
  unfold enterFault
  try dsimp only
  repeat' split
  all_goals simp

@[simp] theorem reportLoss_keeps (s : State) :
    (reportLoss s).mon = s.mon ∧ (reportLoss s).ptu = s.ptu ∧ (reportLoss s).lrn = s.lrn ∧
    (reportLoss s).pwr = s.pwr ∧ (reportLoss s).cfg = s.cfg ∧ (reportLoss s).eeprom = s.eeprom ∧
    (reportLoss s).pending = s.pending := by
  unfold reportLoss
  try dsimp only
  all_goals simp

@[simp] theorem declareLoss_keeps (s : State) :
    (declareLoss s).mon = s.mon ∧ (declareLoss s).ptu = s.ptu ∧ (declareLoss s).lrn = s.lrn ∧
    (declareLoss s).pwr = s.pwr ∧ (declareLoss s).cfg = s.cfg ∧ (declareLoss s).eeprom = s.eeprom ∧
    (declareLoss s).pending = s.pending := by
  unfold declareLoss
  try dsimp only
  repeat' split
  all_goals simp

end Sys2Proof.Machine
end

