-- ==== Sys2Proof/Laws/MonitorFrame.lean ====
section
/-! SUPPORT. What each operation of Machine/Monitor.lean leaves as it was: one lemma per operation, a conjunction over
the blocks it never touches, for `simp`. -/

namespace Sys2Proof.Machine

@[simp] theorem enterQual_keeps (q : Qualification) (s : State) :
    (enterQual q s).ptu = s.ptu ∧ (enterQual q s).pwr = s.pwr ∧ (enterQual q s).cfg = s.cfg ∧
    (enterQual q s).eeprom = s.eeprom ∧ (enterQual q s).pending = s.pending := by
  unfold enterQual
  try dsimp only
  all_goals simp

@[simp] theorem orderDisqualification_keeps (s : State) :
    (orderDisqualification s).ptu = s.ptu ∧ (orderDisqualification s).pwr = s.pwr ∧
    (orderDisqualification s).cfg = s.cfg ∧ (orderDisqualification s).eeprom = s.eeprom ∧
    (orderDisqualification s).pending = s.pending := by
  unfold orderDisqualification
  try dsimp only
  repeat' split
  all_goals simp

@[simp] theorem residualFault_keeps (s : State) :
    (residualFault s).ptu = s.ptu ∧ (residualFault s).pwr = s.pwr ∧ (residualFault s).cfg = s.cfg ∧
    (residualFault s).eeprom = s.eeprom ∧ (residualFault s).pending = s.pending := by
  unfold residualFault
  try dsimp only
  repeat' split
  all_goals simp

@[simp] theorem completeBlock_keeps (s : State) :
    (completeBlock s).ptu = s.ptu ∧ (completeBlock s).pwr = s.pwr ∧ (completeBlock s).cfg = s.cfg ∧
    (completeBlock s).eeprom = s.eeprom ∧ (completeBlock s).pending = s.pending := by
  unfold completeBlock
  try dsimp only
  repeat' split
  all_goals simp

@[simp] theorem addToBlock_keeps (m : Int) (tag : Second) (s : State) :
    (addToBlock m tag s).ptu = s.ptu ∧ (addToBlock m tag s).pwr = s.pwr ∧ (addToBlock m tag s).cfg = s.cfg ∧
    (addToBlock m tag s).eeprom = s.eeprom ∧ (addToBlock m tag s).pending = s.pending := by
  unfold addToBlock
  try dsimp only
  repeat' split
  all_goals simp

@[simp] theorem checkMeasurement_keeps (m : Int) (tag : Second) (s : State) :
    (checkMeasurement m tag s).ptu = s.ptu ∧ (checkMeasurement m tag s).pwr = s.pwr ∧
    (checkMeasurement m tag s).cfg = s.cfg ∧ (checkMeasurement m tag s).eeprom = s.eeprom ∧
    (checkMeasurement m tag s).pending = s.pending := by
  unfold checkMeasurement
  try dsimp only
  repeat' split
  all_goals simp

@[simp] theorem measure_keeps (p b : Instant) (tag : Second) (s : State) :
    (measure p b tag s).ptu = s.ptu ∧ (measure p b tag s).pwr = s.pwr ∧ (measure p b tag s).cfg = s.cfg ∧
    (measure p b tag s).eeprom = s.eeprom ∧ (measure p b tag s).pending = s.pending := by
  unfold measure
  try dsimp only
  all_goals simp

@[simp] theorem takePulse_keeps (t : Instant) (s : State) :
    (takePulse t s).ptu = s.ptu ∧ (takePulse t s).pwr = s.pwr ∧ (takePulse t s).cfg = s.cfg ∧
    (takePulse t s).eeprom = s.eeprom ∧ (takePulse t s).pending = s.pending := by
  unfold takePulse
  try dsimp only
  repeat' split
  all_goals simp

@[simp] theorem missingPulse_keeps (s : State) :
    (missingPulse s).ptu = s.ptu ∧ (missingPulse s).pwr = s.pwr ∧ (missingPulse s).cfg = s.cfg ∧
    (missingPulse s).eeprom = s.eeprom ∧ (missingPulse s).pending = s.pending := by
  unfold missingPulse
  try dsimp only
  repeat' split
  all_goals simp

@[simp] theorem noticeMonitor_keeps (s : State) :
    (noticeMonitor s).tsg = s.tsg ∧ (noticeMonitor s).bus = s.bus ∧ (noticeMonitor s).ptu = s.ptu ∧
    (noticeMonitor s).eng = s.eng ∧ (noticeMonitor s).lrn = s.lrn ∧ (noticeMonitor s).scu = s.scu ∧
    (noticeMonitor s).pwr = s.pwr ∧ (noticeMonitor s).cfg = s.cfg ∧ (noticeMonitor s).eeprom = s.eeprom ∧
    (noticeMonitor s).pending = s.pending := by
  unfold noticeMonitor
  try dsimp only
  all_goals simp

@[simp] theorem measureHeld_keeps (s : State) :
    (measureHeld s).ptu = s.ptu ∧ (measureHeld s).pwr = s.pwr ∧ (measureHeld s).cfg = s.cfg ∧
    (measureHeld s).eeprom = s.eeprom ∧ (measureHeld s).pending = s.pending := by
  unfold measureHeld
  try dsimp only
  repeat' split
  all_goals simp

@[simp] theorem countDown_keeps (s : State) :
    (countDown s).ptu = s.ptu ∧ (countDown s).pwr = s.pwr ∧ (countDown s).cfg = s.cfg ∧
    (countDown s).eeprom = s.eeprom ∧ (countDown s).pending = s.pending := by
  unfold countDown
  try dsimp only
  repeat' split
  all_goals simp

@[simp] theorem monitorBoundary_keeps (b : Bool) (s : State) :
    (monitorBoundary b s).ptu = s.ptu ∧ (monitorBoundary b s).pwr = s.pwr ∧ (monitorBoundary b s).cfg = s.cfg ∧
    (monitorBoundary b s).eeprom = s.eeprom ∧ (monitorBoundary b s).pending = s.pending := by
  unfold monitorBoundary
  try dsimp only
  repeat' split
  all_goals simp

@[simp] theorem takeStaleBlock_keeps (s : State) :
    (takeStaleBlock s).ptu = s.ptu ∧ (takeStaleBlock s).pwr = s.pwr ∧ (takeStaleBlock s).cfg = s.cfg ∧
    (takeStaleBlock s).eeprom = s.eeprom ∧ (takeStaleBlock s).pending = s.pending := by
  unfold takeStaleBlock
  try dsimp only
  all_goals simp

@[simp] theorem takeQualification_keeps (s : State) :
    (takeQualification s).ptu = s.ptu ∧ (takeQualification s).pwr = s.pwr ∧ (takeQualification s).cfg = s.cfg ∧
    (takeQualification s).eeprom = s.eeprom ∧ (takeQualification s).pending = s.pending := by
  unfold takeQualification
  try dsimp only
  all_goals simp

@[simp] theorem takeHoldoff_keeps (s : State) :
    (takeHoldoff s).ptu = s.ptu ∧ (takeHoldoff s).pwr = s.pwr ∧ (takeHoldoff s).cfg = s.cfg ∧
    (takeHoldoff s).eeprom = s.eeprom ∧ (takeHoldoff s).pending = s.pending := by
  unfold takeHoldoff
  try dsimp only
  repeat' split
  all_goals simp

/-- With no order noted a verdict is tested on the window. -/
theorem State.testedWindow_of_none {s : State} (h : s.mon.ordered = none) : s.testedWindow = s.mon.window := by
  simp [State.testedWindow, h]

/-- An order on a reference that is not QUALIFIED does nothing; on a QUALIFIED one it is the entry to DISQUALIFIED, with
the cleared window noted. -/
theorem orderDisqualification_eq (s : State) :
    orderDisqualification s = s ∨
    orderDisqualification s = (enterQual .disqualified s).withMon { (enterQual .disqualified s).mon with
      ordered := some ⟨s.tsg.now, s.mon.window⟩ } := by
  unfold orderDisqualification
  split
  · exact .inr rfl
  · exact .inl rfl

end Sys2Proof.Machine
end

