-- ==== Sys2Proof/Laws/PeersFrame.lean ====
section
/-! SUPPORT. What each operation of Machine/Peers.lean leaves as it was: one lemma per operation, a conjunction over the
blocks it never touches, for `simp`. -/

namespace Sys2Proof.Machine

@[simp] theorem takeMark_keeps (a : Fin 16) (q : BitVec 8) (st : Stamp) (s : State) :
    (takeMark a q st s).tsg = s.tsg ∧ (takeMark a q st s).mon = s.mon ∧ (takeMark a q st s).bus = s.bus ∧
    (takeMark a q st s).eng = s.eng ∧ (takeMark a q st s).lrn = s.lrn ∧ (takeMark a q st s).scu = s.scu ∧
    (takeMark a q st s).pwr = s.pwr ∧ (takeMark a q st s).cfg = s.cfg ∧ (takeMark a q st s).eeprom = s.eeprom ∧
    (takeMark a q st s).pending = s.pending := by
  unfold takeMark
  try dsimp only
  all_goals simp

@[simp] theorem takeSample_keeps (a : Fin 16) (l : Int) (f : FollowData) (k : Second) (s : State) :
    (takeSample a l f k s).tsg = s.tsg ∧ (takeSample a l f k s).mon = s.mon ∧
    (takeSample a l f k s).eng = s.eng ∧ (takeSample a l f k s).lrn = s.lrn ∧
    (takeSample a l f k s).pwr = s.pwr ∧ (takeSample a l f k s).cfg = s.cfg ∧
    (takeSample a l f k s).eeprom = s.eeprom ∧ (takeSample a l f k s).pending = s.pending := by
  unfold takeSample
  try dsimp only
  repeat' split
  all_goals simp

/-- The pending mark that a FOLLOW finds: the one held, or the one its entry lost at a boundary of this very instant. -/
theorem State.markFor_eq_some (s : State) (a : Fin 16) (m : PendingMark) :
    s.markFor a = some m ↔ s.ptu.marks[a] = some m ∨
      (s.ptu.marks[a] = none ∧ s.tsg.now = s.tsg.lastBoundary ∧ s.ptu.lapsed[a] = some m) := by
  unfold State.markFor
  cases s.ptu.marks[a] <;> simp

theorem State.markFor_held (s : State) (a : Fin 16) (m : PendingMark) (h : s.ptu.marks[a] = some m) :
    s.markFor a = some m := (s.markFor_eq_some a m).2 (.inl h)

@[simp] theorem PeerUnit.consume_marks (p : PeerUnit) (a : Fin 16) : (p.consume a).marks = p.marks.set a none := rfl
@[simp] theorem PeerUnit.consume_lapsed (p : PeerUnit) (a : Fin 16) : (p.consume a).lapsed = p.lapsed.set a none := rfl
@[simp] theorem PeerUnit.consume_peers (p : PeerUnit) (a : Fin 16) : (p.consume a).peers = p.peers := rfl
@[simp] theorem PeerUnit.consume_unpaired (p : PeerUnit) (a : Fin 16) : (p.consume a).unpaired = p.unpaired := rfl
@[simp] theorem PeerUnit.consume_orphan (p : PeerUnit) (a : Fin 16) : (p.consume a).orphan = p.orphan := rfl

/-- What an expiry does to the unit: the entry and its slot are empty, the mark is noted, and a filled slot counts. -/
theorem expirePeer_ptu (a : Fin 16) (s : State) : (expirePeer a s).ptu = { s.ptu with
    peers := s.ptu.peers.set a none
    marks := s.ptu.marks.set a none
    lapsed := s.ptu.lapsed.set a s.ptu.marks[a]
    unpaired := if s.ptu.marks[a] = none then s.ptu.unpaired else countUp s.ptu.unpaired } := by
  unfold expirePeer PeerUnit.dropMark
  cases h : s.ptu.marks[a] with
  | none =>
    have : s.ptu.marks.set a none = s.ptu.marks := by
      refine Vector.ext fun i hi => ?_
      by_cases hia : i = a.val
      · subst hia; simpa using h.symm
      · simp [Ne.symm hia]
    simp [PeerUnit.setPeer, State.withPtu, h, this]
  | some m => simp [PeerUnit.setPeer, PeerUnit.setMark, State.withPtu, h]

@[simp] theorem takeFollow_keeps (a : Fin 16) (f : FollowData) (st : Stamp) (s : State) :
    (takeFollow a f st s).tsg = s.tsg ∧ (takeFollow a f st s).mon = s.mon ∧ (takeFollow a f st s).eng = s.eng ∧
    (takeFollow a f st s).lrn = s.lrn ∧ (takeFollow a f st s).pwr = s.pwr ∧ (takeFollow a f st s).cfg = s.cfg ∧
    (takeFollow a f st s).eeprom = s.eeprom ∧ (takeFollow a f st s).pending = s.pending := by
  unfold takeFollow
  try dsimp only
  repeat' split
  all_goals simp

@[simp] theorem noticePeers_keeps (x : Int) (k : Second) (s : State) :
    (noticePeers x k s).tsg = s.tsg ∧ (noticePeers x k s).mon = s.mon ∧ (noticePeers x k s).bus = s.bus ∧
    (noticePeers x k s).eng = s.eng ∧ (noticePeers x k s).lrn = s.lrn ∧ (noticePeers x k s).scu = s.scu ∧
    (noticePeers x k s).pwr = s.pwr ∧ (noticePeers x k s).cfg = s.cfg ∧ (noticePeers x k s).eeprom = s.eeprom ∧
    (noticePeers x k s).pending = s.pending := by
  unfold noticePeers
  try dsimp only
  all_goals simp

@[simp] theorem formResults_keeps (s : State) :
    (formResults s).tsg = s.tsg ∧ (formResults s).mon = s.mon ∧ (formResults s).bus = s.bus ∧
    (formResults s).eng = s.eng ∧ (formResults s).lrn = s.lrn ∧ (formResults s).scu = s.scu ∧
    (formResults s).pwr = s.pwr ∧ (formResults s).cfg = s.cfg ∧ (formResults s).eeprom = s.eeprom ∧
    (formResults s).pending = s.pending := by
  unfold formResults
  try dsimp only
  all_goals simp

@[simp] theorem observationPoint_keeps (s : State) :
    (observationPoint s).pwr = s.pwr ∧ (observationPoint s).cfg = s.cfg ∧
    (observationPoint s).eeprom = s.eeprom ∧ (observationPoint s).pending = s.pending := by
  unfold observationPoint
  try dsimp only
  repeat' split
  all_goals simp

@[simp] theorem pointDue_keeps (s : State) :
    (pointDue s).pwr = s.pwr ∧ (pointDue s).cfg = s.cfg ∧ (pointDue s).eeprom = s.eeprom ∧
    (pointDue s).pending = s.pending := by
  unfold pointDue
  try dsimp only
  repeat' split
  all_goals simp

@[simp] theorem afterQuarantine_keeps (s : State) :
    (afterQuarantine s).pwr = s.pwr ∧ (afterQuarantine s).cfg = s.cfg ∧ (afterQuarantine s).eeprom = s.eeprom ∧
    (afterQuarantine s).pending = s.pending := by
  unfold afterQuarantine
  try dsimp only
  repeat' split
  all_goals simp

@[simp] theorem countQuarantine_keeps (s : State) :
    (countQuarantine s).pwr = s.pwr ∧ (countQuarantine s).cfg = s.cfg ∧ (countQuarantine s).eeprom = s.eeprom ∧
    (countQuarantine s).pending = s.pending := by
  unfold countQuarantine
  try dsimp only
  all_goals simp

@[simp] theorem afterExpiry_keeps (s : State) :
    (afterExpiry s).pwr = s.pwr ∧ (afterExpiry s).cfg = s.cfg ∧ (afterExpiry s).eeprom = s.eeprom ∧
    (afterExpiry s).pending = s.pending := by
  unfold afterExpiry
  try dsimp only
  repeat' split
  all_goals simp

@[simp] theorem peersBoundary_keeps (n : Option Int) (s : State) :
    (peersBoundary n s).pwr = s.pwr ∧ (peersBoundary n s).cfg = s.cfg ∧ (peersBoundary n s).eeprom = s.eeprom ∧
    (peersBoundary n s).pending = s.pending := by
  unfold peersBoundary
  try dsimp only
  repeat' split
  all_goals simp

@[simp] theorem expirePeer_keeps (a : Fin 16) (s : State) :
    (expirePeer a s).tsg = s.tsg ∧ (expirePeer a s).mon = s.mon ∧ (expirePeer a s).bus = s.bus ∧
    (expirePeer a s).eng = s.eng ∧ (expirePeer a s).lrn = s.lrn ∧ (expirePeer a s).scu = s.scu ∧
    (expirePeer a s).pwr = s.pwr ∧ (expirePeer a s).cfg = s.cfg ∧ (expirePeer a s).eeprom = s.eeprom ∧
    (expirePeer a s).pending = s.pending := by
  unfold expirePeer
  try dsimp only
  all_goals simp

@[simp] theorem endQuarantine_keeps (a : Fin 16) (s : State) :
    (endQuarantine a s).tsg = s.tsg ∧ (endQuarantine a s).mon = s.mon ∧ (endQuarantine a s).bus = s.bus ∧
    (endQuarantine a s).eng = s.eng ∧ (endQuarantine a s).lrn = s.lrn ∧ (endQuarantine a s).scu = s.scu ∧
    (endQuarantine a s).pwr = s.pwr ∧ (endQuarantine a s).cfg = s.cfg ∧ (endQuarantine a s).eeprom = s.eeprom ∧
    (endQuarantine a s).pending = s.pending := by
  unfold endQuarantine
  try dsimp only
  repeat' split
  all_goals simp

end Sys2Proof.Machine
end

