-- ==== Sys2Proof/Laws/BoundaryFrame.lean ====
section
/-! SUPPORT. What each operation of Machine/Boundary.lean leaves as it was: one lemma per operation, a conjunction
over the blocks it never touches, for `simp`. -/

namespace Sys2Proof.Machine

@[simp] theorem takeSteerLimit_keeps (s : State) :
    (takeSteerLimit s).mon = s.mon ∧ (takeSteerLimit s).ptu = s.ptu ∧ (takeSteerLimit s).lrn = s.lrn ∧
    (takeSteerLimit s).pwr = s.pwr ∧ (takeSteerLimit s).cfg = s.cfg ∧ (takeSteerLimit s).eeprom = s.eeprom ∧
    (takeSteerLimit s).pending = s.pending := by
  unfold takeSteerLimit
  try dsimp only
  all_goals simp

@[simp] theorem settleSteer_keeps (s : State) :
    (settleSteer s).mon = s.mon ∧ (settleSteer s).ptu = s.ptu ∧ (settleSteer s).lrn = s.lrn ∧
    (settleSteer s).pwr = s.pwr ∧ (settleSteer s).cfg = s.cfg ∧ (settleSteer s).eeprom = s.eeprom ∧
    (settleSteer s).pending = s.pending := by
  unfold settleSteer
  try dsimp only
  repeat' split
  all_goals simp

@[simp] theorem reachBoundary_keeps (s : State) :
    (reachBoundary s).bus = s.bus ∧ (reachBoundary s).ptu = s.ptu ∧ (reachBoundary s).eng = s.eng ∧
    (reachBoundary s).lrn = s.lrn ∧ (reachBoundary s).scu = s.scu ∧ (reachBoundary s).pwr = s.pwr ∧
    (reachBoundary s).cfg = s.cfg ∧ (reachBoundary s).eeprom = s.eeprom ∧ (reachBoundary s).pending = s.pending := by
  unfold reachBoundary
  try dsimp only
  repeat' split
  all_goals simp

@[simp] theorem latch_keeps (s : State) :
    (latch s).mon = s.mon ∧ (latch s).bus = s.bus ∧ (latch s).ptu = s.ptu ∧ (latch s).eng = s.eng ∧
    (latch s).lrn = s.lrn ∧ (latch s).scu = s.scu ∧ (latch s).pwr = s.pwr ∧ (latch s).cfg = s.cfg ∧
    (latch s).eeprom = s.eeprom ∧ (latch s).pending = s.pending := by
  unfold latch
  try dsimp only
  all_goals simp

@[simp] theorem engineBoundary_keeps (s : State) :
    (engineBoundary s).mon = s.mon ∧ (engineBoundary s).ptu = s.ptu ∧ (engineBoundary s).lrn = s.lrn ∧
    (engineBoundary s).pwr = s.pwr ∧ (engineBoundary s).cfg = s.cfg ∧ (engineBoundary s).eeprom = s.eeprom ∧
    (engineBoundary s).pending = s.pending := by
  unfold engineBoundary
  try dsimp only
  repeat' split
  all_goals simp

@[simp] theorem learningBoundary_keeps (s : State) :
    (learningBoundary s).tsg = s.tsg ∧ (learningBoundary s).mon = s.mon ∧ (learningBoundary s).ptu = s.ptu ∧
    (learningBoundary s).eng = s.eng ∧ (learningBoundary s).pwr = s.pwr ∧ (learningBoundary s).cfg = s.cfg ∧
    (learningBoundary s).eeprom = s.eeprom ∧ (learningBoundary s).pending = s.pending := by
  unfold learningBoundary
  try dsimp only
  repeat' split
  all_goals simp

@[simp] theorem busBoundary_keeps (s : State) :
    (busBoundary s).tsg = s.tsg ∧ (busBoundary s).mon = s.mon ∧ (busBoundary s).ptu = s.ptu ∧
    (busBoundary s).eng = s.eng ∧ (busBoundary s).lrn = s.lrn ∧ (busBoundary s).pwr = s.pwr ∧
    (busBoundary s).cfg = s.cfg ∧ (busBoundary s).eeprom = s.eeprom ∧ (busBoundary s).pending = s.pending := by
  unfold busBoundary
  try dsimp only
  repeat' split
  all_goals simp

@[simp] theorem runTask_keeps (c : Option Committed) (k : BoundaryTask) (s : State) :
    (runTask c k s).pwr = s.pwr ∧ (runTask c k s).cfg = s.cfg ∧ (runTask c k s).eeprom = s.eeprom ∧
    (runTask c k s).pending = s.pending := by
  unfold runTask
  try dsimp only
  repeat' split
  all_goals simp

@[simp] theorem runTasks_keeps (c : Option Committed) (d k : List BoundaryTask) (s : State) :
    (runTasks c d k s).pwr = s.pwr ∧ (runTasks c d k s).cfg = s.cfg ∧ (runTasks c d k s).eeprom = s.eeprom ∧
    (runTasks c d k s).pending = s.pending := by
  induction k generalizing s d with
  | nil => simp [runTasks]
  | cons t ts ih => unfold runTasks; split <;> simp [ih]

@[simp] theorem ownBoundary_keeps (k : List BoundaryTask) (s : State) :
    (ownBoundary k s).pwr = s.pwr ∧ (ownBoundary k s).cfg = s.cfg ∧ (ownBoundary k s).eeprom = s.eeprom ∧
    (ownBoundary k s).pending = s.pending := by
  unfold ownBoundary
  try dsimp only
  all_goals simp

@[simp] theorem takeRecovery_keeps (s : State) :
    (takeRecovery s).tsg = s.tsg ∧ (takeRecovery s).mon = s.mon ∧ (takeRecovery s).ptu = s.ptu ∧
    (takeRecovery s).eng = s.eng ∧ (takeRecovery s).lrn = s.lrn ∧ (takeRecovery s).scu = s.scu ∧
    (takeRecovery s).pwr = s.pwr ∧ (takeRecovery s).cfg = s.cfg ∧ (takeRecovery s).eeprom = s.eeprom ∧
    (takeRecovery s).pending = s.pending := by
  unfold takeRecovery
  try dsimp only
  all_goals simp

@[simp] theorem takeExpiry_keeps (s : State) :
    (takeExpiry s).ptu = s.ptu ∧ (takeExpiry s).pwr = s.pwr ∧ (takeExpiry s).cfg = s.cfg ∧
    (takeExpiry s).eeprom = s.eeprom ∧ (takeExpiry s).pending = s.pending := by
  unfold takeExpiry
  try dsimp only
  repeat' split
  all_goals simp

@[simp] theorem settleMonitor_keeps (s : State) :
    (settleMonitor s).ptu = s.ptu ∧ (settleMonitor s).pwr = s.pwr ∧ (settleMonitor s).cfg = s.cfg ∧
    (settleMonitor s).eeprom = s.eeprom ∧ (settleMonitor s).pending = s.pending := by
  unfold settleMonitor
  try dsimp only
  repeat' split
  all_goals simp

@[simp] theorem expireAll_keeps (l : List (Fin 16)) (s : State) :
    (expireAll l s).tsg = s.tsg ∧ (expireAll l s).mon = s.mon ∧ (expireAll l s).bus = s.bus ∧
    (expireAll l s).eng = s.eng ∧ (expireAll l s).lrn = s.lrn ∧ (expireAll l s).scu = s.scu ∧
    (expireAll l s).pwr = s.pwr ∧ (expireAll l s).cfg = s.cfg ∧ (expireAll l s).eeprom = s.eeprom ∧
    (expireAll l s).pending = s.pending := by
  induction l generalizing s with
  | nil => simp [expireAll]
  | cons a l ih => unfold expireAll; split <;> simp [ih]

@[simp] theorem endAll_keeps (l : List (Fin 16)) (s : State) :
    (endAll l s).tsg = s.tsg ∧ (endAll l s).mon = s.mon ∧ (endAll l s).bus = s.bus ∧ (endAll l s).eng = s.eng ∧
    (endAll l s).lrn = s.lrn ∧ (endAll l s).scu = s.scu ∧ (endAll l s).pwr = s.pwr ∧ (endAll l s).cfg = s.cfg ∧
    (endAll l s).eeprom = s.eeprom ∧ (endAll l s).pending = s.pending := by
  induction l generalizing s with
  | nil => simp [endAll]
  | cons a l ih => unfold endAll; split <;> simp [ih]

@[simp] theorem settlePeers_keeps (s : State) :
    (settlePeers s).pwr = s.pwr ∧ (settlePeers s).cfg = s.cfg ∧ (settlePeers s).eeprom = s.eeprom ∧
    (settlePeers s).pending = s.pending := by
  unfold settlePeers
  try dsimp only
  repeat' split
  all_goals simp

@[simp] theorem settle_keeps (s : State) :
    (settle s).pwr = s.pwr ∧ (settle s).cfg = s.cfg ∧ (settle s).eeprom = s.eeprom ∧
    (settle s).pending = s.pending := by
  unfold settle
  try dsimp only
  repeat' split
  all_goals simp

/-- With no steering limit due nothing is taken. -/
theorem settleSteer_of_not_due {s : State} (h : s.steerDue = false) : settleSteer s = s := by
  simp [settleSteer, h]

/-- With a steering limit due it is taken. -/
theorem settleSteer_of_due {s : State} (h : s.steerDue = true) : settleSteer s = takeSteerLimit s := by
  simp [settleSteer, h]

end Sys2Proof.Machine
end

