-- ==== Sys2Proof/Laws/Bus.lean ====
section
/-! SUPPORT. What each operation on the Bus Interface's own record leaves as it was, and that it changes nothing but the
fields it is for. -/

namespace Sys2Proof.Machine

@[simp] theorem Bus.updateError_keeps (b : Bus) :
    (b.updateError).joined = b.joined ∧ (b.updateError).transmitErrors = b.transmitErrors ∧
    (b.updateError).receiveErrors = b.receiveErrors ∧ (b.updateError).recovery = b.recovery ∧
    (b.updateError).dataErrors = b.dataErrors ∧ (b.updateError).listenOnly = b.listenOnly ∧
    (b.updateError).sequence = b.sequence ∧ (b.updateError).mark = b.mark ∧ (b.updateError).follow = b.follow ∧
    (b.updateError).status0 = b.status0 ∧ (b.updateError).status1 = b.status1 ∧
    (b.updateError).wait0 = b.wait0 ∧ (b.updateError).wait1 = b.wait1 ∧ (b.updateError).alert = b.alert ∧
    (b.updateError).aside = b.aside ∧ (b.updateError).pages = b.pages ∧ (b.updateError).attempt = b.attempt ∧
    (b.updateError).seen = b.seen ∧ (b.updateError).waitSince = b.waitSince ∧
    (b.updateError).badFrames = b.badFrames ∧ (b.updateError).marksLate = b.marksLate ∧
    (b.updateError).markDue = b.markDue ∧ (b.updateError).statusDue = b.statusDue := by
  unfold Bus.updateError
  repeat' split
  all_goals simp

@[simp] theorem Bus.addTransmitError_keeps (b : Bus) (k : BusError) :
    (b.addTransmitError k).joined = b.joined ∧ (b.addTransmitError k).error = b.error ∧
    (b.addTransmitError k).receiveErrors = b.receiveErrors ∧ (b.addTransmitError k).recovery = b.recovery ∧
    (b.addTransmitError k).dataErrors = b.dataErrors ∧ (b.addTransmitError k).listenOnly = b.listenOnly ∧
    (b.addTransmitError k).sequence = b.sequence ∧ (b.addTransmitError k).mark = b.mark ∧
    (b.addTransmitError k).follow = b.follow ∧ (b.addTransmitError k).status0 = b.status0 ∧
    (b.addTransmitError k).status1 = b.status1 ∧ (b.addTransmitError k).wait0 = b.wait0 ∧
    (b.addTransmitError k).wait1 = b.wait1 ∧ (b.addTransmitError k).alert = b.alert ∧
    (b.addTransmitError k).aside = b.aside ∧ (b.addTransmitError k).pages = b.pages ∧
    (b.addTransmitError k).attempt = b.attempt ∧ (b.addTransmitError k).seen = b.seen ∧
    (b.addTransmitError k).waitSince = b.waitSince ∧ (b.addTransmitError k).badFrames = b.badFrames ∧
    (b.addTransmitError k).marksLate = b.marksLate ∧ (b.addTransmitError k).markDue = b.markDue ∧
    (b.addTransmitError k).statusDue = b.statusDue := by
  unfold Bus.addTransmitError
  repeat' split
  all_goals simp

@[simp] theorem Bus.addReceiveError_keeps (b : Bus) :
    (b.addReceiveError).joined = b.joined ∧ (b.addReceiveError).error = b.error ∧
    (b.addReceiveError).transmitErrors = b.transmitErrors ∧ (b.addReceiveError).recovery = b.recovery ∧
    (b.addReceiveError).dataErrors = b.dataErrors ∧ (b.addReceiveError).listenOnly = b.listenOnly ∧
    (b.addReceiveError).sequence = b.sequence ∧ (b.addReceiveError).mark = b.mark ∧
    (b.addReceiveError).follow = b.follow ∧ (b.addReceiveError).status0 = b.status0 ∧
    (b.addReceiveError).status1 = b.status1 ∧ (b.addReceiveError).wait0 = b.wait0 ∧
    (b.addReceiveError).wait1 = b.wait1 ∧ (b.addReceiveError).alert = b.alert ∧
    (b.addReceiveError).aside = b.aside ∧ (b.addReceiveError).pages = b.pages ∧
    (b.addReceiveError).attempt = b.attempt ∧ (b.addReceiveError).seen = b.seen ∧
    (b.addReceiveError).waitSince = b.waitSince ∧ (b.addReceiveError).badFrames = b.badFrames ∧
    (b.addReceiveError).marksLate = b.marksLate ∧ (b.addReceiveError).markDue = b.markDue ∧
    (b.addReceiveError).statusDue = b.statusDue := by
  unfold Bus.addReceiveError
  repeat' split
  all_goals simp

@[simp] theorem Bus.lessTransmitError_keeps (b : Bus) :
    (b.lessTransmitError).joined = b.joined ∧ (b.lessTransmitError).error = b.error ∧
    (b.lessTransmitError).receiveErrors = b.receiveErrors ∧ (b.lessTransmitError).recovery = b.recovery ∧
    (b.lessTransmitError).dataErrors = b.dataErrors ∧ (b.lessTransmitError).listenOnly = b.listenOnly ∧
    (b.lessTransmitError).sequence = b.sequence ∧ (b.lessTransmitError).mark = b.mark ∧
    (b.lessTransmitError).follow = b.follow ∧ (b.lessTransmitError).status0 = b.status0 ∧
    (b.lessTransmitError).status1 = b.status1 ∧ (b.lessTransmitError).wait0 = b.wait0 ∧
    (b.lessTransmitError).wait1 = b.wait1 ∧ (b.lessTransmitError).alert = b.alert ∧
    (b.lessTransmitError).aside = b.aside ∧ (b.lessTransmitError).pages = b.pages ∧
    (b.lessTransmitError).attempt = b.attempt ∧ (b.lessTransmitError).seen = b.seen ∧
    (b.lessTransmitError).waitSince = b.waitSince ∧ (b.lessTransmitError).badFrames = b.badFrames ∧
    (b.lessTransmitError).marksLate = b.marksLate ∧ (b.lessTransmitError).markDue = b.markDue ∧
    (b.lessTransmitError).statusDue = b.statusDue := by
  unfold Bus.lessTransmitError
  repeat' split
  all_goals simp

@[simp] theorem Bus.lessReceiveError_keeps (b : Bus) :
    (b.lessReceiveError).joined = b.joined ∧ (b.lessReceiveError).error = b.error ∧
    (b.lessReceiveError).transmitErrors = b.transmitErrors ∧ (b.lessReceiveError).recovery = b.recovery ∧
    (b.lessReceiveError).dataErrors = b.dataErrors ∧ (b.lessReceiveError).listenOnly = b.listenOnly ∧
    (b.lessReceiveError).sequence = b.sequence ∧ (b.lessReceiveError).mark = b.mark ∧
    (b.lessReceiveError).follow = b.follow ∧ (b.lessReceiveError).status0 = b.status0 ∧
    (b.lessReceiveError).status1 = b.status1 ∧ (b.lessReceiveError).wait0 = b.wait0 ∧
    (b.lessReceiveError).wait1 = b.wait1 ∧ (b.lessReceiveError).alert = b.alert ∧
    (b.lessReceiveError).aside = b.aside ∧ (b.lessReceiveError).pages = b.pages ∧
    (b.lessReceiveError).attempt = b.attempt ∧ (b.lessReceiveError).seen = b.seen ∧
    (b.lessReceiveError).waitSince = b.waitSince ∧ (b.lessReceiveError).badFrames = b.badFrames ∧
    (b.lessReceiveError).marksLate = b.marksLate ∧ (b.lessReceiveError).markDue = b.markDue ∧
    (b.lessReceiveError).statusDue = b.statusDue := by
  unfold Bus.lessReceiveError
  repeat' split
  all_goals simp

@[simp] theorem Bus.afterAttempt_keeps (b : Bus) (t : Instant) :
    (b.afterAttempt t).joined = b.joined ∧ (b.afterAttempt t).error = b.error ∧
    (b.afterAttempt t).transmitErrors = b.transmitErrors ∧
    (b.afterAttempt t).receiveErrors = b.receiveErrors ∧ (b.afterAttempt t).recovery = b.recovery ∧
    (b.afterAttempt t).dataErrors = b.dataErrors ∧ (b.afterAttempt t).listenOnly = b.listenOnly ∧
    (b.afterAttempt t).sequence = b.sequence ∧ (b.afterAttempt t).mark = b.mark ∧
    (b.afterAttempt t).follow = b.follow ∧ (b.afterAttempt t).status0 = b.status0 ∧
    (b.afterAttempt t).status1 = b.status1 ∧ (b.afterAttempt t).wait0 = b.wait0 ∧
    (b.afterAttempt t).wait1 = b.wait1 ∧ (b.afterAttempt t).alert = b.alert ∧
    (b.afterAttempt t).aside = b.aside ∧ (b.afterAttempt t).pages = b.pages ∧
    (b.afterAttempt t).attempt = b.attempt ∧ (b.afterAttempt t).seen = b.seen ∧
    (b.afterAttempt t).badFrames = b.badFrames ∧ (b.afterAttempt t).marksLate = b.marksLate ∧
    (b.afterAttempt t).markDue = b.markDue ∧ (b.afterAttempt t).statusDue = b.statusDue := by
  unfold Bus.afterAttempt
  repeat' split
  all_goals simp

@[simp] theorem Bus.afterEdge_keeps (b : Bus) (r : BusRate) (t u : Instant) :
    (b.afterEdge r t u).joined = b.joined ∧ (b.afterEdge r t u).error = b.error ∧
    (b.afterEdge r t u).transmitErrors = b.transmitErrors ∧
    (b.afterEdge r t u).receiveErrors = b.receiveErrors ∧ (b.afterEdge r t u).recovery = b.recovery ∧
    (b.afterEdge r t u).dataErrors = b.dataErrors ∧ (b.afterEdge r t u).listenOnly = b.listenOnly ∧
    (b.afterEdge r t u).sequence = b.sequence ∧ (b.afterEdge r t u).mark = b.mark ∧
    (b.afterEdge r t u).follow = b.follow ∧ (b.afterEdge r t u).status0 = b.status0 ∧
    (b.afterEdge r t u).status1 = b.status1 ∧ (b.afterEdge r t u).wait0 = b.wait0 ∧
    (b.afterEdge r t u).wait1 = b.wait1 ∧ (b.afterEdge r t u).alert = b.alert ∧
    (b.afterEdge r t u).aside = b.aside ∧ (b.afterEdge r t u).pages = b.pages ∧
    (b.afterEdge r t u).attempt = b.attempt ∧ (b.afterEdge r t u).seen = b.seen ∧
    (b.afterEdge r t u).badFrames = b.badFrames ∧ (b.afterEdge r t u).marksLate = b.marksLate ∧
    (b.afterEdge r t u).markDue = b.markDue ∧ (b.afterEdge r t u).statusDue = b.statusDue := by
  simp [Bus.afterEdge]

/-- What the ERROR_PASSIVE wait asks of an instant (R57). -/
theorem Bus.waitEnded_iff (b : Bus) (r : BusRate) (t u : Instant) : b.waitEnded r t u = true ↔
    ∀ e, b.waitSince = some e → b.error = .errorPassive → e ≤ u ∧ u + passiveWait r ≤ t := by
  unfold Bus.waitEnded
  split <;> rename_i h <;> simp only [h, Option.some.injEq, forall_eq', reduceCtorEq, false_implies, implies_true]
  simp [Decidable.imp_iff_not_or]

@[simp] theorem Bus.expireAttempt_keeps (b : Bus) :
    (b.expireAttempt).joined = b.joined ∧ (b.expireAttempt).error = b.error ∧
    (b.expireAttempt).transmitErrors = b.transmitErrors ∧ (b.expireAttempt).receiveErrors = b.receiveErrors ∧
    (b.expireAttempt).recovery = b.recovery ∧ (b.expireAttempt).dataErrors = b.dataErrors ∧
    (b.expireAttempt).listenOnly = b.listenOnly ∧ (b.expireAttempt).sequence = b.sequence ∧
    (b.expireAttempt).mark = b.mark ∧ (b.expireAttempt).follow = b.follow ∧
    (b.expireAttempt).status0 = b.status0 ∧ (b.expireAttempt).status1 = b.status1 ∧
    (b.expireAttempt).wait0 = b.wait0 ∧ (b.expireAttempt).wait1 = b.wait1 ∧ (b.expireAttempt).alert = b.alert ∧
    (b.expireAttempt).aside = b.aside ∧ (b.expireAttempt).pages = b.pages ∧ (b.expireAttempt).seen = b.seen ∧
    (b.expireAttempt).waitSince = b.waitSince ∧ (b.expireAttempt).badFrames = b.badFrames ∧
    (b.expireAttempt).marksLate = b.marksLate ∧ (b.expireAttempt).markDue = b.markDue ∧
    (b.expireAttempt).statusDue = b.statusDue := by
  unfold Bus.expireAttempt
  all_goals simp

@[simp] theorem Bus.emptied_keeps (b : Bus) :
    (b.emptied).joined = b.joined ∧ (b.emptied).error = b.error ∧
    (b.emptied).transmitErrors = b.transmitErrors ∧ (b.emptied).receiveErrors = b.receiveErrors ∧
    (b.emptied).recovery = b.recovery ∧ (b.emptied).dataErrors = b.dataErrors ∧
    (b.emptied).listenOnly = b.listenOnly ∧ (b.emptied).sequence = b.sequence ∧ (b.emptied).seen = b.seen ∧
    (b.emptied).waitSince = b.waitSince ∧ (b.emptied).badFrames = b.badFrames ∧
    (b.emptied).marksLate = b.marksLate ∧ (b.emptied).markDue = b.markDue ∧
    (b.emptied).statusDue = b.statusDue := by
  unfold Bus.emptied
  all_goals simp

/-- The end of a completed reception on the bus record (R51, R56): its three fields. -/
theorem Bus.endReception_eq (b : Bus) :
    { b.lessReceiveError.updateError with seen := none } =
      { b with
        receiveErrors := b.lessReceiveError.receiveErrors
        error := b.lessReceiveError.updateError.error, seen := none } := by
  unfold Bus.updateError Bus.lessReceiveError
  by_cases h1 : b.countsHeld = true <;> by_cases h2 : b.error = .busOff <;> simp [h1, h2]

end Sys2Proof.Machine
end

