-- ==== Sys2Proof/Laws/LoadFrame.lean ====
section
/-! SUPPORT. What each operation of Machine/Load.lean leaves as it was: one lemma per operation, a conjunction over the
blocks it never touches, for `simp`. -/

namespace Sys2Proof.Machine

@[simp] theorem loadConfiguration_keeps (b : Bool) (s : State) :
    (loadConfiguration b s).mon = s.mon ∧ (loadConfiguration b s).ptu = s.ptu ∧
    (loadConfiguration b s).eng = s.eng ∧ (loadConfiguration b s).lrn = s.lrn ∧
    (loadConfiguration b s).eeprom = s.eeprom ∧ (loadConfiguration b s).pending = s.pending := by
  unfold loadConfiguration
  try dsimp only
  repeat' split
  all_goals simp

@[simp] theorem endLoad_keeps (s : State) :
    (endLoad s).mon = s.mon ∧ (endLoad s).ptu = s.ptu ∧ (endLoad s).cfg = s.cfg ∧
    (endLoad s).eeprom = s.eeprom ∧ (endLoad s).pending = s.pending := by
  unfold endLoad
  try dsimp only
  repeat' split
  all_goals simp

@[simp] theorem loadLearning_keeps (b : Bool) (s : State) :
    (loadLearning b s).mon = s.mon ∧ (loadLearning b s).ptu = s.ptu ∧ (loadLearning b s).cfg = s.cfg ∧
    (loadLearning b s).eeprom = s.eeprom ∧ (loadLearning b s).pending = s.pending := by
  unfold loadLearning
  try dsimp only
  all_goals simp

@[simp] theorem hardReset_keeps (b : Bool) (s : State) :
    (hardReset b s).pending = s.pending := by
  unfold hardReset
  try dsimp only

@[simp] theorem openSecond0_keeps (n : Nat) (b : BitVec 4) (p : Bool) (s : State) :
    (openSecond0 n b p s).mon = s.mon ∧ (openSecond0 n b p s).ptu = s.ptu ∧ (openSecond0 n b p s).cfg = s.cfg ∧
    (openSecond0 n b p s).eeprom = s.eeprom ∧ (openSecond0 n b p s).pending = s.pending := by
  unfold openSecond0
  try dsimp only
  repeat' split
  all_goals simp

@[simp] theorem changePower_keeps (b : Bool) (s : State) :
    (changePower b s).mon = s.mon ∧ (changePower b s).ptu = s.ptu ∧ (changePower b s).eng = s.eng ∧
    (changePower b s).lrn = s.lrn ∧ (changePower b s).scu = s.scu ∧ (changePower b s).cfg = s.cfg ∧
    (changePower b s).eeprom = s.eeprom ∧ (changePower b s).pending = s.pending := by
  unfold changePower
  try dsimp only
  repeat' split
  all_goals simp

@[simp] theorem sitePwrEdge_keeps (t : Instant) (b : Bool) (s : State) :
    (sitePwrEdge t b s).mon = s.mon ∧ (sitePwrEdge t b s).bus = s.bus ∧ (sitePwrEdge t b s).ptu = s.ptu ∧
    (sitePwrEdge t b s).eng = s.eng ∧ (sitePwrEdge t b s).lrn = s.lrn ∧ (sitePwrEdge t b s).scu = s.scu ∧
    (sitePwrEdge t b s).cfg = s.cfg ∧ (sitePwrEdge t b s).eeprom = s.eeprom ∧
    (sitePwrEdge t b s).pending = s.pending := by
  unfold sitePwrEdge
  try dsimp only
  repeat' split
  all_goals simp

end Sys2Proof.Machine
end

