-- ==== Sys2Proof/Laws/BusOpsFrame.lean ====
section
/-! SUPPORT. What each operation of Machine/BusOps.lean leaves as it was: one lemma per operation, a conjunction over
the blocks it never touches, for `simp`. -/

namespace Sys2Proof.Machine

@[simp] theorem checkBusOff_keeps (s : State) :
    (checkBusOff s).tsg = s.tsg ∧ (checkBusOff s).mon = s.mon ∧ (checkBusOff s).ptu = s.ptu ∧
    (checkBusOff s).eng = s.eng ∧ (checkBusOff s).lrn = s.lrn ∧ (checkBusOff s).pwr = s.pwr ∧
    (checkBusOff s).cfg = s.cfg ∧ (checkBusOff s).eeprom = s.eeprom ∧ (checkBusOff s).pending = s.pending := by
  unfold checkBusOff
  try dsimp only
  repeat' split
  all_goals simp

@[simp] theorem addressConflict_keeps (s : State) :
    (addressConflict s).tsg = s.tsg ∧ (addressConflict s).mon = s.mon ∧ (addressConflict s).ptu = s.ptu ∧
    (addressConflict s).eng = s.eng ∧ (addressConflict s).lrn = s.lrn ∧ (addressConflict s).pwr = s.pwr ∧
    (addressConflict s).cfg = s.cfg ∧ (addressConflict s).eeprom = s.eeprom ∧
    (addressConflict s).pending = s.pending := by
  unfold addressConflict
  try dsimp only
  repeat' split
  all_goals simp

@[simp] theorem seeEdge_keeps (e : BusEdge) (s : State) :
    (seeEdge e s).mon = s.mon ∧ (seeEdge e s).ptu = s.ptu ∧ (seeEdge e s).eng = s.eng ∧
    (seeEdge e s).lrn = s.lrn ∧ (seeEdge e s).scu = s.scu ∧ (seeEdge e s).pwr = s.pwr ∧
    (seeEdge e s).cfg = s.cfg ∧ (seeEdge e s).eeprom = s.eeprom ∧ (seeEdge e s).pending = s.pending ∧
    (seeEdge e s).tsg = { s.tsg with now := e.time } := by
  simp [seeEdge, State.at]

@[simp] theorem startAttempt_keeps (t : Instant) (u : BusTimes) (s : State) :
    (startAttempt t u s).mon = s.mon ∧ (startAttempt t u s).ptu = s.ptu ∧ (startAttempt t u s).eng = s.eng ∧
    (startAttempt t u s).lrn = s.lrn ∧ (startAttempt t u s).scu = s.scu ∧ (startAttempt t u s).pwr = s.pwr ∧
    (startAttempt t u s).cfg = s.cfg ∧ (startAttempt t u s).eeprom = s.eeprom ∧
    (startAttempt t u s).pending = s.pending := by
  unfold startAttempt
  try dsimp only
  repeat' split
  all_goals simp

@[simp] theorem dropMarkLate_keeps (s : State) :
    (dropMarkLate s).tsg = s.tsg ∧ (dropMarkLate s).mon = s.mon ∧ (dropMarkLate s).ptu = s.ptu ∧
    (dropMarkLate s).eng = s.eng ∧ (dropMarkLate s).lrn = s.lrn ∧ (dropMarkLate s).pwr = s.pwr ∧
    (dropMarkLate s).cfg = s.cfg ∧ (dropMarkLate s).eeprom = s.eeprom ∧ (dropMarkLate s).pending = s.pending := by
  unfold dropMarkLate
  try dsimp only
  all_goals simp

@[simp] theorem settleSlot_keeps (b : Bool) (a : Attempt) (s : State) :
    (settleSlot b a s).tsg = s.tsg ∧ (settleSlot b a s).mon = s.mon ∧ (settleSlot b a s).ptu = s.ptu ∧
    (settleSlot b a s).eng = s.eng ∧ (settleSlot b a s).lrn = s.lrn ∧ (settleSlot b a s).pwr = s.pwr ∧
    (settleSlot b a s).cfg = s.cfg ∧ (settleSlot b a s).eeprom = s.eeprom ∧
    (settleSlot b a s).pending = s.pending := by
  unfold settleSlot
  try dsimp only
  repeat' split
  all_goals simp

@[simp] theorem queueFollow_keeps (a : Attempt) (s : State) :
    (queueFollow a s).tsg = s.tsg ∧ (queueFollow a s).mon = s.mon ∧ (queueFollow a s).ptu = s.ptu ∧
    (queueFollow a s).eng = s.eng ∧ (queueFollow a s).lrn = s.lrn ∧ (queueFollow a s).scu = s.scu ∧
    (queueFollow a s).pwr = s.pwr ∧ (queueFollow a s).cfg = s.cfg ∧ (queueFollow a s).eeprom = s.eeprom ∧
    (queueFollow a s).pending = s.pending := by
  unfold queueFollow
  try dsimp only
  repeat' split
  all_goals simp

@[simp] theorem completeAttempt_keeps (t : Instant) (s : State) :
    (completeAttempt t s).mon = s.mon ∧ (completeAttempt t s).ptu = s.ptu ∧ (completeAttempt t s).eng = s.eng ∧
    (completeAttempt t s).lrn = s.lrn ∧ (completeAttempt t s).pwr = s.pwr ∧ (completeAttempt t s).cfg = s.cfg ∧
    (completeAttempt t s).eeprom = s.eeprom ∧ (completeAttempt t s).pending = s.pending := by
  unfold completeAttempt
  try dsimp only
  repeat' split
  all_goals simp

@[simp] theorem loseArbitration_keeps (t : Instant) (s : State) :
    (loseArbitration t s).mon = s.mon ∧ (loseArbitration t s).ptu = s.ptu ∧ (loseArbitration t s).eng = s.eng ∧
    (loseArbitration t s).lrn = s.lrn ∧ (loseArbitration t s).pwr = s.pwr ∧ (loseArbitration t s).cfg = s.cfg ∧
    (loseArbitration t s).eeprom = s.eeprom ∧ (loseArbitration t s).pending = s.pending := by
  unfold loseArbitration
  try dsimp only
  repeat' split
  all_goals simp

@[simp] theorem failAttempt_keeps (t : Instant) (k : BusError) (b : Bool) (s : State) :
    (failAttempt t k b s).mon = s.mon ∧ (failAttempt t k b s).ptu = s.ptu ∧ (failAttempt t k b s).eng = s.eng ∧
    (failAttempt t k b s).lrn = s.lrn ∧ (failAttempt t k b s).pwr = s.pwr ∧ (failAttempt t k b s).cfg = s.cfg ∧
    (failAttempt t k b s).eeprom = s.eeprom ∧ (failAttempt t k b s).pending = s.pending := by
  unfold failAttempt
  try dsimp only
  repeat' split
  all_goals simp

@[simp] theorem failReception_keeps (t : Instant) (s : State) :
    (failReception t s).mon = s.mon ∧ (failReception t s).ptu = s.ptu ∧ (failReception t s).eng = s.eng ∧
    (failReception t s).lrn = s.lrn ∧ (failReception t s).scu = s.scu ∧ (failReception t s).pwr = s.pwr ∧
    (failReception t s).cfg = s.cfg ∧ (failReception t s).eeprom = s.eeprom ∧
    (failReception t s).pending = s.pending := by
  unfold failReception
  try dsimp only
  repeat' split
  all_goals simp

@[simp] theorem markDeadline_keeps (s : State) :
    (markDeadline s).mon = s.mon ∧ (markDeadline s).ptu = s.ptu ∧ (markDeadline s).eng = s.eng ∧
    (markDeadline s).lrn = s.lrn ∧ (markDeadline s).pwr = s.pwr ∧ (markDeadline s).cfg = s.cfg ∧
    (markDeadline s).eeprom = s.eeprom ∧ (markDeadline s).pending = s.pending := by
  unfold markDeadline
  try dsimp only
  repeat' split
  all_goals simp

@[simp] theorem followDeadline_keeps (s : State) :
    (followDeadline s).mon = s.mon ∧ (followDeadline s).ptu = s.ptu ∧ (followDeadline s).eng = s.eng ∧
    (followDeadline s).lrn = s.lrn ∧ (followDeadline s).scu = s.scu ∧ (followDeadline s).pwr = s.pwr ∧
    (followDeadline s).cfg = s.cfg ∧ (followDeadline s).eeprom = s.eeprom ∧
    (followDeadline s).pending = s.pending := by
  unfold followDeadline
  try dsimp only
  repeat' split
  all_goals simp

@[simp] theorem pageDeadline_keeps (i : Fin 2) (s : State) :
    (pageDeadline i s).mon = s.mon ∧ (pageDeadline i s).ptu = s.ptu ∧ (pageDeadline i s).eng = s.eng ∧
    (pageDeadline i s).lrn = s.lrn ∧ (pageDeadline i s).scu = s.scu ∧ (pageDeadline i s).pwr = s.pwr ∧
    (pageDeadline i s).cfg = s.cfg ∧ (pageDeadline i s).eeprom = s.eeprom ∧
    (pageDeadline i s).pending = s.pending := by
  unfold pageDeadline
  try dsimp only
  repeat' split
  all_goals simp

@[simp] theorem markFallsDue_keeps (s : State) :
    (markFallsDue s).mon = s.mon ∧ (markFallsDue s).ptu = s.ptu ∧ (markFallsDue s).eng = s.eng ∧
    (markFallsDue s).lrn = s.lrn ∧ (markFallsDue s).scu = s.scu ∧ (markFallsDue s).pwr = s.pwr ∧
    (markFallsDue s).cfg = s.cfg ∧ (markFallsDue s).eeprom = s.eeprom ∧ (markFallsDue s).pending = s.pending := by
  unfold markFallsDue
  try dsimp only
  repeat' split
  all_goals simp

@[simp] theorem statusFallsDue_keeps (s : State) :
    (statusFallsDue s).mon = s.mon ∧ (statusFallsDue s).ptu = s.ptu ∧ (statusFallsDue s).eng = s.eng ∧
    (statusFallsDue s).lrn = s.lrn ∧ (statusFallsDue s).scu = s.scu ∧ (statusFallsDue s).pwr = s.pwr ∧
    (statusFallsDue s).cfg = s.cfg ∧ (statusFallsDue s).eeprom = s.eeprom ∧
    (statusFallsDue s).pending = s.pending := by
  unfold statusFallsDue
  try dsimp only
  repeat' split
  all_goals simp

end Sys2Proof.Machine
end

