-- ==== Sys2Proof/Laws/OperandsFrame.lean ====
section
/-! SUPPORT. What each operation of Machine/Operands.lean leaves as it was: one lemma per operation, a conjunction
over the blocks it never touches, for `simp`. -/

namespace Sys2Proof.Machine

@[simp] theorem clearFlags_keeps (m : FlagSet) (s : State) :
    (clearFlags m s).tsg = s.tsg ∧ (clearFlags m s).mon = s.mon ∧ (clearFlags m s).bus = s.bus ∧
    (clearFlags m s).ptu = s.ptu ∧ (clearFlags m s).eng = s.eng ∧ (clearFlags m s).lrn = s.lrn ∧
    (clearFlags m s).pwr = s.pwr ∧ (clearFlags m s).cfg = s.cfg ∧ (clearFlags m s).eeprom = s.eeprom ∧
    (clearFlags m s).pending = s.pending := by
  unfold clearFlags
  try dsimp only
  repeat' split
  all_goals simp

@[simp] theorem enableFlags_keeps (m : FlagSet) (s : State) :
    (enableFlags m s).tsg = s.tsg ∧ (enableFlags m s).mon = s.mon ∧ (enableFlags m s).bus = s.bus ∧
    (enableFlags m s).ptu = s.ptu ∧ (enableFlags m s).eng = s.eng ∧ (enableFlags m s).lrn = s.lrn ∧
    (enableFlags m s).pwr = s.pwr ∧ (enableFlags m s).cfg = s.cfg ∧ (enableFlags m s).eeprom = s.eeprom ∧
    (enableFlags m s).pending = s.pending := by
  unfold enableFlags
  try dsimp only
  all_goals simp

@[simp] theorem disableFlags_keeps (m : FlagSet) (s : State) :
    (disableFlags m s).tsg = s.tsg ∧ (disableFlags m s).mon = s.mon ∧ (disableFlags m s).bus = s.bus ∧
    (disableFlags m s).ptu = s.ptu ∧ (disableFlags m s).eng = s.eng ∧ (disableFlags m s).lrn = s.lrn ∧
    (disableFlags m s).pwr = s.pwr ∧ (disableFlags m s).cfg = s.cfg ∧ (disableFlags m s).eeprom = s.eeprom ∧
    (disableFlags m s).pending = s.pending := by
  unfold disableFlags
  try dsimp only
  all_goals simp

@[simp] theorem setFlags_keeps (m : FlagSet) (s : State) :
    (setFlags m s).tsg = s.tsg ∧ (setFlags m s).mon = s.mon ∧ (setFlags m s).ptu = s.ptu ∧
    (setFlags m s).eng = s.eng ∧ (setFlags m s).lrn = s.lrn ∧ (setFlags m s).pwr = s.pwr ∧
    (setFlags m s).cfg = s.cfg ∧ (setFlags m s).eeprom = s.eeprom ∧ (setFlags m s).pending = s.pending := by
  unfold setFlags
  try dsimp only
  all_goals simp

@[simp] theorem commandAdjust_keeps (k : AdjustKind) (c : CommandFrame) (st : Stamp) (s : State) :
    (commandAdjust k c st s).mon = s.mon ∧ (commandAdjust k c st s).ptu = s.ptu ∧
    (commandAdjust k c st s).eng = s.eng ∧ (commandAdjust k c st s).lrn = s.lrn ∧
    (commandAdjust k c st s).pwr = s.pwr ∧ (commandAdjust k c st s).cfg = s.cfg ∧
    (commandAdjust k c st s).eeprom = s.eeprom ∧ (commandAdjust k c st s).pending = s.pending := by
  unfold commandAdjust
  try dsimp only
  repeat' split
  all_goals simp

@[simp] theorem setInhibit_keeps (b : Bool) (s : State) :
    (setInhibit b s).mon = s.mon ∧ (setInhibit b s).ptu = s.ptu ∧ (setInhibit b s).pwr = s.pwr ∧
    (setInhibit b s).cfg = s.cfg ∧ (setInhibit b s).eeprom = s.eeprom ∧ (setInhibit b s).pending = s.pending := by
  unfold setInhibit
  try dsimp only
  all_goals simp

@[simp] theorem releaseHistory_keeps (s : State) :
    (releaseHistory s).tsg = s.tsg ∧ (releaseHistory s).bus = s.bus ∧ (releaseHistory s).ptu = s.ptu ∧
    (releaseHistory s).eng = s.eng ∧ (releaseHistory s).lrn = s.lrn ∧ (releaseHistory s).scu = s.scu ∧
    (releaseHistory s).pwr = s.pwr ∧ (releaseHistory s).cfg = s.cfg ∧ (releaseHistory s).eeprom = s.eeprom ∧
    (releaseHistory s).pending = s.pending := by
  unfold releaseHistory
  try dsimp only
  all_goals simp

@[simp] theorem readPage_keeps (n : Nat) (s : State) :
    (readPage n s).tsg = s.tsg ∧ (readPage n s).mon = s.mon ∧ (readPage n s).ptu = s.ptu ∧
    (readPage n s).eng = s.eng ∧ (readPage n s).lrn = s.lrn ∧ (readPage n s).pwr = s.pwr ∧
    (readPage n s).cfg = s.cfg ∧ (readPage n s).eeprom = s.eeprom ∧ (readPage n s).pending = s.pending := by
  unfold readPage
  try dsimp only
  repeat' split
  all_goals simp

@[simp] theorem commandSave_keeps (s : State) :
    (commandSave s).tsg = s.tsg ∧ (commandSave s).mon = s.mon ∧ (commandSave s).ptu = s.ptu ∧
    (commandSave s).eng = s.eng ∧ (commandSave s).pwr = s.pwr ∧ (commandSave s).cfg = s.cfg ∧
    (commandSave s).eeprom = s.eeprom ∧ (commandSave s).pending = s.pending := by
  unfold commandSave
  try dsimp only
  repeat' split
  all_goals simp

@[simp] theorem commandClear_keeps (s : State) :
    (commandClear s).tsg = s.tsg ∧ (commandClear s).mon = s.mon ∧ (commandClear s).ptu = s.ptu ∧
    (commandClear s).eng = s.eng ∧ (commandClear s).pwr = s.pwr ∧ (commandClear s).cfg = s.cfg ∧
    (commandClear s).eeprom = s.eeprom ∧ (commandClear s).pending = s.pending := by
  unfold commandClear
  try dsimp only
  repeat' split
  all_goals simp

@[simp] theorem restartEngine_keeps (s : State) :
    (restartEngine s).mon = s.mon ∧ (restartEngine s).ptu = s.ptu ∧ (restartEngine s).lrn = s.lrn ∧
    (restartEngine s).pwr = s.pwr ∧ (restartEngine s).cfg = s.cfg ∧ (restartEngine s).eeprom = s.eeprom ∧
    (restartEngine s).pending = s.pending := by
  unfold restartEngine
  dsimp only
  split <;> simp [enterState]

@[simp] theorem restart_keeps (s : State) :
    (restart s).pwr = s.pwr ∧ (restart s).cfg = s.cfg ∧ (restart s).eeprom = s.eeprom ∧
    (restart s).pending = s.pending := by
  unfold restart
  try dsimp only
  all_goals simp

@[simp] theorem runCommand_keeps (n : Nat) (c : CommandFrame) (st : Stamp) (s : State) :
    (runCommand n c st s).pwr = s.pwr ∧ (runCommand n c st s).cfg = s.cfg ∧
    (runCommand n c st s).eeprom = s.eeprom ∧ (runCommand n c st s).pending = s.pending := by
  unfold runCommand
  repeat' split
  all_goals (first | simp | (unfold withMask; split <;> simp))

@[simp] theorem handleCommand_keeps (n : BitVec 8) (c : CommandFrame) (st : Stamp) (s : State) :
    (handleCommand n c st s).pwr = s.pwr ∧ (handleCommand n c st s).cfg = s.cfg ∧
    (handleCommand n c st s).eeprom = s.eeprom ∧ (handleCommand n c st s).pending = s.pending := by
  unfold handleCommand
  try dsimp only
  repeat' split
  all_goals simp

@[simp] theorem handOver_keeps (h : Heard) (st : Stamp) (s : State) :
    (handOver h st s).pwr = s.pwr ∧ (handOver h st s).cfg = s.cfg ∧ (handOver h st s).eeprom = s.eeprom ∧
    (handOver h st s).pending = s.pending := by
  unfold handOver
  try dsimp only
  repeat' split
  all_goals simp

@[simp] theorem endReception_keeps (s : State) :
    (endReception s).tsg = s.tsg ∧ (endReception s).mon = s.mon ∧ (endReception s).ptu = s.ptu ∧
    (endReception s).eng = s.eng ∧ (endReception s).lrn = s.lrn ∧ (endReception s).scu = s.scu ∧
    (endReception s).pwr = s.pwr ∧ (endReception s).cfg = s.cfg ∧ (endReception s).eeprom = s.eeprom ∧
    (endReception s).pending = s.pending := by
  unfold endReception
  try dsimp only
  all_goals simp

@[simp] theorem receive_keeps (t : Instant) (h : Heard) (s : State) :
    (receive t h s).pwr = s.pwr ∧ (receive t h s).cfg = s.cfg ∧ (receive t h s).eeprom = s.eeprom ∧
    (receive t h s).pending = s.pending := by
  unfold receive
  try dsimp only
  repeat' split
  all_goals simp

end Sys2Proof.Machine
end

