-- ==== Sys2Proof/Laws/Events.lean ====
section
/-! SUPPORT. How a command reaches its effect: with nothing due, an event is its effect, a due event is its effect where
it is due, and a reception is its hand-off. -/

namespace Sys2Proof.Machine

@[simp] theorem at_running (s : State) (t : Instant) : (s.at t).running = s.running := rfl

/-- Whether the part runs depends on the power controller alone. -/
theorem running_of_pwr {s t : State} (h : t.pwr = s.pwr) : t.running = s.running := by
  simp [State.running, State.held, h]

@[simp] theorem settle_running (s : State) : (settle s).running = s.running := running_of_pwr (by simp)

theorem ready_iff (s : State) : s.ready = true ↔ s.running = true ∧ s.settled = true := by simp [State.ready]

/-- With nothing due, taking what is due changes nothing. -/
theorem settle_of_settled {s : State} (h : s.settled = true) : settle s = s := by
  simp only [State.settled, Bool.and_eq_true, Bool.not_eq_true', decide_eq_true_eq] at h
  obtain ⟨⟨⟨⟨⟨h1, h2⟩, h3⟩, h4⟩, h5⟩, h6⟩ := h
  simp [settle, settleSteer, settleMonitor, settlePeers, h1, h2, h3, h4, h5, h6]

/-- An event of a ready part is its effect. -/
theorem event_of_ready {s : State} (f : State → State) (h : s.ready = true) : event f s = .next (f s) := by
  obtain ⟨hr, hs⟩ := (ready_iff s).mp h
  simp [event, hr, settle_of_settled hs]

/-- A due event, where it is due, is its effect. -/
theorem dueEvent_of_due {s : State} {due : State → Bool} (f : State → State) (hr : s.running = true)
    (hd : due s = true) : dueEvent due f s = .next (f s) := by
  simp [dueEvent, hr, hd]

/-- A part that does not run takes no event. -/
theorem event_of_not_running {s : State} (f : State → State) (h : s.running = false) : event f s = .next s := by
  simp [event, h]

theorem hears_iff (s : State) (st : Stamp) :
    s.hears st = true ↔ s.ready = true ∧ s.bus.joined = true ∧ s.bus.attempt = none ∧ s.bus.seen = some st := by
  simp [State.hears, and_assoc]

/-- A reception on a part that hears it is its hand-off in the state after the reception's end. -/
theorem receive_of_hears {s : State} {st : Stamp} (t : Instant) (h : Heard) (hs : s.hears st = true) :
    event (receive t h) s = .next (handOver h st (s.heard t)) := by
  obtain ⟨hr, hj, ha, hn⟩ := (hears_iff s st).mp hs
  rw [event_of_ready _ hr]
  simp [receive, hj, ha, hn, State.heard]

/-- What the end of a reception leaves as it was. -/
@[simp] theorem heard_keeps (s : State) (t : Instant) :
    (s.heard t).tsg = { s.tsg with now := t } ∧ (s.heard t).mon = s.mon ∧ (s.heard t).ptu = s.ptu ∧
    (s.heard t).eng = s.eng ∧ (s.heard t).lrn = s.lrn ∧ (s.heard t).scu = s.scu ∧ (s.heard t).pwr = s.pwr ∧
    (s.heard t).cfg = s.cfg ∧ (s.heard t).eeprom = s.eeprom ∧ (s.heard t).pending = s.pending := by
  simp [State.heard]

/-- The end of a reception changes the receive error count, the error state and the seen timestamp alone (R51, R56). -/
theorem heard_bus (s : State) (t : Instant) :
    (s.heard t).bus = { s.bus with
      receiveErrors := s.bus.lessReceiveError.receiveErrors
      error := s.bus.lessReceiveError.updateError.error, seen := none } := by
  simp only [State.heard, endReception, State.withBus_bus, State.at_bus, Bus.endReception_eq]

/-- A named COMMAND is run by its code. -/
theorem handOver_command {s : State} (code : BitVec 8) {c : CommandFrame} (st : Stamp)
    (h : c.target.getLsbD s.pwr.address.val = true) :
    handOver (.command code c) st s = runCommand code.toNat c st s := by
  simp [handOver, handleCommand, h]

end Sys2Proof.Machine
end

