-- ==== Sys2Proof/Laws/Flags.lean ====
section
/-! SUPPORT. What raising, refusing and offering do (R154, R158 to R160), flag by flag, and what the entry to FAULT
leaves (R120, R138). -/

namespace Sys2Proof.Machine

theorem Flag.index_lt (f : Flag) : f.index < 16 := by cases f <;> decide

theorem Flag.index_inj {f g : Flag} : f.index = g.index ↔ f = g := by
  cases f <;> cases g <;> simp [Flag.index]

@[simp] theorem hasFlag_or (x y : FlagSet) (f : Flag) : hasFlag (x ||| y) f = (hasFlag x f || hasFlag y f) := by
  simp [hasFlag]

@[simp] theorem hasFlag_and (x y : FlagSet) (f : Flag) : hasFlag (x &&& y) f = (hasFlag x f && hasFlag y f) := by
  simp [hasFlag]

@[simp] theorem hasFlag_not (x : FlagSet) (f : Flag) : hasFlag (~~~x) f = !hasFlag x f := by
  simp [hasFlag, f.index_lt]

@[simp] theorem hasFlag_zero (f : Flag) : hasFlag 0 f = false := by simp [hasFlag]

@[simp] theorem hasFlag_mask (f g : Flag) : hasFlag f.mask g = decide (g = f) := by
  simp [hasFlag, Flag.mask, g.index_lt, Flag.index_inj, eq_comm]

/-- Every bit of a flag field is some flag's. -/
theorem Flag.every_bit : ∀ i : Fin 16, ∃ f ∈ Flag.all, f.index = i.val := by decide

/-- Two flag fields that agree flag by flag are one. -/
theorem flagSet_ext {x y : FlagSet} (h : ∀ f, hasFlag x f = hasFlag y f) : x = y := by
  apply BitVec.eq_of_getLsbD_eq
  intro i hi
  obtain ⟨f, -, hf⟩ := Flag.every_bit ⟨i, hi⟩
  have := h f
  simp only [hasFlag, hf] at this
  exact this

/-! ### Raising (R154) -/

/-- After a raise the flag is raised, and every other flag is as it was. -/
@[simp] theorem raise_raised (f g : Flag) (s : State) :
    hasFlag (raise f s).scu.raised g = (hasFlag s.scu.raised g || decide (g = f)) := by
  unfold raise
  by_cases h : hasFlag s.scu.raised f = true
  · by_cases hg : g = f <;> simp [h, hg]
  · simp only [h]
    split <;> (try split) <;> simp_all

/-- A raise leaves the enabled set and the refusal cause. -/
@[simp] theorem raise_scu (f : Flag) (s : State) :
    (raise f s).scu.enabled = s.scu.enabled ∧ (raise f s).scu.cause = s.scu.cause := by
  unfold raise
  repeat' split
  all_goals simp

/-- What a refusal leaves (R160). -/
@[simp] theorem refuse_scu (c : Cause) (s : State) :
    (refuse c s).scu.cause = c ∧ (refuse c s).scu.enabled = s.scu.enabled := by
  simp [refuse]

@[simp] theorem refuse_raised (c : Cause) (g : Flag) (s : State) :
    hasFlag (refuse c s).scu.raised g = (hasFlag s.scu.raised g || decide (g = .cmdRefused)) := by
  simp [refuse]

/-- The raised set after a list of raises. -/
theorem raiseAll_raised (fs : List Flag) (g : Flag) (s : State) :
    hasFlag (raiseAll fs s).scu.raised g = (hasFlag s.scu.raised g || decide (g ∈ fs)) := by
  induction fs generalizing s with
  | nil => simp [raiseAll]
  | cons f fs ih => simp [raiseAll, ih, Bool.or_assoc]

@[simp] theorem raiseAll_scu (fs : List Flag) (s : State) :
    (raiseAll fs s).scu.enabled = s.scu.enabled ∧ (raiseAll fs s).scu.cause = s.scu.cause := by
  induction fs generalizing s with
  | nil => simp [raiseAll]
  | cons f fs ih => simp [raiseAll, ih]

/-! ### Offers (R55, R60) -/

/-- An ALERT offer touches the ALERT slot and the flags held aside alone. -/
theorem offerAlert_bus (m : FlagSet) (s : State) :
    (offerAlert m s).bus = { s.bus with
      alert := (offerAlert m s).bus.alert, aside := (offerAlert m s).bus.aside } := by
  unfold offerAlert
  dsimp only
  repeat' split
  all_goals simp

/-- A raise touches the ALERT slot and the flags held aside alone. -/
theorem raise_bus (f : Flag) (s : State) :
    (raise f s).bus = { s.bus with alert := (raise f s).bus.alert, aside := (raise f s).bus.aside } := by
  unfold raise
  dsimp only
  repeat' split
  all_goals first
    | rfl
    | (rw [offerAlert_bus]; simp)

/-- A STATUS offer touches the STATUS slots and the content that waits for them alone. -/
theorem offerStatus_bus (s : State) :
    (offerStatus s).bus = { s.bus with
      status0 := (offerStatus s).bus.status0, status1 := (offerStatus s).bus.status1
      wait0 := (offerStatus s).bus.wait0, wait1 := (offerStatus s).bus.wait1 } := by
  unfold offerStatus
  dsimp only
  split <;> simp

/-! ### Announcing and FAULT (R103, R120, R138) -/

/-- What a change of engine state brings to the flags (R103). -/
theorem announce_raised (old : EngineState) (g : Flag) (s : State) :
    hasFlag (announce old s).scu.raised g =
      (hasFlag s.scu.raised g || decide (g = .sourceChange ∧ classOf old ≠ s.cls)) := by
  unfold announce
  have hc : (refreshOutputs s).cls = s.cls := by simp [State.cls]
  simp only [hc]
  by_cases h : classOf old = s.cls
  · simp [h]
    split <;> simp
  · simp [h]
    split <;> simp

/-- The record with which the engine enters FAULT (R120, R138). -/
def Engine.faulted (e : Engine) : Engine :=
  { e with
    state := .fault, source := none, pt := 0, ring := [], lockCount := 0, largeCount := 0, steerCount := 0
    disagree := 0, record := none, nudge := 0, lastPrediction := none, followedU := none
    u := Config.saturatedU, exhaustionOrder := false }

@[simp] theorem announce_eng (old : EngineState) (s : State) : (announce old s).eng = s.eng := by simp

/-- The entry to FAULT leaves the engine's record of R120. -/
theorem enterFault_eng {s : State} (h : s.eng.state ≠ .fault) : (enterFault s).eng = s.eng.faulted := by
  simp [enterFault, h, Engine.faulted, emptyMarkSlots]

theorem enterFault_of_fault {s : State} (h : s.eng.state = .fault) : enterFault s = s := by simp [enterFault, h]

/-- In every case the engine is in FAULT after it. -/
@[simp] theorem enterFault_state (s : State) : (enterFault s).eng.state = .fault := by
  by_cases h : s.eng.state = .fault
  · rw [enterFault_of_fault h, h]
  · rw [enterFault_eng h]; rfl

/-- The entry to FAULT raises SOURCE_CHANGE when a class was reported, and no other flag. -/
theorem enterFault_raised (g : Flag) (s : State) :
    hasFlag (enterFault s).scu.raised g =
      (hasFlag s.scu.raised g || decide (g = .sourceChange ∧ s.cls ≠ none)) := by
  by_cases h : s.eng.state = .fault
  · simp [enterFault_of_fault h, State.cls, h, classOf]
  · simp only [enterFault, h, if_false, announce_raised]
    have hf : classOf .fault = none := rfl
    by_cases hg : g = .sourceChange <;> by_cases hc : classOf s.eng.state = none <;>
      simp [State.cls, emptyMarkSlots, hf, hg, hc]

end Sys2Proof.Machine
end

