-- ==== Sys2Proof/Laws/Memory.lean ====
section
/-! SUPPORT. The EEPROM as memory: what a write leaves to read, and that every operation keeps the canonical form. -/

namespace Sys2Proof.Machine

/-! ### Reading after writing -/

/-- An address below every listed one reads as blank. -/
theorem Memory.read_below {low a : Nat} : ∀ {m : Memory}, m.wfAbove low = true → a < low → m.read a = Memory.blank
  | [], _, _ => rfl
  | (x, v) :: rest, h, ha => by
    simp only [Memory.wfAbove, Bool.and_eq_true, decide_eq_true_eq] at h
    simp only [Memory.read, if_neg (show ¬x = a by omega)]
    exact Memory.read_below h.2 (by omega)

/-- What a write leaves at every address. -/
theorem Memory.read_write (a b : Nat) (v : Byte) :
    ∀ {low : Nat} {m : Memory}, m.wfAbove low = true → (m.write a v).read b = if b = a then v else m.read b
  | _, [], _ => by
    by_cases hv : v = Memory.blank <;> by_cases hb : b = a <;> simp [Memory.write, Memory.read, hv, hb]
    intro h; exact absurd h.symm hb
  | _, (x, w) :: rest, h => by
    simp only [Memory.wfAbove, Bool.and_eq_true, decide_eq_true_eq] at h
    have below : ∀ c, c ≤ x → Memory.read rest c = Memory.blank := fun c hc => Memory.read_below h.2 (by omega)
    unfold Memory.write
    split
    · split
      · by_cases hb : b = a
        · simp [Memory.read, hb, show ¬x = a by omega, below a (by omega), ‹v = Memory.blank›]
        · simp [hb]
      · by_cases hb : b = a
        · simp [Memory.read, hb]
        · simp [Memory.read, hb, show ¬a = b from fun e => hb e.symm]
    · split
      · next _ hax =>
        subst hax
        split
        · by_cases hb : b = a
          · subst hb; simp [below b (Nat.le_refl _), ‹v = Memory.blank›]
          · simp [Memory.read, hb, show ¬a = b from fun e => hb e.symm]
        · by_cases hb : b = a
          · simp [Memory.read, hb]
          · simp [Memory.read, hb, show ¬a = b from fun e => hb e.symm]
      · next hlt hne =>
        have ih := Memory.read_write a b v h.2
        by_cases hx : x = b
        · simp [Memory.read, hx, show ¬b = a by omega]
        · simp [Memory.read, hx, ih]

/-! ### The canonical form -/

/-- A bound may be lowered. -/
theorem Memory.wfAbove_mono {low high : Nat} :
    ∀ {m : Memory}, low ≤ high → m.wfAbove high = true → m.wfAbove low = true
  | [], _, _ => rfl
  | (x, w) :: rest, hl, h => by
    simp only [Memory.wfAbove, Bool.and_eq_true, decide_eq_true_eq] at h ⊢
    exact ⟨⟨by omega, h.1.2⟩, h.2⟩

/-- A write keeps the canonical form above any bound below the address written. -/
theorem Memory.wfAbove_write (a : Nat) (v : Byte) :
    ∀ {low : Nat} {m : Memory}, low ≤ a → m.wfAbove low = true → (m.write a v).wfAbove low = true
  | low, [], ha, _ => by
    by_cases hv : v = Memory.blank <;> simp [Memory.write, Memory.wfAbove, hv, ha]
  | low, (x, w) :: rest, ha, h => by
    simp only [Memory.wfAbove, Bool.and_eq_true, decide_eq_true_eq, bne_iff_ne, ne_eq] at h
    unfold Memory.write
    split
    · split
      · simp [Memory.wfAbove, h]
      · next hlt hv => simp [Memory.wfAbove, h, ha, hv, show a + 1 ≤ x by omega]
    · split
      · next _ hax =>
        subst hax
        split
        · exact Memory.wfAbove_mono (by omega) h.2
        · next hv => simp [Memory.wfAbove, h, hv]
      · next hlt hne =>
        simp [Memory.wfAbove, h, Memory.wfAbove_write a v (show x + 1 ≤ a by omega) h.2]

/-- A write of one byte keeps the canonical form. -/
theorem Memory.wf_write {m : Memory} (a : Nat) (v : Byte) (h : m.wf = true) : (m.write a v).wf = true :=
  Memory.wfAbove_write a v (Nat.zero_le _) h

/-- A write of consecutive bytes keeps the canonical form. -/
theorem Memory.wf_writeAll : ∀ (bs : List Byte) {m : Memory} (a : Nat), m.wf = true → (m.writeAll a bs).wf = true
  | [], _, _, h => h
  | b :: bs, _, a, h => Memory.wf_writeAll bs (a + 1) (Memory.wf_write a b h)

/-- The memory after reset is in canonical form. -/
theorem Memory.wf_reset : Memory.wf State.reset.eeprom = true := rfl

/-! ### Consecutive bytes -/

/-- A write of consecutive bytes leaves every address outside them. -/
theorem Memory.read_writeAll_outside : ∀ (bs : List Byte) {m : Memory} (a c : Nat), m.wf = true →
    c < a ∨ a + bs.length ≤ c → (m.writeAll a bs).read c = m.read c
  | [], _, _, _, _, _ => rfl
  | b :: bs, m, a, c, h, hc => by
    simp only [List.length_cons] at hc
    rw [Memory.writeAll, Memory.read_writeAll_outside bs (a + 1) c (Memory.wf_write a b h) (by omega),
      Memory.read_write a c b h, if_neg (by omega)]

/-- A write of consecutive bytes puts each at its address. -/
theorem Memory.read_writeAll_inside : ∀ (bs : List Byte) {m : Memory} (a k : Nat) (b : Byte), m.wf = true →
    bs[k]? = some b → (m.writeAll a bs).read (a + k) = b
  | [], _, _, _, _, _, hk => by simp at hk
  | x :: bs, m, a, 0, b, h, hk => by
    simp only [List.getElem?_cons_zero, Option.some.injEq] at hk
    rw [Memory.writeAll, Memory.read_writeAll_outside bs (a + 1) (a + 0) (Memory.wf_write a x h) (by omega),
      Memory.read_write a (a + 0) x h, if_pos (Nat.add_zero a), hk]
  | x :: bs, m, a, k + 1, b, h, hk => by
    simp only [List.getElem?_cons_succ] at hk
    rw [Memory.writeAll, show a + (k + 1) = a + 1 + k by omega]
    exact Memory.read_writeAll_inside bs (a + 1) k b (Memory.wf_write a x h) hk

/-! ### The operations on the state -/

/-! ### Transfers on the 2-wire link -/

/-- The two bytes of a memory address read back as it. -/
@[simp] theorem readBytes_be16 (a : BitVec 16) : readBytes (be16 a) = a.toNat := by
  have h := a.isLt
  simp only [be16, readBytes, BitVec.extractLsb'_toNat, Nat.shiftRight_eq_div_pow, List.length_cons, List.length_nil]
  omega

/-- What the memory does with the transfer of a page write. -/
@[simp] theorem Memory.take_transfer (m : Memory) (w : PageWrite) :
    m.take w.transfer = m.writeAll w.addr.toNat w.bytes := by
  simp [Memory.take, PageWrite.transfer, transferAt]

/-- What the memory answers to a read. -/
@[simp] theorem Memory.answer_read (m : Memory) (a : BitVec 16) (n : Nat) :
    m.answer (transferAt a (.read n)) = m.readAll a.toNat n := by
  simp [Memory.answer, transferAt]

/-- A page that lands keeps the canonical form. -/
theorem landPage_wf {s : State} (w : PageWrite) (h : Memory.wf s.eeprom = true) :
    Memory.wf (landPage w s).eeprom = true := by
  simp only [landPage, State.withEeprom_eeprom, Memory.take_transfer]
  exact Memory.wf_writeAll _ _ h

/-- A page write that is cut or fails keeps the canonical form. -/
theorem cutPage_wf {s : State} (taken : Bool) (w : PageWrite) (h : Memory.wf s.eeprom = true) :
    Memory.wf (cutPage taken w s).eeprom = true := by
  unfold cutPage
  split
  · exact landPage_wf _ h
  · exact h

/-- A transfer cut by a reset keeps the canonical form. -/
theorem cutTransfer_wf {s : State} (taken : Bool) (h : Memory.wf s.eeprom = true) :
    Memory.wf (cutTransfer taken s).eeprom = true := by
  unfold cutTransfer
  split
  · exact cutPage_wf _ _ h
  · exact h

end Sys2Proof.Machine
end

