-- ==== Sys2Proof/Laws/PerInstr.lean ====
section
/-! SUPPORT. One statement made per command: which code the COMMAND it brings carries. -/

open Sys2Proof Sys2Proof.Machine

/-- A command of the table that brings a COMMAND brings one of the listed codes 1 to 15 (R162, R173); any other code
comes as INVALID_COMMAND_CODE, or in a received frame that reads as a COMMAND of that code. -/
def Sys2Proof.Laws.CommandCodes.Statement (i : Instr) : Prop :=
  ∀ code c, commandOf i = some (code, c) →
    (1 ≤ code.toNat ∧ code.toNat ≤ 15) ∨ (∃ t, i = .invalidCommandCode t code c) ∨
      (∃ t f, i = .frameReceived t f ∧ readFrame f = .command code c)

/-- A command that brings none meets the statement. -/
theorem Sys2Proof.Laws.CommandCodes.of_none {i : Instr} (h : commandOf i = none) :
    Sys2Proof.Laws.CommandCodes.Statement i := by
  intro code c hc
  rw [h] at hc
  exact absurd hc (by simp)

/-- A command of one listed code meets the statement. -/
theorem Sys2Proof.Laws.CommandCodes.of_code {i : Instr} {k : BitVec 8} {c : CommandFrame}
    (h : commandOf i = some (k, c)) (hk : 1 ≤ k.toNat ∧ k.toNat ≤ 15) :
    Sys2Proof.Laws.CommandCodes.Statement i := by
  intro code c' hc
  rw [h] at hc
  simp only [Option.some.injEq, Prod.mk.injEq] at hc
  exact .inl (hc.1 ▸ hk)

theorem Sys2Proof.Laws.CommandCodes.supplyGood :
    Sys2Proof.Laws.CommandCodes.Statement .supplyGood := Sys2Proof.Laws.CommandCodes.of_none rfl

theorem Sys2Proof.Laws.CommandCodes.supplyLoss (pageTaken : Bool) :
    Sys2Proof.Laws.CommandCodes.Statement (.supplyLoss pageTaken) := Sys2Proof.Laws.CommandCodes.of_none rfl

theorem Sys2Proof.Laws.CommandCodes.resetNAssert (lowNs : Nat) (pageTaken : Bool) :
    Sys2Proof.Laws.CommandCodes.Statement (.resetNAssert lowNs pageTaken) := Sys2Proof.Laws.CommandCodes.of_none rfl

theorem Sys2Proof.Laws.CommandCodes.resetNRelease :
    Sys2Proof.Laws.CommandCodes.Statement .resetNRelease := Sys2Proof.Laws.CommandCodes.of_none rfl

theorem Sys2Proof.Laws.CommandCodes.openSecond0 (cycles : Nat) (straps : BitVec 4) (sitePwr : Bool) :
    Sys2Proof.Laws.CommandCodes.Statement (.openSecond0 cycles straps sitePwr) := Sys2Proof.Laws.CommandCodes.of_none rfl

theorem Sys2Proof.Laws.CommandCodes.configurationRead (acknowledged : Bool) :
    Sys2Proof.Laws.CommandCodes.Statement (.configurationRead acknowledged) := Sys2Proof.Laws.CommandCodes.of_none rfl

theorem Sys2Proof.Laws.CommandCodes.learningBlockRead (acknowledged : Bool) :
    Sys2Proof.Laws.CommandCodes.Statement (.learningBlockRead acknowledged) := Sys2Proof.Laws.CommandCodes.of_none rfl

theorem Sys2Proof.Laws.CommandCodes.busJoin :
    Sys2Proof.Laws.CommandCodes.Statement .busJoin := Sys2Proof.Laws.CommandCodes.of_none rfl

theorem Sys2Proof.Laws.CommandCodes.ownBoundary (order : List BoundaryTask) :
    Sys2Proof.Laws.CommandCodes.Statement (.ownBoundary order) := Sys2Proof.Laws.CommandCodes.of_none rfl

theorem Sys2Proof.Laws.CommandCodes.staleBlock :
    Sys2Proof.Laws.CommandCodes.Statement .staleBlock := Sys2Proof.Laws.CommandCodes.of_none rfl

theorem Sys2Proof.Laws.CommandCodes.qualificationTimerExpiry :
    Sys2Proof.Laws.CommandCodes.Statement .qualificationTimerExpiry := Sys2Proof.Laws.CommandCodes.of_none rfl

theorem Sys2Proof.Laws.CommandCodes.holdoffExpiry :
    Sys2Proof.Laws.CommandCodes.Statement .holdoffExpiry := Sys2Proof.Laws.CommandCodes.of_none rfl

theorem Sys2Proof.Laws.CommandCodes.peerExpiry (peer : Fin 16) :
    Sys2Proof.Laws.CommandCodes.Statement (.peerExpiry peer) := Sys2Proof.Laws.CommandCodes.of_none rfl

theorem Sys2Proof.Laws.CommandCodes.quarantineEnd (peer : Fin 16) :
    Sys2Proof.Laws.CommandCodes.Statement (.quarantineEnd peer) := Sys2Proof.Laws.CommandCodes.of_none rfl

theorem Sys2Proof.Laws.CommandCodes.steerLimitReached :
    Sys2Proof.Laws.CommandCodes.Statement .steerLimitReached := Sys2Proof.Laws.CommandCodes.of_none rfl

theorem Sys2Proof.Laws.CommandCodes.warmupExpiry :
    Sys2Proof.Laws.CommandCodes.Statement .warmupExpiry := Sys2Proof.Laws.CommandCodes.of_none rfl

theorem Sys2Proof.Laws.CommandCodes.agingSample :
    Sys2Proof.Laws.CommandCodes.Statement .agingSample := Sys2Proof.Laws.CommandCodes.of_none rfl

theorem Sys2Proof.Laws.CommandCodes.temperatureConversionEnd (t : Instant) (reading : Option Int) :
    Sys2Proof.Laws.CommandCodes.Statement (.temperatureConversionEnd t reading) := Sys2Proof.Laws.CommandCodes.of_none rfl

theorem Sys2Proof.Laws.CommandCodes.stalenessTimerExpiry :
    Sys2Proof.Laws.CommandCodes.Statement .stalenessTimerExpiry := Sys2Proof.Laws.CommandCodes.of_none rfl

theorem Sys2Proof.Laws.CommandCodes.markDue :
    Sys2Proof.Laws.CommandCodes.Statement .markDue := Sys2Proof.Laws.CommandCodes.of_none rfl

theorem Sys2Proof.Laws.CommandCodes.statusPeriodicOffer :
    Sys2Proof.Laws.CommandCodes.Statement .statusPeriodicOffer := Sys2Proof.Laws.CommandCodes.of_none rfl

theorem Sys2Proof.Laws.CommandCodes.ppsPulseEnd :
    Sys2Proof.Laws.CommandCodes.Statement .ppsPulseEnd := Sys2Proof.Laws.CommandCodes.of_none rfl

theorem Sys2Proof.Laws.CommandCodes.oscGap (t : Instant) :
    Sys2Proof.Laws.CommandCodes.Statement (.oscGap t) := Sys2Proof.Laws.CommandCodes.of_none rfl

theorem Sys2Proof.Laws.CommandCodes.checkWindowEnd (t : Instant) (cycles : Nat) :
    Sys2Proof.Laws.CommandCodes.Statement (.checkWindowEnd t cycles) := Sys2Proof.Laws.CommandCodes.of_none rfl

theorem Sys2Proof.Laws.CommandCodes.refPulse (t : Instant) :
    Sys2Proof.Laws.CommandCodes.Statement (.refPulse t) := Sys2Proof.Laws.CommandCodes.of_none rfl

theorem Sys2Proof.Laws.CommandCodes.missingPulseEvent :
    Sys2Proof.Laws.CommandCodes.Statement .missingPulseEvent := Sys2Proof.Laws.CommandCodes.of_none rfl

theorem Sys2Proof.Laws.CommandCodes.sitePwrEdge (t : Instant) (high : Bool) :
    Sys2Proof.Laws.CommandCodes.Statement (.sitePwrEdge t high) := Sys2Proof.Laws.CommandCodes.of_none rfl

theorem Sys2Proof.Laws.CommandCodes.sitePwrFilterExpiry :
    Sys2Proof.Laws.CommandCodes.Statement .sitePwrFilterExpiry := Sys2Proof.Laws.CommandCodes.of_none rfl

theorem Sys2Proof.Laws.CommandCodes.transmitAttemptStart (t : Instant) (bus : BusTimes) :
    Sys2Proof.Laws.CommandCodes.Statement (.transmitAttemptStart t bus) := Sys2Proof.Laws.CommandCodes.of_none rfl

theorem Sys2Proof.Laws.CommandCodes.attemptCompleted (t : Instant) :
    Sys2Proof.Laws.CommandCodes.Statement (.attemptCompleted t) := Sys2Proof.Laws.CommandCodes.of_none rfl

theorem Sys2Proof.Laws.CommandCodes.arbitrationLost (t : Instant) :
    Sys2Proof.Laws.CommandCodes.Statement (.arbitrationLost t) := Sys2Proof.Laws.CommandCodes.of_none rfl

theorem Sys2Proof.Laws.CommandCodes.transmitError (t : Instant) (kind : BusError) (inDataField : Bool) :
    Sys2Proof.Laws.CommandCodes.Statement (.transmitError t kind inDataField) := Sys2Proof.Laws.CommandCodes.of_none rfl

theorem Sys2Proof.Laws.CommandCodes.receiveError (t : Instant) (kind : BusError) :
    Sys2Proof.Laws.CommandCodes.Statement (.receiveError t kind) := Sys2Proof.Laws.CommandCodes.of_none rfl

theorem Sys2Proof.Laws.CommandCodes.busOffRecovery :
    Sys2Proof.Laws.CommandCodes.Statement .busOffRecovery := Sys2Proof.Laws.CommandCodes.of_none rfl

theorem Sys2Proof.Laws.CommandCodes.markDeadline :
    Sys2Proof.Laws.CommandCodes.Statement .markDeadline := Sys2Proof.Laws.CommandCodes.of_none rfl

theorem Sys2Proof.Laws.CommandCodes.followDeadline :
    Sys2Proof.Laws.CommandCodes.Statement .followDeadline := Sys2Proof.Laws.CommandCodes.of_none rfl

theorem Sys2Proof.Laws.CommandCodes.pageDeadline (position : Fin 2) :
    Sys2Proof.Laws.CommandCodes.Statement (.pageDeadline position) := Sys2Proof.Laws.CommandCodes.of_none rfl

theorem Sys2Proof.Laws.CommandCodes.frameReceived (t : Instant) (frame : RawFrame) :
    Sys2Proof.Laws.CommandCodes.Statement (.frameReceived t frame) := by
  intro k c' h
  simp only [commandOf] at h
  split at h
  · next code c hf =>
    simp only [Option.some.injEq, Prod.mk.injEq] at h
    obtain ⟨rfl, rfl⟩ := h
    exact .inr (.inr ⟨t, frame, rfl, hf⟩)
  · simp at h

theorem Sys2Proof.Laws.CommandCodes.markFrame (t : Instant) (source : Fin 16) (seq : BitVec 8) :
    Sys2Proof.Laws.CommandCodes.Statement (.markFrame t source seq) := Sys2Proof.Laws.CommandCodes.of_none rfl

theorem Sys2Proof.Laws.CommandCodes.followFrame (t : Instant) (source : Fin 16) (data : FollowData) :
    Sys2Proof.Laws.CommandCodes.Statement (.followFrame t source data) := Sys2Proof.Laws.CommandCodes.of_none rfl

theorem Sys2Proof.Laws.CommandCodes.pendingTimerExpiry (peer : Fin 16) :
    Sys2Proof.Laws.CommandCodes.Statement (.pendingTimerExpiry peer) := Sys2Proof.Laws.CommandCodes.of_none rfl

theorem Sys2Proof.Laws.CommandCodes.invalidCommandCode (t : Instant) (code : BitVec 8) (c : CommandFrame) :
    Sys2Proof.Laws.CommandCodes.Statement (.invalidCommandCode t code c) := by
  intro k c' h
  simp only [commandOf, Option.some.injEq, Prod.mk.injEq] at h
  obtain ⟨rfl, rfl⟩ := h
  exact .inr (.inl ⟨t, rfl⟩)

theorem Sys2Proof.Laws.CommandCodes.statusQuery (t : Instant) (c : CommandFrame) :
    Sys2Proof.Laws.CommandCodes.Statement (.statusQuery t c) := Sys2Proof.Laws.CommandCodes.of_code rfl (by decide)

theorem Sys2Proof.Laws.CommandCodes.clearErrors (t : Instant) (c : CommandFrame) :
    Sys2Proof.Laws.CommandCodes.Statement (.clearErrors t c) := Sys2Proof.Laws.CommandCodes.of_code rfl (by decide)

theorem Sys2Proof.Laws.CommandCodes.alertEnable (t : Instant) (c : CommandFrame) :
    Sys2Proof.Laws.CommandCodes.Statement (.alertEnable t c) := Sys2Proof.Laws.CommandCodes.of_code rfl (by decide)

theorem Sys2Proof.Laws.CommandCodes.alertDisable (t : Instant) (c : CommandFrame) :
    Sys2Proof.Laws.CommandCodes.Statement (.alertDisable t c) := Sys2Proof.Laws.CommandCodes.of_code rfl (by decide)

theorem Sys2Proof.Laws.CommandCodes.errorSet (t : Instant) (c : CommandFrame) :
    Sys2Proof.Laws.CommandCodes.Statement (.errorSet t c) := Sys2Proof.Laws.CommandCodes.of_code rfl (by decide)

theorem Sys2Proof.Laws.CommandCodes.phaseStep (t : Instant) (c : CommandFrame) :
    Sys2Proof.Laws.CommandCodes.Statement (.phaseStep t c) := Sys2Proof.Laws.CommandCodes.of_code rfl (by decide)

theorem Sys2Proof.Laws.CommandCodes.phaseSlew (t : Instant) (c : CommandFrame) :
    Sys2Proof.Laws.CommandCodes.Statement (.phaseSlew t c) := Sys2Proof.Laws.CommandCodes.of_code rfl (by decide)

theorem Sys2Proof.Laws.CommandCodes.adjustAbort (t : Instant) (c : CommandFrame) :
    Sys2Proof.Laws.CommandCodes.Statement (.adjustAbort t c) := Sys2Proof.Laws.CommandCodes.of_code rfl (by decide)

theorem Sys2Proof.Laws.CommandCodes.refInhibit (t : Instant) (c : CommandFrame) :
    Sys2Proof.Laws.CommandCodes.Statement (.refInhibit t c) := Sys2Proof.Laws.CommandCodes.of_code rfl (by decide)

theorem Sys2Proof.Laws.CommandCodes.refRelease (t : Instant) (c : CommandFrame) :
    Sys2Proof.Laws.CommandCodes.Statement (.refRelease t c) := Sys2Proof.Laws.CommandCodes.of_code rfl (by decide)

theorem Sys2Proof.Laws.CommandCodes.historyRelease (t : Instant) (c : CommandFrame) :
    Sys2Proof.Laws.CommandCodes.Statement (.historyRelease t c) := Sys2Proof.Laws.CommandCodes.of_code rfl (by decide)

theorem Sys2Proof.Laws.CommandCodes.tableRead (t : Instant) (c : CommandFrame) :
    Sys2Proof.Laws.CommandCodes.Statement (.tableRead t c) := Sys2Proof.Laws.CommandCodes.of_code rfl (by decide)

theorem Sys2Proof.Laws.CommandCodes.learnSave (t : Instant) (c : CommandFrame) :
    Sys2Proof.Laws.CommandCodes.Statement (.learnSave t c) := Sys2Proof.Laws.CommandCodes.of_code rfl (by decide)

theorem Sys2Proof.Laws.CommandCodes.learnClear (t : Instant) (c : CommandFrame) :
    Sys2Proof.Laws.CommandCodes.Statement (.learnClear t c) := Sys2Proof.Laws.CommandCodes.of_code rfl (by decide)

theorem Sys2Proof.Laws.CommandCodes.restart (t : Instant) (c : CommandFrame) :
    Sys2Proof.Laws.CommandCodes.Statement (.restart t c) := Sys2Proof.Laws.CommandCodes.of_code rfl (by decide)

theorem Sys2Proof.Laws.CommandCodes.eepromPageWriteDone :
    Sys2Proof.Laws.CommandCodes.Statement .eepromPageWriteDone := Sys2Proof.Laws.CommandCodes.of_none rfl

theorem Sys2Proof.Laws.CommandCodes.eepromFailure (pageTaken : Bool) :
    Sys2Proof.Laws.CommandCodes.Statement (.eepromFailure pageTaken) := Sys2Proof.Laws.CommandCodes.of_none rfl

theorem Sys2Proof.Laws.CommandCodes.startOfFrameEdgeSeen (edge : BusEdge) :
    Sys2Proof.Laws.CommandCodes.Statement (.startOfFrameEdgeSeen edge) := Sys2Proof.Laws.CommandCodes.of_none rfl

theorem Sys2Proof.Laws.CommandCodes.recoveryCountRise :
    Sys2Proof.Laws.CommandCodes.Statement .recoveryCountRise := Sys2Proof.Laws.CommandCodes.of_none rfl
end

