-- ==== Sys2Proof/Laws/TimeFrame.lean ====
section
/-! SUPPORT. What each operation that touches the Timescale Generator leaves of its clock: the instant, the boundary
just past, Φ and F in force, the trim, the oscillator state. -/

namespace Sys2Proof.Machine

@[simp] theorem Timescale.schedule_keeps (x : Timescale) :
    x.schedule.now = x.now ∧ x.schedule.boundaryIndex = x.boundaryIndex ∧
    x.schedule.lastBoundary = x.lastBoundary ∧ x.schedule.phi = x.phi ∧ x.schedule.fInForce = x.fInForce ∧
    x.schedule.trim = x.trim ∧ x.schedule.osc = x.osc ∧ x.schedule.windowGap = x.windowGap ∧
    x.schedule.freqCycle = x.freqCycle ∧ x.schedule.fSet = x.fSet ∧ x.schedule.slot = x.slot ∧
    x.schedule.committed = x.committed ∧ x.schedule.stepCount = x.stepCount ∧ x.schedule.slewing = x.slewing ∧
    x.schedule.outputsRunning = x.outputsRunning ∧ x.schedule.ppsOut = x.ppsOut ∧
    x.schedule.auxOut = x.auxOut := by
  unfold Timescale.schedule
  split <;> simp

@[simp] theorem Timescale.endSlew_keeps (x : Timescale) :
    x.endSlew.now = x.now ∧ x.endSlew.boundaryIndex = x.boundaryIndex ∧
    x.endSlew.lastBoundary = x.lastBoundary ∧ x.endSlew.phi = x.phi ∧ x.endSlew.fInForce = x.fInForce ∧
    x.endSlew.trim = x.trim ∧ x.endSlew.osc = x.osc ∧ x.endSlew.windowGap = x.windowGap ∧
    x.endSlew.freqCycle = x.freqCycle ∧ x.endSlew.fSet = x.fSet ∧ x.endSlew.slot = x.slot ∧
    x.endSlew.committed = x.committed ∧ x.endSlew.nextBoundary = x.nextBoundary ∧
    x.endSlew.phiNext = x.phiNext ∧ x.endSlew.outputsRunning = x.outputsRunning ∧ x.endSlew.ppsOut = x.ppsOut ∧
    x.endSlew.auxOut = x.auxOut := by
  simp [Timescale.endSlew]

@[simp] theorem Timescale.discardCommitted_keeps (x : Timescale) :
    x.discardCommitted.now = x.now ∧ x.discardCommitted.boundaryIndex = x.boundaryIndex ∧
    x.discardCommitted.lastBoundary = x.lastBoundary ∧ x.discardCommitted.phi = x.phi ∧
    x.discardCommitted.fInForce = x.fInForce ∧ x.discardCommitted.trim = x.trim ∧
    x.discardCommitted.osc = x.osc ∧ x.discardCommitted.windowGap = x.windowGap ∧
    x.discardCommitted.freqCycle = x.freqCycle ∧ x.discardCommitted.fSet = x.fSet ∧
    x.discardCommitted.slot = x.slot ∧ x.discardCommitted.nextBoundary = x.nextBoundary ∧
    x.discardCommitted.phiNext = x.phiNext ∧ x.discardCommitted.outputsRunning = x.outputsRunning ∧
    x.discardCommitted.ppsOut = x.ppsOut ∧ x.discardCommitted.auxOut = x.auxOut := by
  unfold Timescale.discardCommitted
  repeat' split
  all_goals simp

@[simp] theorem refreshOutputs_time (s : State) :
    (refreshOutputs s).tsg.now = s.tsg.now ∧ (refreshOutputs s).tsg.boundaryIndex = s.tsg.boundaryIndex ∧
    (refreshOutputs s).tsg.lastBoundary = s.tsg.lastBoundary ∧ (refreshOutputs s).tsg.phi = s.tsg.phi ∧
    (refreshOutputs s).tsg.fInForce = s.tsg.fInForce ∧ (refreshOutputs s).tsg.trim = s.tsg.trim ∧
    (refreshOutputs s).tsg.osc = s.tsg.osc ∧ (refreshOutputs s).tsg.windowGap = s.tsg.windowGap ∧
    (refreshOutputs s).tsg.freqCycle = s.tsg.freqCycle := by
  unfold refreshOutputs
  try dsimp only
  repeat' split
  all_goals simp

@[simp] theorem boundaryOutputs_time (s : State) :
    (boundaryOutputs s).tsg.now = s.tsg.now ∧ (boundaryOutputs s).tsg.boundaryIndex = s.tsg.boundaryIndex ∧
    (boundaryOutputs s).tsg.lastBoundary = s.tsg.lastBoundary ∧ (boundaryOutputs s).tsg.phi = s.tsg.phi ∧
    (boundaryOutputs s).tsg.fInForce = s.tsg.fInForce ∧ (boundaryOutputs s).tsg.trim = s.tsg.trim ∧
    (boundaryOutputs s).tsg.osc = s.tsg.osc ∧ (boundaryOutputs s).tsg.windowGap = s.tsg.windowGap ∧
    (boundaryOutputs s).tsg.freqCycle = s.tsg.freqCycle := by
  unfold boundaryOutputs
  try dsimp only
  repeat' split
  all_goals simp

@[simp] theorem endPulse_time (s : State) :
    (endPulse s).tsg.now = s.tsg.now ∧ (endPulse s).tsg.boundaryIndex = s.tsg.boundaryIndex ∧
    (endPulse s).tsg.lastBoundary = s.tsg.lastBoundary ∧ (endPulse s).tsg.phi = s.tsg.phi ∧
    (endPulse s).tsg.fInForce = s.tsg.fInForce ∧ (endPulse s).tsg.trim = s.tsg.trim ∧
    (endPulse s).tsg.osc = s.tsg.osc ∧ (endPulse s).tsg.windowGap = s.tsg.windowGap ∧
    (endPulse s).tsg.freqCycle = s.tsg.freqCycle := by
  unfold endPulse
  try dsimp only
  repeat' split
  all_goals simp

@[simp] theorem commitDue_time (s : State) :
    (commitDue s).tsg.now = s.tsg.now ∧ (commitDue s).tsg.boundaryIndex = s.tsg.boundaryIndex ∧
    (commitDue s).tsg.lastBoundary = s.tsg.lastBoundary ∧ (commitDue s).tsg.phi = s.tsg.phi ∧
    (commitDue s).tsg.fInForce = s.tsg.fInForce ∧ (commitDue s).tsg.trim = s.tsg.trim ∧
    (commitDue s).tsg.osc = s.tsg.osc ∧ (commitDue s).tsg.windowGap = s.tsg.windowGap ∧
    (commitDue s).tsg.freqCycle = s.tsg.freqCycle := by
  unfold commitDue
  try dsimp only
  repeat' split
  all_goals simp

@[simp] theorem takeCommitted_time (r : AdjustRecord) (s : State) :
    (takeCommitted r s).tsg.now = s.tsg.now ∧ (takeCommitted r s).tsg.boundaryIndex = s.tsg.boundaryIndex ∧
    (takeCommitted r s).tsg.lastBoundary = s.tsg.lastBoundary ∧ (takeCommitted r s).tsg.phi = s.tsg.phi ∧
    (takeCommitted r s).tsg.fInForce = s.tsg.fInForce ∧ (takeCommitted r s).tsg.trim = s.tsg.trim ∧
    (takeCommitted r s).tsg.osc = s.tsg.osc ∧ (takeCommitted r s).tsg.windowGap = s.tsg.windowGap ∧
    (takeCommitted r s).tsg.freqCycle = s.tsg.freqCycle := by
  unfold takeCommitted
  try dsimp only
  all_goals simp

@[simp] theorem requestStep_time (y : Int) (s : State) :
    (requestStep y s).tsg.now = s.tsg.now ∧ (requestStep y s).tsg.boundaryIndex = s.tsg.boundaryIndex ∧
    (requestStep y s).tsg.lastBoundary = s.tsg.lastBoundary ∧ (requestStep y s).tsg.phi = s.tsg.phi ∧
    (requestStep y s).tsg.fInForce = s.tsg.fInForce ∧ (requestStep y s).tsg.trim = s.tsg.trim ∧
    (requestStep y s).tsg.osc = s.tsg.osc ∧ (requestStep y s).tsg.windowGap = s.tsg.windowGap ∧
    (requestStep y s).tsg.freqCycle = s.tsg.freqCycle := by
  unfold requestStep
  try dsimp only
  repeat' split
  all_goals simp

@[simp] theorem acceptAdjust_time (k : AdjustKind) (a : Int) (d : Nat) (st : Stamp) (s : State) :
    (acceptAdjust k a d st s).tsg.now = s.tsg.now ∧
    (acceptAdjust k a d st s).tsg.boundaryIndex = s.tsg.boundaryIndex ∧
    (acceptAdjust k a d st s).tsg.lastBoundary = s.tsg.lastBoundary ∧
    (acceptAdjust k a d st s).tsg.phi = s.tsg.phi ∧ (acceptAdjust k a d st s).tsg.fInForce = s.tsg.fInForce ∧
    (acceptAdjust k a d st s).tsg.trim = s.tsg.trim ∧ (acceptAdjust k a d st s).tsg.osc = s.tsg.osc ∧
    (acceptAdjust k a d st s).tsg.windowGap = s.tsg.windowGap ∧
    (acceptAdjust k a d st s).tsg.freqCycle = s.tsg.freqCycle := by
  unfold acceptAdjust
  try dsimp only
  repeat' split
  all_goals simp

@[simp] theorem abortSlot_time (s : State) :
    (abortSlot s).tsg.now = s.tsg.now ∧ (abortSlot s).tsg.boundaryIndex = s.tsg.boundaryIndex ∧
    (abortSlot s).tsg.lastBoundary = s.tsg.lastBoundary ∧ (abortSlot s).tsg.phi = s.tsg.phi ∧
    (abortSlot s).tsg.fInForce = s.tsg.fInForce ∧ (abortSlot s).tsg.trim = s.tsg.trim ∧
    (abortSlot s).tsg.osc = s.tsg.osc ∧ (abortSlot s).tsg.windowGap = s.tsg.windowGap ∧
    (abortSlot s).tsg.freqCycle = s.tsg.freqCycle := by
  unfold abortSlot
  try dsimp only
  repeat' split
  all_goals simp

@[simp] theorem exhaustionTest_time (s : State) :
    (exhaustionTest s).tsg.now = s.tsg.now ∧ (exhaustionTest s).tsg.boundaryIndex = s.tsg.boundaryIndex ∧
    (exhaustionTest s).tsg.lastBoundary = s.tsg.lastBoundary ∧ (exhaustionTest s).tsg.phi = s.tsg.phi ∧
    (exhaustionTest s).tsg.fInForce = s.tsg.fInForce ∧ (exhaustionTest s).tsg.trim = s.tsg.trim ∧
    (exhaustionTest s).tsg.osc = s.tsg.osc ∧ (exhaustionTest s).tsg.windowGap = s.tsg.windowGap ∧
    (exhaustionTest s).tsg.freqCycle = s.tsg.freqCycle := by
  unfold exhaustionTest
  try dsimp only
  repeat' split
  all_goals simp

@[simp] theorem setF_time (f : Int) (s : State) :
    (setF f s).tsg.now = s.tsg.now ∧ (setF f s).tsg.boundaryIndex = s.tsg.boundaryIndex ∧
    (setF f s).tsg.lastBoundary = s.tsg.lastBoundary ∧ (setF f s).tsg.phi = s.tsg.phi ∧
    (setF f s).tsg.fInForce = s.tsg.fInForce ∧ (setF f s).tsg.trim = s.tsg.trim ∧
    (setF f s).tsg.osc = s.tsg.osc ∧ (setF f s).tsg.windowGap = s.tsg.windowGap ∧
    (setF f s).tsg.freqCycle = s.tsg.freqCycle := by
  unfold setF
  try dsimp only
  all_goals simp

@[simp] theorem predict_time (s : State) :
    (predict s).tsg.now = s.tsg.now ∧ (predict s).tsg.boundaryIndex = s.tsg.boundaryIndex ∧
    (predict s).tsg.lastBoundary = s.tsg.lastBoundary ∧ (predict s).tsg.phi = s.tsg.phi ∧
    (predict s).tsg.fInForce = s.tsg.fInForce ∧ (predict s).tsg.trim = s.tsg.trim ∧
    (predict s).tsg.osc = s.tsg.osc ∧ (predict s).tsg.windowGap = s.tsg.windowGap ∧
    (predict s).tsg.freqCycle = s.tsg.freqCycle := by
  unfold predict
  try dsimp only
  repeat' split
  all_goals simp

@[simp] theorem loopUpdate_time (y : Int) (p t : Nat) (s : State) :
    (loopUpdate y p t s).tsg.now = s.tsg.now ∧ (loopUpdate y p t s).tsg.boundaryIndex = s.tsg.boundaryIndex ∧
    (loopUpdate y p t s).tsg.lastBoundary = s.tsg.lastBoundary ∧ (loopUpdate y p t s).tsg.phi = s.tsg.phi ∧
    (loopUpdate y p t s).tsg.fInForce = s.tsg.fInForce ∧ (loopUpdate y p t s).tsg.trim = s.tsg.trim ∧
    (loopUpdate y p t s).tsg.osc = s.tsg.osc ∧ (loopUpdate y p t s).tsg.windowGap = s.tsg.windowGap ∧
    (loopUpdate y p t s).tsg.freqCycle = s.tsg.freqCycle := by
  unfold loopUpdate
  try dsimp only
  all_goals simp

@[simp] theorem announce_time (e : EngineState) (s : State) :
    (announce e s).tsg.now = s.tsg.now ∧ (announce e s).tsg.boundaryIndex = s.tsg.boundaryIndex ∧
    (announce e s).tsg.lastBoundary = s.tsg.lastBoundary ∧ (announce e s).tsg.phi = s.tsg.phi ∧
    (announce e s).tsg.fInForce = s.tsg.fInForce ∧ (announce e s).tsg.trim = s.tsg.trim ∧
    (announce e s).tsg.osc = s.tsg.osc ∧ (announce e s).tsg.windowGap = s.tsg.windowGap ∧
    (announce e s).tsg.freqCycle = s.tsg.freqCycle := by
  unfold announce
  try dsimp only
  repeat' split
  all_goals simp

@[simp] theorem lockAchieved_time (s : State) :
    (lockAchieved s).tsg.now = s.tsg.now ∧ (lockAchieved s).tsg.boundaryIndex = s.tsg.boundaryIndex ∧
    (lockAchieved s).tsg.lastBoundary = s.tsg.lastBoundary ∧ (lockAchieved s).tsg.phi = s.tsg.phi ∧
    (lockAchieved s).tsg.fInForce = s.tsg.fInForce ∧ (lockAchieved s).tsg.trim = s.tsg.trim ∧
    (lockAchieved s).tsg.osc = s.tsg.osc ∧ (lockAchieved s).tsg.windowGap = s.tsg.windowGap ∧
    (lockAchieved s).tsg.freqCycle = s.tsg.freqCycle := by
  unfold lockAchieved
  try dsimp only
  repeat' split
  all_goals simp

@[simp] theorem acquireInput_time (y : Int) (p : Nat) (s : State) :
    (acquireInput y p s).tsg.now = s.tsg.now ∧ (acquireInput y p s).tsg.boundaryIndex = s.tsg.boundaryIndex ∧
    (acquireInput y p s).tsg.lastBoundary = s.tsg.lastBoundary ∧ (acquireInput y p s).tsg.phi = s.tsg.phi ∧
    (acquireInput y p s).tsg.fInForce = s.tsg.fInForce ∧ (acquireInput y p s).tsg.trim = s.tsg.trim ∧
    (acquireInput y p s).tsg.osc = s.tsg.osc ∧ (acquireInput y p s).tsg.windowGap = s.tsg.windowGap ∧
    (acquireInput y p s).tsg.freqCycle = s.tsg.freqCycle := by
  unfold acquireInput
  try dsimp only
  repeat' split
  all_goals simp

@[simp] theorem setIntegralF_time (s : State) :
    (setIntegralF s).tsg.now = s.tsg.now ∧ (setIntegralF s).tsg.boundaryIndex = s.tsg.boundaryIndex ∧
    (setIntegralF s).tsg.lastBoundary = s.tsg.lastBoundary ∧ (setIntegralF s).tsg.phi = s.tsg.phi ∧
    (setIntegralF s).tsg.fInForce = s.tsg.fInForce ∧ (setIntegralF s).tsg.trim = s.tsg.trim ∧
    (setIntegralF s).tsg.osc = s.tsg.osc ∧ (setIntegralF s).tsg.windowGap = s.tsg.windowGap ∧
    (setIntegralF s).tsg.freqCycle = s.tsg.freqCycle := by
  unfold setIntegralF
  try dsimp only
  all_goals simp

@[simp] theorem enterAcquireReference_time (s : State) :
    (enterAcquireReference s).tsg.now = s.tsg.now ∧
    (enterAcquireReference s).tsg.boundaryIndex = s.tsg.boundaryIndex ∧
    (enterAcquireReference s).tsg.lastBoundary = s.tsg.lastBoundary ∧
    (enterAcquireReference s).tsg.phi = s.tsg.phi ∧ (enterAcquireReference s).tsg.fInForce = s.tsg.fInForce ∧
    (enterAcquireReference s).tsg.trim = s.tsg.trim ∧ (enterAcquireReference s).tsg.osc = s.tsg.osc ∧
    (enterAcquireReference s).tsg.windowGap = s.tsg.windowGap ∧
    (enterAcquireReference s).tsg.freqCycle = s.tsg.freqCycle := by
  simp [enterAcquireReference, enterState]

@[simp] theorem enterAcquireTier_time (t : Tier) (c : Consensus) (s : State) :
    (enterAcquireTier t c s).tsg.now = s.tsg.now ∧
    (enterAcquireTier t c s).tsg.boundaryIndex = s.tsg.boundaryIndex ∧
    (enterAcquireTier t c s).tsg.lastBoundary = s.tsg.lastBoundary ∧
    (enterAcquireTier t c s).tsg.phi = s.tsg.phi ∧ (enterAcquireTier t c s).tsg.fInForce = s.tsg.fInForce ∧
    (enterAcquireTier t c s).tsg.trim = s.tsg.trim ∧ (enterAcquireTier t c s).tsg.osc = s.tsg.osc ∧
    (enterAcquireTier t c s).tsg.windowGap = s.tsg.windowGap ∧
    (enterAcquireTier t c s).tsg.freqCycle = s.tsg.freqCycle := by
  simp [enterAcquireTier, enterState]

@[simp] theorem enterFollow_time (t : Tier) (c : Consensus) (s : State) :
    (enterFollow t c s).tsg.now = s.tsg.now ∧ (enterFollow t c s).tsg.boundaryIndex = s.tsg.boundaryIndex ∧
    (enterFollow t c s).tsg.lastBoundary = s.tsg.lastBoundary ∧ (enterFollow t c s).tsg.phi = s.tsg.phi ∧
    (enterFollow t c s).tsg.fInForce = s.tsg.fInForce ∧ (enterFollow t c s).tsg.trim = s.tsg.trim ∧
    (enterFollow t c s).tsg.osc = s.tsg.osc ∧ (enterFollow t c s).tsg.windowGap = s.tsg.windowGap ∧
    (enterFollow t c s).tsg.freqCycle = s.tsg.freqCycle := by
  simp [enterFollow, enterState]

@[simp] theorem enterHoldover_time (s : State) :
    (enterHoldover s).tsg.now = s.tsg.now ∧ (enterHoldover s).tsg.boundaryIndex = s.tsg.boundaryIndex ∧
    (enterHoldover s).tsg.lastBoundary = s.tsg.lastBoundary ∧ (enterHoldover s).tsg.phi = s.tsg.phi ∧
    (enterHoldover s).tsg.fInForce = s.tsg.fInForce ∧ (enterHoldover s).tsg.trim = s.tsg.trim ∧
    (enterHoldover s).tsg.osc = s.tsg.osc ∧ (enterHoldover s).tsg.windowGap = s.tsg.windowGap ∧
    (enterHoldover s).tsg.freqCycle = s.tsg.freqCycle := by
  simp [enterHoldover, enterState]

@[simp] theorem enterFreerun_time (s : State) :
    (enterFreerun s).tsg.now = s.tsg.now ∧ (enterFreerun s).tsg.boundaryIndex = s.tsg.boundaryIndex ∧
    (enterFreerun s).tsg.lastBoundary = s.tsg.lastBoundary ∧ (enterFreerun s).tsg.phi = s.tsg.phi ∧
    (enterFreerun s).tsg.fInForce = s.tsg.fInForce ∧ (enterFreerun s).tsg.trim = s.tsg.trim ∧
    (enterFreerun s).tsg.osc = s.tsg.osc ∧ (enterFreerun s).tsg.windowGap = s.tsg.windowGap ∧
    (enterFreerun s).tsg.freqCycle = s.tsg.freqCycle := by
  simp [enterFreerun, enterState]

@[simp] theorem trackInput_time (y : Int) (p t : Nat) (s : State) :
    (trackInput y p t s).tsg.now = s.tsg.now ∧ (trackInput y p t s).tsg.boundaryIndex = s.tsg.boundaryIndex ∧
    (trackInput y p t s).tsg.lastBoundary = s.tsg.lastBoundary ∧ (trackInput y p t s).tsg.phi = s.tsg.phi ∧
    (trackInput y p t s).tsg.fInForce = s.tsg.fInForce ∧ (trackInput y p t s).tsg.trim = s.tsg.trim ∧
    (trackInput y p t s).tsg.osc = s.tsg.osc ∧ (trackInput y p t s).tsg.windowGap = s.tsg.windowGap ∧
    (trackInput y p t s).tsg.freqCycle = s.tsg.freqCycle := by
  unfold trackInput
  dsimp only
  repeat' split
  all_goals simp [enterState]

@[simp] theorem applySelection_time (s : State) :
    (applySelection s).tsg.now = s.tsg.now ∧ (applySelection s).tsg.boundaryIndex = s.tsg.boundaryIndex ∧
    (applySelection s).tsg.lastBoundary = s.tsg.lastBoundary ∧ (applySelection s).tsg.phi = s.tsg.phi ∧
    (applySelection s).tsg.fInForce = s.tsg.fInForce ∧ (applySelection s).tsg.trim = s.tsg.trim ∧
    (applySelection s).tsg.osc = s.tsg.osc ∧ (applySelection s).tsg.windowGap = s.tsg.windowGap ∧
    (applySelection s).tsg.freqCycle = s.tsg.freqCycle := by
  unfold applySelection
  try dsimp only
  repeat' split
  all_goals simp

@[simp] theorem selectSource_time (s : State) :
    (selectSource s).tsg.now = s.tsg.now ∧ (selectSource s).tsg.boundaryIndex = s.tsg.boundaryIndex ∧
    (selectSource s).tsg.lastBoundary = s.tsg.lastBoundary ∧ (selectSource s).tsg.phi = s.tsg.phi ∧
    (selectSource s).tsg.fInForce = s.tsg.fInForce ∧ (selectSource s).tsg.trim = s.tsg.trim ∧
    (selectSource s).tsg.osc = s.tsg.osc ∧ (selectSource s).tsg.windowGap = s.tsg.windowGap ∧
    (selectSource s).tsg.freqCycle = s.tsg.freqCycle := by
  unfold selectSource
  try dsimp only
  repeat' split
  all_goals simp

@[simp] theorem takeObservation_time (y : Int) (s : State) :
    (takeObservation y s).tsg.now = s.tsg.now ∧ (takeObservation y s).tsg.boundaryIndex = s.tsg.boundaryIndex ∧
    (takeObservation y s).tsg.lastBoundary = s.tsg.lastBoundary ∧ (takeObservation y s).tsg.phi = s.tsg.phi ∧
    (takeObservation y s).tsg.fInForce = s.tsg.fInForce ∧ (takeObservation y s).tsg.trim = s.tsg.trim ∧
    (takeObservation y s).tsg.osc = s.tsg.osc ∧ (takeObservation y s).tsg.windowGap = s.tsg.windowGap ∧
    (takeObservation y s).tsg.freqCycle = s.tsg.freqCycle := by
  unfold takeObservation
  try dsimp only
  repeat' split
  all_goals simp

@[simp] theorem consensusInput_time (s : State) :
    (consensusInput s).tsg.now = s.tsg.now ∧ (consensusInput s).tsg.boundaryIndex = s.tsg.boundaryIndex ∧
    (consensusInput s).tsg.lastBoundary = s.tsg.lastBoundary ∧ (consensusInput s).tsg.phi = s.tsg.phi ∧
    (consensusInput s).tsg.fInForce = s.tsg.fInForce ∧ (consensusInput s).tsg.trim = s.tsg.trim ∧
    (consensusInput s).tsg.osc = s.tsg.osc ∧ (consensusInput s).tsg.windowGap = s.tsg.windowGap ∧
    (consensusInput s).tsg.freqCycle = s.tsg.freqCycle := by
  unfold consensusInput
  try dsimp only
  repeat' split
  all_goals simp

@[simp] theorem takeNudge_time (s : State) :
    (takeNudge s).tsg.now = s.tsg.now ∧ (takeNudge s).tsg.boundaryIndex = s.tsg.boundaryIndex ∧
    (takeNudge s).tsg.lastBoundary = s.tsg.lastBoundary ∧ (takeNudge s).tsg.phi = s.tsg.phi ∧
    (takeNudge s).tsg.fInForce = s.tsg.fInForce ∧ (takeNudge s).tsg.trim = s.tsg.trim ∧
    (takeNudge s).tsg.osc = s.tsg.osc ∧ (takeNudge s).tsg.windowGap = s.tsg.windowGap ∧
    (takeNudge s).tsg.freqCycle = s.tsg.freqCycle := by
  unfold takeNudge
  try dsimp only
  repeat' split
  all_goals simp

@[simp] theorem takePoint_time (s : State) :
    (takePoint s).1.tsg.now = s.tsg.now ∧ (takePoint s).1.tsg.boundaryIndex = s.tsg.boundaryIndex ∧
    (takePoint s).1.tsg.lastBoundary = s.tsg.lastBoundary ∧ (takePoint s).1.tsg.phi = s.tsg.phi ∧
    (takePoint s).1.tsg.fInForce = s.tsg.fInForce ∧ (takePoint s).1.tsg.trim = s.tsg.trim ∧
    (takePoint s).1.tsg.osc = s.tsg.osc ∧ (takePoint s).1.tsg.windowGap = s.tsg.windowGap ∧
    (takePoint s).1.tsg.freqCycle = s.tsg.freqCycle := by
  unfold takePoint
  try dsimp only
  repeat' split
  all_goals simp

@[simp] theorem enterFault_time (s : State) :
    (enterFault s).tsg.now = s.tsg.now ∧ (enterFault s).tsg.boundaryIndex = s.tsg.boundaryIndex ∧
    (enterFault s).tsg.lastBoundary = s.tsg.lastBoundary ∧ (enterFault s).tsg.phi = s.tsg.phi ∧
    (enterFault s).tsg.fInForce = s.tsg.fInForce ∧ (enterFault s).tsg.trim = s.tsg.trim ∧
    (enterFault s).tsg.osc = s.tsg.osc ∧ (enterFault s).tsg.windowGap = s.tsg.windowGap ∧
    (enterFault s).tsg.freqCycle = s.tsg.freqCycle := by
  unfold enterFault
  try dsimp only
  repeat' split
  all_goals simp

@[simp] theorem reportLoss_time (s : State) :
    (reportLoss s).tsg.now = s.tsg.now ∧ (reportLoss s).tsg.boundaryIndex = s.tsg.boundaryIndex ∧
    (reportLoss s).tsg.lastBoundary = s.tsg.lastBoundary ∧ (reportLoss s).tsg.phi = s.tsg.phi ∧
    (reportLoss s).tsg.fInForce = s.tsg.fInForce ∧ (reportLoss s).tsg.trim = s.tsg.trim ∧
    (reportLoss s).tsg.osc = s.tsg.osc ∧ (reportLoss s).tsg.windowGap = s.tsg.windowGap ∧
    (reportLoss s).tsg.freqCycle = s.tsg.freqCycle := by
  unfold reportLoss
  try dsimp only
  all_goals simp

@[simp] theorem declareLoss_time (s : State) :
    (declareLoss s).tsg.now = s.tsg.now ∧ (declareLoss s).tsg.boundaryIndex = s.tsg.boundaryIndex ∧
    (declareLoss s).tsg.lastBoundary = s.tsg.lastBoundary ∧ (declareLoss s).tsg.phi = s.tsg.phi ∧
    (declareLoss s).tsg.fInForce = s.tsg.fInForce ∧ (declareLoss s).tsg.trim = s.tsg.trim ∧
    (declareLoss s).tsg.windowGap = s.tsg.windowGap ∧ (declareLoss s).tsg.freqCycle = s.tsg.freqCycle := by
  unfold declareLoss
  try dsimp only
  repeat' split
  all_goals simp

@[simp] theorem enterQual_time (q : Qualification) (s : State) :
    (enterQual q s).tsg.now = s.tsg.now ∧ (enterQual q s).tsg.boundaryIndex = s.tsg.boundaryIndex ∧
    (enterQual q s).tsg.lastBoundary = s.tsg.lastBoundary ∧ (enterQual q s).tsg.phi = s.tsg.phi ∧
    (enterQual q s).tsg.fInForce = s.tsg.fInForce ∧ (enterQual q s).tsg.trim = s.tsg.trim ∧
    (enterQual q s).tsg.osc = s.tsg.osc ∧ (enterQual q s).tsg.windowGap = s.tsg.windowGap ∧
    (enterQual q s).tsg.freqCycle = s.tsg.freqCycle := by
  unfold enterQual
  try dsimp only
  all_goals simp

@[simp] theorem orderDisqualification_time (s : State) :
    (orderDisqualification s).tsg.now = s.tsg.now ∧
    (orderDisqualification s).tsg.boundaryIndex = s.tsg.boundaryIndex ∧
    (orderDisqualification s).tsg.lastBoundary = s.tsg.lastBoundary ∧
    (orderDisqualification s).tsg.phi = s.tsg.phi ∧ (orderDisqualification s).tsg.fInForce = s.tsg.fInForce ∧
    (orderDisqualification s).tsg.trim = s.tsg.trim ∧ (orderDisqualification s).tsg.osc = s.tsg.osc ∧
    (orderDisqualification s).tsg.windowGap = s.tsg.windowGap ∧
    (orderDisqualification s).tsg.freqCycle = s.tsg.freqCycle := by
  unfold orderDisqualification
  try dsimp only
  repeat' split
  all_goals simp

@[simp] theorem residualFault_time (s : State) :
    (residualFault s).tsg.now = s.tsg.now ∧ (residualFault s).tsg.boundaryIndex = s.tsg.boundaryIndex ∧
    (residualFault s).tsg.lastBoundary = s.tsg.lastBoundary ∧ (residualFault s).tsg.phi = s.tsg.phi ∧
    (residualFault s).tsg.fInForce = s.tsg.fInForce ∧ (residualFault s).tsg.trim = s.tsg.trim ∧
    (residualFault s).tsg.osc = s.tsg.osc ∧ (residualFault s).tsg.windowGap = s.tsg.windowGap ∧
    (residualFault s).tsg.freqCycle = s.tsg.freqCycle := by
  unfold residualFault
  try dsimp only
  repeat' split
  all_goals simp

@[simp] theorem completeBlock_time (s : State) :
    (completeBlock s).tsg.now = s.tsg.now ∧ (completeBlock s).tsg.boundaryIndex = s.tsg.boundaryIndex ∧
    (completeBlock s).tsg.lastBoundary = s.tsg.lastBoundary ∧ (completeBlock s).tsg.phi = s.tsg.phi ∧
    (completeBlock s).tsg.fInForce = s.tsg.fInForce ∧ (completeBlock s).tsg.trim = s.tsg.trim ∧
    (completeBlock s).tsg.osc = s.tsg.osc ∧ (completeBlock s).tsg.windowGap = s.tsg.windowGap ∧
    (completeBlock s).tsg.freqCycle = s.tsg.freqCycle := by
  unfold completeBlock
  try dsimp only
  repeat' split
  all_goals simp

@[simp] theorem addToBlock_time (m : Int) (tag : Second) (s : State) :
    (addToBlock m tag s).tsg.now = s.tsg.now ∧ (addToBlock m tag s).tsg.boundaryIndex = s.tsg.boundaryIndex ∧
    (addToBlock m tag s).tsg.lastBoundary = s.tsg.lastBoundary ∧ (addToBlock m tag s).tsg.phi = s.tsg.phi ∧
    (addToBlock m tag s).tsg.fInForce = s.tsg.fInForce ∧ (addToBlock m tag s).tsg.trim = s.tsg.trim ∧
    (addToBlock m tag s).tsg.osc = s.tsg.osc ∧ (addToBlock m tag s).tsg.windowGap = s.tsg.windowGap ∧
    (addToBlock m tag s).tsg.freqCycle = s.tsg.freqCycle := by
  unfold addToBlock
  try dsimp only
  repeat' split
  all_goals simp

@[simp] theorem checkMeasurement_time (m : Int) (tag : Second) (s : State) :
    (checkMeasurement m tag s).tsg.now = s.tsg.now ∧
    (checkMeasurement m tag s).tsg.boundaryIndex = s.tsg.boundaryIndex ∧
    (checkMeasurement m tag s).tsg.lastBoundary = s.tsg.lastBoundary ∧
    (checkMeasurement m tag s).tsg.phi = s.tsg.phi ∧ (checkMeasurement m tag s).tsg.fInForce = s.tsg.fInForce ∧
    (checkMeasurement m tag s).tsg.trim = s.tsg.trim ∧ (checkMeasurement m tag s).tsg.osc = s.tsg.osc ∧
    (checkMeasurement m tag s).tsg.windowGap = s.tsg.windowGap ∧
    (checkMeasurement m tag s).tsg.freqCycle = s.tsg.freqCycle := by
  unfold checkMeasurement
  try dsimp only
  repeat' split
  all_goals simp

@[simp] theorem measure_time (p b : Instant) (tag : Second) (s : State) :
    (measure p b tag s).tsg.now = s.tsg.now ∧ (measure p b tag s).tsg.boundaryIndex = s.tsg.boundaryIndex ∧
    (measure p b tag s).tsg.lastBoundary = s.tsg.lastBoundary ∧ (measure p b tag s).tsg.phi = s.tsg.phi ∧
    (measure p b tag s).tsg.fInForce = s.tsg.fInForce ∧ (measure p b tag s).tsg.trim = s.tsg.trim ∧
    (measure p b tag s).tsg.osc = s.tsg.osc ∧ (measure p b tag s).tsg.windowGap = s.tsg.windowGap ∧
    (measure p b tag s).tsg.freqCycle = s.tsg.freqCycle := by
  unfold measure
  try dsimp only
  all_goals simp

@[simp] theorem takePulse_time (t : Instant) (s : State) :
    (takePulse t s).tsg.now = s.tsg.now ∧ (takePulse t s).tsg.boundaryIndex = s.tsg.boundaryIndex ∧
    (takePulse t s).tsg.lastBoundary = s.tsg.lastBoundary ∧ (takePulse t s).tsg.phi = s.tsg.phi ∧
    (takePulse t s).tsg.fInForce = s.tsg.fInForce ∧ (takePulse t s).tsg.trim = s.tsg.trim ∧
    (takePulse t s).tsg.osc = s.tsg.osc ∧ (takePulse t s).tsg.windowGap = s.tsg.windowGap ∧
    (takePulse t s).tsg.freqCycle = s.tsg.freqCycle := by
  unfold takePulse
  try dsimp only
  repeat' split
  all_goals simp

@[simp] theorem missingPulse_time (s : State) :
    (missingPulse s).tsg.boundaryIndex = s.tsg.boundaryIndex ∧
    (missingPulse s).tsg.lastBoundary = s.tsg.lastBoundary ∧ (missingPulse s).tsg.phi = s.tsg.phi ∧
    (missingPulse s).tsg.fInForce = s.tsg.fInForce ∧ (missingPulse s).tsg.trim = s.tsg.trim ∧
    (missingPulse s).tsg.osc = s.tsg.osc ∧ (missingPulse s).tsg.windowGap = s.tsg.windowGap ∧
    (missingPulse s).tsg.freqCycle = s.tsg.freqCycle := by
  unfold missingPulse
  try dsimp only
  repeat' split
  all_goals simp

@[simp] theorem measureHeld_time (s : State) :
    (measureHeld s).tsg.now = s.tsg.now ∧ (measureHeld s).tsg.boundaryIndex = s.tsg.boundaryIndex ∧
    (measureHeld s).tsg.lastBoundary = s.tsg.lastBoundary ∧ (measureHeld s).tsg.phi = s.tsg.phi ∧
    (measureHeld s).tsg.fInForce = s.tsg.fInForce ∧ (measureHeld s).tsg.trim = s.tsg.trim ∧
    (measureHeld s).tsg.osc = s.tsg.osc ∧ (measureHeld s).tsg.windowGap = s.tsg.windowGap ∧
    (measureHeld s).tsg.freqCycle = s.tsg.freqCycle := by
  unfold measureHeld
  try dsimp only
  repeat' split
  all_goals simp

@[simp] theorem countDown_time (s : State) :
    (countDown s).tsg.now = s.tsg.now ∧ (countDown s).tsg.boundaryIndex = s.tsg.boundaryIndex ∧
    (countDown s).tsg.lastBoundary = s.tsg.lastBoundary ∧ (countDown s).tsg.phi = s.tsg.phi ∧
    (countDown s).tsg.fInForce = s.tsg.fInForce ∧ (countDown s).tsg.trim = s.tsg.trim ∧
    (countDown s).tsg.osc = s.tsg.osc ∧ (countDown s).tsg.windowGap = s.tsg.windowGap ∧
    (countDown s).tsg.freqCycle = s.tsg.freqCycle := by
  unfold countDown
  try dsimp only
  repeat' split
  all_goals simp

@[simp] theorem monitorBoundary_time (b : Bool) (s : State) :
    (monitorBoundary b s).tsg.now = s.tsg.now ∧ (monitorBoundary b s).tsg.boundaryIndex = s.tsg.boundaryIndex ∧
    (monitorBoundary b s).tsg.lastBoundary = s.tsg.lastBoundary ∧ (monitorBoundary b s).tsg.phi = s.tsg.phi ∧
    (monitorBoundary b s).tsg.fInForce = s.tsg.fInForce ∧ (monitorBoundary b s).tsg.trim = s.tsg.trim ∧
    (monitorBoundary b s).tsg.osc = s.tsg.osc ∧ (monitorBoundary b s).tsg.windowGap = s.tsg.windowGap ∧
    (monitorBoundary b s).tsg.freqCycle = s.tsg.freqCycle := by
  unfold monitorBoundary
  try dsimp only
  repeat' split
  all_goals simp

@[simp] theorem takeStaleBlock_time (s : State) :
    (takeStaleBlock s).tsg.now = s.tsg.now ∧ (takeStaleBlock s).tsg.boundaryIndex = s.tsg.boundaryIndex ∧
    (takeStaleBlock s).tsg.lastBoundary = s.tsg.lastBoundary ∧ (takeStaleBlock s).tsg.phi = s.tsg.phi ∧
    (takeStaleBlock s).tsg.fInForce = s.tsg.fInForce ∧ (takeStaleBlock s).tsg.trim = s.tsg.trim ∧
    (takeStaleBlock s).tsg.osc = s.tsg.osc ∧ (takeStaleBlock s).tsg.windowGap = s.tsg.windowGap ∧
    (takeStaleBlock s).tsg.freqCycle = s.tsg.freqCycle := by
  unfold takeStaleBlock
  try dsimp only
  all_goals simp

@[simp] theorem takeQualification_time (s : State) :
    (takeQualification s).tsg.now = s.tsg.now ∧ (takeQualification s).tsg.boundaryIndex = s.tsg.boundaryIndex ∧
    (takeQualification s).tsg.lastBoundary = s.tsg.lastBoundary ∧ (takeQualification s).tsg.phi = s.tsg.phi ∧
    (takeQualification s).tsg.fInForce = s.tsg.fInForce ∧ (takeQualification s).tsg.trim = s.tsg.trim ∧
    (takeQualification s).tsg.osc = s.tsg.osc ∧ (takeQualification s).tsg.windowGap = s.tsg.windowGap ∧
    (takeQualification s).tsg.freqCycle = s.tsg.freqCycle := by
  unfold takeQualification
  try dsimp only
  all_goals simp

@[simp] theorem takeHoldoff_time (s : State) :
    (takeHoldoff s).tsg.now = s.tsg.now ∧ (takeHoldoff s).tsg.boundaryIndex = s.tsg.boundaryIndex ∧
    (takeHoldoff s).tsg.lastBoundary = s.tsg.lastBoundary ∧ (takeHoldoff s).tsg.phi = s.tsg.phi ∧
    (takeHoldoff s).tsg.fInForce = s.tsg.fInForce ∧ (takeHoldoff s).tsg.trim = s.tsg.trim ∧
    (takeHoldoff s).tsg.osc = s.tsg.osc ∧ (takeHoldoff s).tsg.windowGap = s.tsg.windowGap ∧
    (takeHoldoff s).tsg.freqCycle = s.tsg.freqCycle := by
  unfold takeHoldoff
  try dsimp only
  repeat' split
  all_goals simp

@[simp] theorem observationPoint_time (s : State) :
    (observationPoint s).tsg.now = s.tsg.now ∧ (observationPoint s).tsg.boundaryIndex = s.tsg.boundaryIndex ∧
    (observationPoint s).tsg.lastBoundary = s.tsg.lastBoundary ∧ (observationPoint s).tsg.phi = s.tsg.phi ∧
    (observationPoint s).tsg.fInForce = s.tsg.fInForce ∧ (observationPoint s).tsg.trim = s.tsg.trim ∧
    (observationPoint s).tsg.osc = s.tsg.osc ∧ (observationPoint s).tsg.windowGap = s.tsg.windowGap ∧
    (observationPoint s).tsg.freqCycle = s.tsg.freqCycle := by
  unfold observationPoint
  try dsimp only
  repeat' split
  all_goals simp

@[simp] theorem pointDue_time (s : State) :
    (pointDue s).tsg.now = s.tsg.now ∧ (pointDue s).tsg.boundaryIndex = s.tsg.boundaryIndex ∧
    (pointDue s).tsg.lastBoundary = s.tsg.lastBoundary ∧ (pointDue s).tsg.phi = s.tsg.phi ∧
    (pointDue s).tsg.fInForce = s.tsg.fInForce ∧ (pointDue s).tsg.trim = s.tsg.trim ∧
    (pointDue s).tsg.osc = s.tsg.osc ∧ (pointDue s).tsg.windowGap = s.tsg.windowGap ∧
    (pointDue s).tsg.freqCycle = s.tsg.freqCycle := by
  unfold pointDue
  try dsimp only
  repeat' split
  all_goals simp

@[simp] theorem afterQuarantine_time (s : State) :
    (afterQuarantine s).tsg.now = s.tsg.now ∧ (afterQuarantine s).tsg.boundaryIndex = s.tsg.boundaryIndex ∧
    (afterQuarantine s).tsg.lastBoundary = s.tsg.lastBoundary ∧ (afterQuarantine s).tsg.phi = s.tsg.phi ∧
    (afterQuarantine s).tsg.fInForce = s.tsg.fInForce ∧ (afterQuarantine s).tsg.trim = s.tsg.trim ∧
    (afterQuarantine s).tsg.osc = s.tsg.osc ∧ (afterQuarantine s).tsg.windowGap = s.tsg.windowGap ∧
    (afterQuarantine s).tsg.freqCycle = s.tsg.freqCycle := by
  unfold afterQuarantine
  try dsimp only
  repeat' split
  all_goals simp

@[simp] theorem countQuarantine_time (s : State) :
    (countQuarantine s).tsg.now = s.tsg.now ∧ (countQuarantine s).tsg.boundaryIndex = s.tsg.boundaryIndex ∧
    (countQuarantine s).tsg.lastBoundary = s.tsg.lastBoundary ∧ (countQuarantine s).tsg.phi = s.tsg.phi ∧
    (countQuarantine s).tsg.fInForce = s.tsg.fInForce ∧ (countQuarantine s).tsg.trim = s.tsg.trim ∧
    (countQuarantine s).tsg.osc = s.tsg.osc ∧ (countQuarantine s).tsg.windowGap = s.tsg.windowGap ∧
    (countQuarantine s).tsg.freqCycle = s.tsg.freqCycle := by
  unfold countQuarantine
  try dsimp only
  all_goals simp

@[simp] theorem afterExpiry_time (s : State) :
    (afterExpiry s).tsg.now = s.tsg.now ∧ (afterExpiry s).tsg.boundaryIndex = s.tsg.boundaryIndex ∧
    (afterExpiry s).tsg.lastBoundary = s.tsg.lastBoundary ∧ (afterExpiry s).tsg.phi = s.tsg.phi ∧
    (afterExpiry s).tsg.fInForce = s.tsg.fInForce ∧ (afterExpiry s).tsg.trim = s.tsg.trim ∧
    (afterExpiry s).tsg.osc = s.tsg.osc ∧ (afterExpiry s).tsg.windowGap = s.tsg.windowGap ∧
    (afterExpiry s).tsg.freqCycle = s.tsg.freqCycle := by
  unfold afterExpiry
  try dsimp only
  repeat' split
  all_goals simp

@[simp] theorem peersBoundary_time (n : Option Int) (s : State) :
    (peersBoundary n s).tsg.now = s.tsg.now ∧ (peersBoundary n s).tsg.boundaryIndex = s.tsg.boundaryIndex ∧
    (peersBoundary n s).tsg.lastBoundary = s.tsg.lastBoundary ∧ (peersBoundary n s).tsg.phi = s.tsg.phi ∧
    (peersBoundary n s).tsg.fInForce = s.tsg.fInForce ∧ (peersBoundary n s).tsg.trim = s.tsg.trim ∧
    (peersBoundary n s).tsg.osc = s.tsg.osc ∧ (peersBoundary n s).tsg.windowGap = s.tsg.windowGap ∧
    (peersBoundary n s).tsg.freqCycle = s.tsg.freqCycle := by
  unfold peersBoundary
  try dsimp only
  repeat' split
  all_goals simp

@[simp] theorem latch_time (s : State) :
    (latch s).tsg.now = s.tsg.now ∧ (latch s).tsg.boundaryIndex = s.tsg.boundaryIndex ∧
    (latch s).tsg.lastBoundary = s.tsg.lastBoundary ∧ (latch s).tsg.phi = s.tsg.phi ∧
    (latch s).tsg.trim = s.tsg.trim ∧ (latch s).tsg.osc = s.tsg.osc ∧
    (latch s).tsg.windowGap = s.tsg.windowGap ∧ (latch s).tsg.freqCycle = s.tsg.freqCycle := by
  unfold latch
  try dsimp only
  all_goals simp

@[simp] theorem engineBoundary_time (s : State) :
    (engineBoundary s).tsg.now = s.tsg.now ∧ (engineBoundary s).tsg.boundaryIndex = s.tsg.boundaryIndex ∧
    (engineBoundary s).tsg.lastBoundary = s.tsg.lastBoundary ∧ (engineBoundary s).tsg.phi = s.tsg.phi ∧
    (engineBoundary s).tsg.fInForce = s.tsg.fInForce ∧ (engineBoundary s).tsg.trim = s.tsg.trim ∧
    (engineBoundary s).tsg.osc = s.tsg.osc ∧ (engineBoundary s).tsg.windowGap = s.tsg.windowGap ∧
    (engineBoundary s).tsg.freqCycle = s.tsg.freqCycle := by
  unfold engineBoundary
  try dsimp only
  repeat' split
  all_goals simp

@[simp] theorem takeSteerLimit_time (s : State) :
    (takeSteerLimit s).tsg.now = s.tsg.now ∧ (takeSteerLimit s).tsg.boundaryIndex = s.tsg.boundaryIndex ∧
    (takeSteerLimit s).tsg.lastBoundary = s.tsg.lastBoundary ∧ (takeSteerLimit s).tsg.phi = s.tsg.phi ∧
    (takeSteerLimit s).tsg.fInForce = s.tsg.fInForce ∧ (takeSteerLimit s).tsg.trim = s.tsg.trim ∧
    (takeSteerLimit s).tsg.osc = s.tsg.osc ∧ (takeSteerLimit s).tsg.windowGap = s.tsg.windowGap ∧
    (takeSteerLimit s).tsg.freqCycle = s.tsg.freqCycle := by
  unfold takeSteerLimit
  try dsimp only
  all_goals simp

@[simp] theorem settleSteer_time (s : State) :
    (settleSteer s).tsg.now = s.tsg.now ∧ (settleSteer s).tsg.boundaryIndex = s.tsg.boundaryIndex ∧
    (settleSteer s).tsg.lastBoundary = s.tsg.lastBoundary ∧ (settleSteer s).tsg.phi = s.tsg.phi ∧
    (settleSteer s).tsg.fInForce = s.tsg.fInForce ∧ (settleSteer s).tsg.trim = s.tsg.trim ∧
    (settleSteer s).tsg.osc = s.tsg.osc ∧ (settleSteer s).tsg.windowGap = s.tsg.windowGap ∧
    (settleSteer s).tsg.freqCycle = s.tsg.freqCycle := by
  unfold settleSteer
  try dsimp only
  repeat' split
  all_goals simp

@[simp] theorem takeExpiry_time (s : State) :
    (takeExpiry s).tsg.now = s.tsg.now ∧ (takeExpiry s).tsg.boundaryIndex = s.tsg.boundaryIndex ∧
    (takeExpiry s).tsg.lastBoundary = s.tsg.lastBoundary ∧ (takeExpiry s).tsg.phi = s.tsg.phi ∧
    (takeExpiry s).tsg.fInForce = s.tsg.fInForce ∧ (takeExpiry s).tsg.trim = s.tsg.trim ∧
    (takeExpiry s).tsg.osc = s.tsg.osc ∧ (takeExpiry s).tsg.windowGap = s.tsg.windowGap ∧
    (takeExpiry s).tsg.freqCycle = s.tsg.freqCycle := by
  unfold takeExpiry
  try dsimp only
  repeat' split
  all_goals simp

@[simp] theorem settleMonitor_time (s : State) :
    (settleMonitor s).tsg.now = s.tsg.now ∧ (settleMonitor s).tsg.boundaryIndex = s.tsg.boundaryIndex ∧
    (settleMonitor s).tsg.lastBoundary = s.tsg.lastBoundary ∧ (settleMonitor s).tsg.phi = s.tsg.phi ∧
    (settleMonitor s).tsg.fInForce = s.tsg.fInForce ∧ (settleMonitor s).tsg.trim = s.tsg.trim ∧
    (settleMonitor s).tsg.osc = s.tsg.osc ∧ (settleMonitor s).tsg.windowGap = s.tsg.windowGap ∧
    (settleMonitor s).tsg.freqCycle = s.tsg.freqCycle := by
  unfold settleMonitor
  try dsimp only
  repeat' split
  all_goals simp

@[simp] theorem settlePeers_time (s : State) :
    (settlePeers s).tsg.now = s.tsg.now ∧ (settlePeers s).tsg.boundaryIndex = s.tsg.boundaryIndex ∧
    (settlePeers s).tsg.lastBoundary = s.tsg.lastBoundary ∧ (settlePeers s).tsg.phi = s.tsg.phi ∧
    (settlePeers s).tsg.fInForce = s.tsg.fInForce ∧ (settlePeers s).tsg.trim = s.tsg.trim ∧
    (settlePeers s).tsg.osc = s.tsg.osc ∧ (settlePeers s).tsg.windowGap = s.tsg.windowGap ∧
    (settlePeers s).tsg.freqCycle = s.tsg.freqCycle := by
  unfold settlePeers
  try dsimp only
  repeat' split
  all_goals simp

@[simp] theorem settle_time (s : State) :
    (settle s).tsg.now = s.tsg.now ∧ (settle s).tsg.boundaryIndex = s.tsg.boundaryIndex ∧
    (settle s).tsg.lastBoundary = s.tsg.lastBoundary ∧ (settle s).tsg.phi = s.tsg.phi ∧
    (settle s).tsg.fInForce = s.tsg.fInForce ∧ (settle s).tsg.trim = s.tsg.trim ∧
    (settle s).tsg.osc = s.tsg.osc ∧ (settle s).tsg.windowGap = s.tsg.windowGap ∧
    (settle s).tsg.freqCycle = s.tsg.freqCycle := by
  unfold settle
  try dsimp only
  repeat' split
  all_goals simp

@[simp] theorem loadConfiguration_time (b : Bool) (s : State) :
    (loadConfiguration b s).tsg.now = s.tsg.now ∧
    (loadConfiguration b s).tsg.boundaryIndex = s.tsg.boundaryIndex ∧
    (loadConfiguration b s).tsg.lastBoundary = s.tsg.lastBoundary ∧
    (loadConfiguration b s).tsg.phi = s.tsg.phi ∧ (loadConfiguration b s).tsg.fInForce = s.tsg.fInForce ∧
    (loadConfiguration b s).tsg.trim = s.tsg.trim ∧ (loadConfiguration b s).tsg.osc = s.tsg.osc ∧
    (loadConfiguration b s).tsg.windowGap = s.tsg.windowGap ∧
    (loadConfiguration b s).tsg.freqCycle = s.tsg.freqCycle := by
  unfold loadConfiguration
  try dsimp only
  repeat' split
  all_goals simp

@[simp] theorem endLoad_time (s : State) :
    (endLoad s).tsg.now = s.tsg.now ∧ (endLoad s).tsg.boundaryIndex = s.tsg.boundaryIndex ∧
    (endLoad s).tsg.lastBoundary = s.tsg.lastBoundary ∧ (endLoad s).tsg.phi = s.tsg.phi ∧
    (endLoad s).tsg.fInForce = s.tsg.fInForce ∧ (endLoad s).tsg.trim = s.tsg.trim ∧
    (endLoad s).tsg.osc = s.tsg.osc ∧ (endLoad s).tsg.windowGap = s.tsg.windowGap ∧
    (endLoad s).tsg.freqCycle = s.tsg.freqCycle := by
  unfold endLoad
  try dsimp only
  repeat' split
  all_goals simp

@[simp] theorem loadLearning_time (b : Bool) (s : State) :
    (loadLearning b s).tsg.now = s.tsg.now ∧ (loadLearning b s).tsg.boundaryIndex = s.tsg.boundaryIndex ∧
    (loadLearning b s).tsg.lastBoundary = s.tsg.lastBoundary ∧ (loadLearning b s).tsg.phi = s.tsg.phi ∧
    (loadLearning b s).tsg.fInForce = s.tsg.fInForce ∧ (loadLearning b s).tsg.trim = s.tsg.trim ∧
    (loadLearning b s).tsg.osc = s.tsg.osc ∧ (loadLearning b s).tsg.windowGap = s.tsg.windowGap ∧
    (loadLearning b s).tsg.freqCycle = s.tsg.freqCycle := by
  unfold loadLearning
  try dsimp only
  all_goals simp

@[simp] theorem changePower_time (b : Bool) (s : State) :
    (changePower b s).tsg.now = s.tsg.now ∧ (changePower b s).tsg.boundaryIndex = s.tsg.boundaryIndex ∧
    (changePower b s).tsg.lastBoundary = s.tsg.lastBoundary ∧ (changePower b s).tsg.phi = s.tsg.phi ∧
    (changePower b s).tsg.fInForce = s.tsg.fInForce ∧ (changePower b s).tsg.trim = s.tsg.trim ∧
    (changePower b s).tsg.osc = s.tsg.osc ∧ (changePower b s).tsg.windowGap = s.tsg.windowGap ∧
    (changePower b s).tsg.freqCycle = s.tsg.freqCycle := by
  unfold changePower
  try dsimp only
  repeat' split
  all_goals simp

@[simp] theorem sitePwrEdge_time (t : Instant) (b : Bool) (s : State) :
    (sitePwrEdge t b s).tsg.boundaryIndex = s.tsg.boundaryIndex ∧
    (sitePwrEdge t b s).tsg.lastBoundary = s.tsg.lastBoundary ∧ (sitePwrEdge t b s).tsg.phi = s.tsg.phi ∧
    (sitePwrEdge t b s).tsg.fInForce = s.tsg.fInForce ∧ (sitePwrEdge t b s).tsg.trim = s.tsg.trim ∧
    (sitePwrEdge t b s).tsg.osc = s.tsg.osc ∧ (sitePwrEdge t b s).tsg.windowGap = s.tsg.windowGap ∧
    (sitePwrEdge t b s).tsg.freqCycle = s.tsg.freqCycle := by
  unfold sitePwrEdge
  try dsimp only
  repeat' split
  all_goals simp

@[simp] theorem startAttempt_time (t : Instant) (u : BusTimes) (s : State) :
    (startAttempt t u s).tsg.boundaryIndex = s.tsg.boundaryIndex ∧
    (startAttempt t u s).tsg.lastBoundary = s.tsg.lastBoundary ∧ (startAttempt t u s).tsg.phi = s.tsg.phi ∧
    (startAttempt t u s).tsg.fInForce = s.tsg.fInForce ∧ (startAttempt t u s).tsg.trim = s.tsg.trim ∧
    (startAttempt t u s).tsg.osc = s.tsg.osc ∧ (startAttempt t u s).tsg.windowGap = s.tsg.windowGap ∧
    (startAttempt t u s).tsg.freqCycle = s.tsg.freqCycle := by
  unfold startAttempt
  try dsimp only
  repeat' split
  all_goals simp

@[simp] theorem completeAttempt_time (t : Instant) (s : State) :
    (completeAttempt t s).tsg.boundaryIndex = s.tsg.boundaryIndex ∧
    (completeAttempt t s).tsg.lastBoundary = s.tsg.lastBoundary ∧ (completeAttempt t s).tsg.phi = s.tsg.phi ∧
    (completeAttempt t s).tsg.fInForce = s.tsg.fInForce ∧ (completeAttempt t s).tsg.trim = s.tsg.trim ∧
    (completeAttempt t s).tsg.osc = s.tsg.osc ∧ (completeAttempt t s).tsg.windowGap = s.tsg.windowGap ∧
    (completeAttempt t s).tsg.freqCycle = s.tsg.freqCycle := by
  unfold completeAttempt
  try dsimp only
  repeat' split
  all_goals simp

@[simp] theorem loseArbitration_time (t : Instant) (s : State) :
    (loseArbitration t s).tsg.boundaryIndex = s.tsg.boundaryIndex ∧
    (loseArbitration t s).tsg.lastBoundary = s.tsg.lastBoundary ∧ (loseArbitration t s).tsg.phi = s.tsg.phi ∧
    (loseArbitration t s).tsg.fInForce = s.tsg.fInForce ∧ (loseArbitration t s).tsg.trim = s.tsg.trim ∧
    (loseArbitration t s).tsg.osc = s.tsg.osc ∧ (loseArbitration t s).tsg.windowGap = s.tsg.windowGap ∧
    (loseArbitration t s).tsg.freqCycle = s.tsg.freqCycle := by
  unfold loseArbitration
  try dsimp only
  repeat' split
  all_goals simp

@[simp] theorem failAttempt_time (t : Instant) (k : BusError) (b : Bool) (s : State) :
    (failAttempt t k b s).tsg.boundaryIndex = s.tsg.boundaryIndex ∧
    (failAttempt t k b s).tsg.lastBoundary = s.tsg.lastBoundary ∧ (failAttempt t k b s).tsg.phi = s.tsg.phi ∧
    (failAttempt t k b s).tsg.fInForce = s.tsg.fInForce ∧ (failAttempt t k b s).tsg.trim = s.tsg.trim ∧
    (failAttempt t k b s).tsg.osc = s.tsg.osc ∧ (failAttempt t k b s).tsg.windowGap = s.tsg.windowGap ∧
    (failAttempt t k b s).tsg.freqCycle = s.tsg.freqCycle := by
  unfold failAttempt
  try dsimp only
  repeat' split
  all_goals simp

@[simp] theorem failReception_time (t : Instant) (s : State) :
    (failReception t s).tsg.boundaryIndex = s.tsg.boundaryIndex ∧
    (failReception t s).tsg.lastBoundary = s.tsg.lastBoundary ∧ (failReception t s).tsg.phi = s.tsg.phi ∧
    (failReception t s).tsg.fInForce = s.tsg.fInForce ∧ (failReception t s).tsg.trim = s.tsg.trim ∧
    (failReception t s).tsg.osc = s.tsg.osc ∧ (failReception t s).tsg.windowGap = s.tsg.windowGap ∧
    (failReception t s).tsg.freqCycle = s.tsg.freqCycle := by
  unfold failReception
  try dsimp only
  repeat' split
  all_goals simp

@[simp] theorem markDeadline_time (s : State) :
    (markDeadline s).tsg.boundaryIndex = s.tsg.boundaryIndex ∧
    (markDeadline s).tsg.lastBoundary = s.tsg.lastBoundary ∧ (markDeadline s).tsg.phi = s.tsg.phi ∧
    (markDeadline s).tsg.fInForce = s.tsg.fInForce ∧ (markDeadline s).tsg.trim = s.tsg.trim ∧
    (markDeadline s).tsg.osc = s.tsg.osc ∧ (markDeadline s).tsg.windowGap = s.tsg.windowGap ∧
    (markDeadline s).tsg.freqCycle = s.tsg.freqCycle := by
  unfold markDeadline
  try dsimp only
  repeat' split
  all_goals simp

@[simp] theorem followDeadline_time (s : State) :
    (followDeadline s).tsg.boundaryIndex = s.tsg.boundaryIndex ∧
    (followDeadline s).tsg.lastBoundary = s.tsg.lastBoundary ∧ (followDeadline s).tsg.phi = s.tsg.phi ∧
    (followDeadline s).tsg.fInForce = s.tsg.fInForce ∧ (followDeadline s).tsg.trim = s.tsg.trim ∧
    (followDeadline s).tsg.osc = s.tsg.osc ∧ (followDeadline s).tsg.windowGap = s.tsg.windowGap ∧
    (followDeadline s).tsg.freqCycle = s.tsg.freqCycle := by
  unfold followDeadline
  try dsimp only
  repeat' split
  all_goals simp

@[simp] theorem pageDeadline_time (i : Fin 2) (s : State) :
    (pageDeadline i s).tsg.boundaryIndex = s.tsg.boundaryIndex ∧
    (pageDeadline i s).tsg.lastBoundary = s.tsg.lastBoundary ∧ (pageDeadline i s).tsg.phi = s.tsg.phi ∧
    (pageDeadline i s).tsg.fInForce = s.tsg.fInForce ∧ (pageDeadline i s).tsg.trim = s.tsg.trim ∧
    (pageDeadline i s).tsg.osc = s.tsg.osc ∧ (pageDeadline i s).tsg.windowGap = s.tsg.windowGap ∧
    (pageDeadline i s).tsg.freqCycle = s.tsg.freqCycle := by
  unfold pageDeadline
  try dsimp only
  repeat' split
  all_goals simp

@[simp] theorem markFallsDue_time (s : State) :
    (markFallsDue s).tsg.boundaryIndex = s.tsg.boundaryIndex ∧
    (markFallsDue s).tsg.lastBoundary = s.tsg.lastBoundary ∧ (markFallsDue s).tsg.phi = s.tsg.phi ∧
    (markFallsDue s).tsg.fInForce = s.tsg.fInForce ∧ (markFallsDue s).tsg.trim = s.tsg.trim ∧
    (markFallsDue s).tsg.osc = s.tsg.osc ∧ (markFallsDue s).tsg.windowGap = s.tsg.windowGap ∧
    (markFallsDue s).tsg.freqCycle = s.tsg.freqCycle := by
  unfold markFallsDue
  try dsimp only
  repeat' split
  all_goals simp

@[simp] theorem statusFallsDue_time (s : State) :
    (statusFallsDue s).tsg.boundaryIndex = s.tsg.boundaryIndex ∧
    (statusFallsDue s).tsg.lastBoundary = s.tsg.lastBoundary ∧ (statusFallsDue s).tsg.phi = s.tsg.phi ∧
    (statusFallsDue s).tsg.fInForce = s.tsg.fInForce ∧ (statusFallsDue s).tsg.trim = s.tsg.trim ∧
    (statusFallsDue s).tsg.osc = s.tsg.osc ∧ (statusFallsDue s).tsg.windowGap = s.tsg.windowGap ∧
    (statusFallsDue s).tsg.freqCycle = s.tsg.freqCycle := by
  unfold statusFallsDue
  try dsimp only
  repeat' split
  all_goals simp

@[simp] theorem commandAdjust_time (k : AdjustKind) (c : CommandFrame) (st : Stamp) (s : State) :
    (commandAdjust k c st s).tsg.now = s.tsg.now ∧
    (commandAdjust k c st s).tsg.boundaryIndex = s.tsg.boundaryIndex ∧
    (commandAdjust k c st s).tsg.lastBoundary = s.tsg.lastBoundary ∧
    (commandAdjust k c st s).tsg.phi = s.tsg.phi ∧ (commandAdjust k c st s).tsg.fInForce = s.tsg.fInForce ∧
    (commandAdjust k c st s).tsg.trim = s.tsg.trim ∧ (commandAdjust k c st s).tsg.osc = s.tsg.osc ∧
    (commandAdjust k c st s).tsg.windowGap = s.tsg.windowGap ∧
    (commandAdjust k c st s).tsg.freqCycle = s.tsg.freqCycle := by
  unfold commandAdjust
  try dsimp only
  repeat' split
  all_goals simp

@[simp] theorem setInhibit_time (b : Bool) (s : State) :
    (setInhibit b s).tsg.now = s.tsg.now ∧ (setInhibit b s).tsg.boundaryIndex = s.tsg.boundaryIndex ∧
    (setInhibit b s).tsg.lastBoundary = s.tsg.lastBoundary ∧ (setInhibit b s).tsg.phi = s.tsg.phi ∧
    (setInhibit b s).tsg.fInForce = s.tsg.fInForce ∧ (setInhibit b s).tsg.trim = s.tsg.trim ∧
    (setInhibit b s).tsg.osc = s.tsg.osc ∧ (setInhibit b s).tsg.windowGap = s.tsg.windowGap ∧
    (setInhibit b s).tsg.freqCycle = s.tsg.freqCycle := by
  unfold setInhibit
  try dsimp only
  all_goals simp

@[simp] theorem restartEngine_time (s : State) :
    (restartEngine s).tsg.now = s.tsg.now ∧ (restartEngine s).tsg.boundaryIndex = s.tsg.boundaryIndex ∧
    (restartEngine s).tsg.lastBoundary = s.tsg.lastBoundary ∧ (restartEngine s).tsg.phi = s.tsg.phi ∧
    (restartEngine s).tsg.fInForce = s.tsg.fInForce ∧ (restartEngine s).tsg.trim = s.tsg.trim ∧
    (restartEngine s).tsg.osc = s.tsg.osc ∧ (restartEngine s).tsg.windowGap = s.tsg.windowGap ∧
    (restartEngine s).tsg.freqCycle = s.tsg.freqCycle := by
  unfold restartEngine
  dsimp only
  split <;> simp [enterState]

@[simp] theorem restart_time (s : State) :
    (restart s).tsg.now = s.tsg.now ∧ (restart s).tsg.boundaryIndex = s.tsg.boundaryIndex ∧
    (restart s).tsg.lastBoundary = s.tsg.lastBoundary ∧ (restart s).tsg.phi = s.tsg.phi ∧
    (restart s).tsg.fInForce = s.tsg.fInForce ∧ (restart s).tsg.trim = s.tsg.trim ∧
    (restart s).tsg.osc = s.tsg.osc ∧ (restart s).tsg.windowGap = s.tsg.windowGap ∧
    (restart s).tsg.freqCycle = s.tsg.freqCycle := by
  unfold restart
  try dsimp only
  all_goals simp

@[simp] theorem runCommand_time (n : Nat) (c : CommandFrame) (st : Stamp) (s : State) :
    (runCommand n c st s).tsg.now = s.tsg.now ∧ (runCommand n c st s).tsg.boundaryIndex = s.tsg.boundaryIndex ∧
    (runCommand n c st s).tsg.lastBoundary = s.tsg.lastBoundary ∧ (runCommand n c st s).tsg.phi = s.tsg.phi ∧
    (runCommand n c st s).tsg.fInForce = s.tsg.fInForce ∧ (runCommand n c st s).tsg.trim = s.tsg.trim ∧
    (runCommand n c st s).tsg.osc = s.tsg.osc ∧ (runCommand n c st s).tsg.windowGap = s.tsg.windowGap ∧
    (runCommand n c st s).tsg.freqCycle = s.tsg.freqCycle := by
  unfold runCommand
  repeat' split
  all_goals (first | simp | (unfold withMask; split <;> simp))

@[simp] theorem handleCommand_time (n : BitVec 8) (c : CommandFrame) (st : Stamp) (s : State) :
    (handleCommand n c st s).tsg.now = s.tsg.now ∧
    (handleCommand n c st s).tsg.boundaryIndex = s.tsg.boundaryIndex ∧
    (handleCommand n c st s).tsg.lastBoundary = s.tsg.lastBoundary ∧
    (handleCommand n c st s).tsg.phi = s.tsg.phi ∧ (handleCommand n c st s).tsg.fInForce = s.tsg.fInForce ∧
    (handleCommand n c st s).tsg.trim = s.tsg.trim ∧ (handleCommand n c st s).tsg.osc = s.tsg.osc ∧
    (handleCommand n c st s).tsg.windowGap = s.tsg.windowGap ∧
    (handleCommand n c st s).tsg.freqCycle = s.tsg.freqCycle := by
  unfold handleCommand
  try dsimp only
  repeat' split
  all_goals simp

@[simp] theorem handOver_time (h : Heard) (st : Stamp) (s : State) :
    (handOver h st s).tsg.now = s.tsg.now ∧ (handOver h st s).tsg.boundaryIndex = s.tsg.boundaryIndex ∧
    (handOver h st s).tsg.lastBoundary = s.tsg.lastBoundary ∧ (handOver h st s).tsg.phi = s.tsg.phi ∧
    (handOver h st s).tsg.fInForce = s.tsg.fInForce ∧ (handOver h st s).tsg.trim = s.tsg.trim ∧
    (handOver h st s).tsg.osc = s.tsg.osc ∧ (handOver h st s).tsg.windowGap = s.tsg.windowGap ∧
    (handOver h st s).tsg.freqCycle = s.tsg.freqCycle := by
  unfold handOver
  try dsimp only
  repeat' split
  all_goals simp

@[simp] theorem receive_time (t : Instant) (h : Heard) (s : State) :
    (receive t h s).tsg.boundaryIndex = s.tsg.boundaryIndex ∧
    (receive t h s).tsg.lastBoundary = s.tsg.lastBoundary ∧ (receive t h s).tsg.phi = s.tsg.phi ∧
    (receive t h s).tsg.fInForce = s.tsg.fInForce ∧ (receive t h s).tsg.trim = s.tsg.trim ∧
    (receive t h s).tsg.osc = s.tsg.osc ∧ (receive t h s).tsg.windowGap = s.tsg.windowGap ∧
    (receive t h s).tsg.freqCycle = s.tsg.freqCycle := by
  unfold receive
  try dsimp only
  repeat' split
  all_goals simp

end Sys2Proof.Machine
end

