-- ==== Sys2Proof/Tests/Slice0.lean ====
section
/-! SUPPORT. Tests: ill-formed commands that the checks refuse, one or two small steps for each command with results
taken from the manual's worked examples (their section is named) or by hand from its rules, and for each statement with
hypotheses a state that meets them. -/

set_option Elab.async false

namespace Sys2Proof.Tests

open Sys2Proof Sys2Proof.Machine

/-! ### Helpers -/

/-- The state after one command. -/
def after (i : Instr) (s : State) : State :=
  match exec i s with
  | .next t => t
  | _ => s

/-- A running part of address 2 at the instant boundary `k` was taken, after LOAD, on the bus, in FREERUN. -/
def base (k : Nat) : State :=
  { State.reset with
    pwr := { Power.reset with
      opened := true, state := .runNormal, stage := .done, address := 1, sitePwr := true, filtered := true }
    tsg := { Timescale.reset with
      boundaryIndex := k, lastBoundary := k * 1000000000, now := k * 1000000000
      nextBoundary := (k + 1) * 1000000000 }
    eng := { Engine.reset with state := .freerun }
    bus := { Bus.reset with joined := true } }

/-- A start of frame timestamped 400 ms into the second of `base k`. -/
def stampOf (k : Nat) : Stamp := ⟨k % 4294967296, 400000000, k * 1000000000⟩

/-- A frame with that start is on the bus. -/
def hearing (s : State) : State := s.withBus { s.bus with seen := some (stampOf s.tsg.boundaryIndex) }

/-- The end of that frame's reception. -/
def atEnd (k : Nat) : Instant := k * 1000000000 + 400300000

/-- A COMMAND to every station. -/
def toAll (byte3 : BitVec 7) (argument : BitVec 32) : CommandFrame := ⟨0xFFFF, byte3, argument⟩

/-- The part tracks a QUALIFIED reference, with a last residual window of verdicts IN. -/
def locked (k : Nat) : State :=
  let s := base k
  (s.withMon { s.mon with qual := .qualified, prediction := some 12, window := List.replicate 16 false }).withEng
    { s.eng with state := .locked, source := some .reference, lastY := some 0 }

/-- An engine record in a given state on a given source. -/
def inState (st : EngineState) (src : Option Source) (s : State) : State :=
  s.withEng { s.eng with state := st, source := src }

/-- A part that has just opened second 0 with strap value 5. -/
def opened : State := after (.openSecond0 10000 5 false) State.reset

/-- A consensus of one contributor at a lead. -/
def lead (v : Int) : Consensus := ⟨v, 0, 1, 16, 35⟩

/-- A peer entry with a lead, last heard in second `k`. -/
def peer (st : PeerState) (v : Int) (k : Second) : PeerEntry :=
  { state := st, lf16 := some (16 * v), cls := .ref, u := 35, stepSeen := 1, slewing := false, run := 4, window := []
    stepTimes := [], quarantine := 0, lastHeard := k }

/-- A FOLLOW from a peer in class REF with step count 1. -/
def follow (seq : BitVec 8) (tx : BitVec 30) : FollowData := ⟨seq, .ref, tx, 1, false, 35⟩

/-- An attempt for a slot, with its frame still there. -/
def attemptOf (k : SlotKind) (snap : Option Snapshot) (s : State) : Attempt :=
  { slot := k, inSlot := true, expired := false, drive := s.stamp s.tsg.now, snapshot := snap, frame := markRaw 1 9 }

/-! ### Ill-formed commands -/

theorem test_wf_remote_frame_with_data :
    (Instr.frameReceived 0 ⟨true, false, 33, [1]⟩).wellFormed = false := by decide

theorem test_wf_nine_bytes :
    (Instr.frameReceived 0 ⟨false, false, 33, List.replicate 9 0⟩).wellFormed = false := by decide

theorem test_wf_task_twice : (Instr.ownBoundary [.latch, .peers, .latch]).wellFormed = false := by decide

theorem test_wf_edge_seen_before_driven : (Instr.transmitAttemptStart 100 ⟨90, 99⟩).wellFormed = false ∧
    (Instr.transmitAttemptStart 100 ⟨101, 102⟩).wellFormed = false := by decide

theorem test_wf_edge_on_a_busy_bus : (Instr.startOfFrameEdgeSeen ⟨101, 100⟩).wellFormed = false := by decide

theorem test_wf_stuff_error_in_data_field : (Instr.transmitError 0 .stuff true).wellFormed = false := by decide

theorem test_wf_receiver_acknowledgement_error : (Instr.receiveError 0 .acknowledgement).wellFormed = false := by decide

theorem test_wf_listed_code : (Instr.invalidCommandCode 0 15 (toAll 0 0)).wellFormed = false := by decide

theorem test_wf_accepts : (Instr.invalidCommandCode 0 16 (toAll 0 0)).wellFormed = true ∧
    (Instr.ownBoundary [.latch, .peers]).wellFormed = true ∧
    (Instr.frameReceived 0 (markRaw 3 7)).wellFormed = true := by decide

/-! ### The table gives no bits -/

theorem test_decode_none : decodeTableWord 16 0x1234 = none ∧ decodeTableWord 0 0 = none := by decide

theorem test_fetch_word_leaves_state : State.reset.withFetchWord 8 1 = State.reset := by rfl

/-! ### Frames (section 12.4: the FOLLOW of station 5) -/

theorem test_follow_frame :
    followRaw 4 ⟨17, .follow, 120300000, 2, false, 255⟩ =
      ⟨false, false, 69, [17] ++ be32 1194041824 ++ be24 8388863⟩ := by decide

theorem test_follow_reads_back : readFrame ⟨false, false, 69, [17] ++ be32 1194041824 ++ be24 8388863⟩ =
    .follow 4 ⟨17, .follow, 120300000, 2, false, 255⟩ := by decide

/-! ### Supply, reset and LOAD -/

theorem test_supply_good : (after .supplyGood (after (.supplyLoss false) (base 5))).held = false ∧
    (after .supplyGood (after (.supplyLoss false) (base 5))).tsg = Timescale.reset := by decide

theorem test_supply_loss : (after (.supplyLoss false) (base 5)).running = false := by decide

theorem test_reset_n_short : after (.resetNAssert 999 false) (base 5) = base 5 := by decide +kernel

theorem test_reset_n_long : (after (.resetNAssert 1000 false) (base 5)).pwr.opened = false := by decide

theorem test_reset_n_release : (after .resetNRelease (after (.resetNAssert 1000 false) (base 5))).held = false := by
  decide

/- R167: strap value 5 is address 6. -/
theorem test_open_second_0 : opened.pwr.address.val + 1 = 6 ∧ opened.tsg.nextBoundary = 1000000000 := by decide

theorem test_open_second_0_bad_window :
    (after (.openSecond0 9899 5 false) State.reset).eng.state = .fault := by decide

/- Section 11.5's block: all defaults but a tau_ref of 1,000, put into use as 512, and the alert enables 32,768. -/
def configuration : List Byte :=
  let b : List Byte := [196, 23, 1] ++ be16 150 ++ be16 0 ++ [16, 16] ++ be16 1000 ++ be16 256 ++ be16 2048
    ++ be16 (BitVec.ofInt 16 (-500)) ++ be16 500 ++ [16, 4] ++ be16 120 ++ be16 300 ++ be24 1000 ++ be16 100 ++ be16 300
    ++ [8, 2, 10] ++ be16 900 ++ be16 50 ++ be16 20 ++ be24 10000 ++ be24 1000 ++ [4] ++ be16 100 ++ [1, 0]
    ++ be16 0x8000
  b ++ be16 (checkSum b)

/-- The part of section 11.5 with second 0 open. -/
def configured : State := opened.withEeprom (Memory.writeAll [] 0 configuration)

theorem test_configuration_read : (after (.configurationRead true) configured).cfg =
    { tauRef := 512, alertEnables := 0x8000 } := by decide +kernel

theorem test_configuration_defaulted : (after (.configurationRead true) configured).scu.raised = 0x8000 ∧
    (after (.configurationRead true) configured).alertLow = true := by decide +kernel

theorem test_learning_block_read :
    (after (.learningBlockRead true) (after (.configurationRead true) configured)).pwr.state = .runSave ∧
    (after (.learningBlockRead true) (after (.configurationRead true) configured)).eng.warmupLeft = 900 := by
  decide +kernel

theorem test_bus_join : (after .busJoin ((base 5).withBus Bus.reset)).bus.joined = true ∧
    (after .busJoin opened).bus.joined = false := by decide

theorem test_site_pwr_edge : (after (.sitePwrEdge 5000000100 false) (base 5)).pwr.filterDue = some 5100000100 := by
  decide

theorem test_site_pwr_filter_expiry :
    (after .sitePwrFilterExpiry (after (.sitePwrEdge 5000000100 false) (base 5))).pwr.state = .runSave := by
  decide +kernel

/-! ### The own boundary (section 1.7: F 200 ppt, slew of 250 ns at 100 ns a second) -/

/-- Section 1.7 in second 1,001, with +100 committed to boundary 1,002 and Φ at 200 ps. -/
def slewing : State :=
  let s := base 1001
  (inState .locked (some .reference) s).withTsg { s.tsg with
    phi := 200, phiNext := 100400, fSet := 200, fInForce := 200, stepCount := 1, nextBoundary := 1001999999900
    slot := some ⟨.command, .slew, 250, 250, 1002, false⟩, committed := some ⟨100, .command, .slew, true, false⟩ }

theorem test_boundary_slew_starts : (after (.ownBoundary []) slewing).tsg.trim = 100 ∧
    (after (.ownBoundary []) slewing).tsg.stepCount = 2 ∧
    (after (.ownBoundary []) slewing).tsg.slewing = true := by decide +kernel

theorem test_boundary_places_the_next : (after (.ownBoundary []) slewing).tsg.phiNext = 200600 ∧
    (after (.ownBoundary []) slewing).tsg.nextBoundary = 1003000000000 - 201 := by decide +kernel

/- R6: four steps in a second that is 4 ns short, the first after a quarter of it; then a retard of 30 ns. -/
theorem test_freq_out :
    let x := { (base 5).tsg with
      outputsRunning := true, freqSteps := 4, freqFrom := 5000000000, nextBoundary := 5999999996 }
    x.freqRises 5000000000 = true ∧ x.freqLevel 5000000050 = false ∧ x.freqRises 5249999999 = true ∧
      x.freqMadeBy 5999999996 = 4 ∧ { x with nextBoundary := 6000000026 }.freqLevel 6000000000 = false := by decide

theorem test_freq_cut_short : (after (.ownBoundary []) slewing).tsg.freqCycle = .cutShort 100 ∧
    (after (.ownBoundary []) slewing).tsg.freqLevel 1001999999900 = true := by decide +kernel

/-! ### Events due at a boundary -/

theorem test_stale_block :
    (after .staleBlock ((base 60).withMon { (base 60).mon with
      stage := .stale, qual := .candidate, blockCount := 3, blockSum := 17, blockOpen := some 30 })).mon.blockCount = 0 :=
  by decide +kernel

theorem test_qualification_timer_expiry :
    (after .qualificationTimerExpiry ((base 60).withMon { (base 60).mon with
      stage := .expiry, qual := .candidate, qualTimer := some 0 })).eng.state = .acquire := by decide +kernel

/- Section 3.8, boundary 20,400: pulses are present, so CANDIDATE with Q at 120. -/
theorem test_holdoff_expiry :
    (after .holdoffExpiry ((base 20400).withMon { (base 20400).mon with
      stage := .expiry, qual := .disqualified, holdoffTimer := some 0
      lastPulse := some ⟨20399000000100, 20399⟩ })).mon.qualTimer = some 120 := by decide +kernel

theorem test_peer_expiry :
    (after (.peerExpiry 2) ((base 60).withPtu { (base 60).ptu.setPeer 2 (some (peer .active 40 10)) with
      stage := .expiry })).ptu.peers[2] = none := by decide +kernel

theorem test_quarantine_end :
    ((after (.quarantineEnd 2) ((base 60).withPtu { (base 60).ptu.setPeer 2 (some (peer .quarantined 40 50)) with
      stage := .quarantine })).ptu.peers[2].map (·.state)) = some .learning := by decide +kernel

theorem test_steer_limit_reached :
    (after .steerLimitReached ((locked 60).withEng { (locked 60).eng with steerCount := 600 })).scu.raised =
      Flag.steerLimit.mask ||| Flag.sourceChange.mask := by decide +kernel

/-- The steer-limit counter at 599 and F at its limit, with a measurement held that is an observation. -/
def atLimit : State :=
  let s := (locked 60).withCfg { (locked 60).cfg with decimation := 1 }
  let s := s.withMon { s.mon with held := some ⟨60999999900, 61⟩ }
  (s.withEng { s.eng with steerCount := 599 }).withTsg { s.tsg with fSet := 2000000 }

/- R119, test first: the input is discarded in FAULT. Input first: the test sees the new F. -/
theorem test_steer_limit_and_input :
    (after (.ownBoundary [.engine]) atLimit).eng.state = .fault ∧
    (after (.ownBoundary [.engine]) atLimit).eng.integral = 0 ∧
    (after (.ownBoundary [.engine]) atLimit).tsg.fSet = 2000000 ∧
    (after (.ownBoundary [.monitor]) atLimit).eng.steerCount = 0 := by decide +kernel

/-- WARMUP with nothing remaining, and a selection's inputs. -/
def warm (q : Qualification) (t1 t2 : Option Consensus) (ring : List Int) : State :=
  let s := base 900
  ((s.withMon { s.mon with qual := q }).withPtu { s.ptu with tier1 := ⟨t1, none⟩, tier2 := ⟨t2, none⟩ }).withEng
    { Engine.reset with ring := ring }

theorem test_warmup_expiry : (after .warmupExpiry (warm .candidate none none [])).eng.state = .freerun ∧
    (after .warmupExpiry (warm .qualified none none [])).eng.state = .acquire := by decide +kernel

/- Section 9.4, sample 5: A becomes 12 ppt a day. -/
theorem test_aging_sample :
    (after .agingSample ((locked 1108000).withLrn { (locked 1108000).lrn with
      agingClock := 21600, aging := [⟨3200000, 1000000⟩, ⟨3209000, 1064800⟩] } |>.withEng
        { (locked 1108000).eng with ring := [3215000] })).lrn.rate = 12 := by decide +kernel

theorem test_bus_off_recovery :
    (after .busOffRecovery ((base 5).withBus { (base 5).bus with
      error := .busOff, transmitErrors := 256, recovery := 128 })).bus.transmitErrors = 0 := by decide +kernel

theorem test_recovery_count_rise :
    (after .recoveryCountRise ((base 5).withBus { (base 5).bus with error := .busOff, recovery := 7 })).bus.recovery = 8 :=
  by decide +kernel

/-! ### Timers and pins -/

theorem test_conversion_end :
    (after (.temperatureConversionEnd 5300000000 (some 90)) ((base 5).withLrn { (base 5).lrn with
      converting := true })).lrn.staleDue = 9300000000 := by decide +kernel

theorem test_conversion_out_of_range :
    (after (.temperatureConversionEnd 5300000000 (some 1001)) ((base 5).withLrn { (base 5).lrn with
      converting := true })).lrn.lastReading = none := by decide +kernel

theorem test_staleness : (after .stalenessTimerExpiry (base 5)).scu.raised = Flag.tempStale.mask := by decide +kernel

/- R63: address 2, M 2, so at 45 ms of an even second. -/
theorem test_mark_schedule : (after (.ownBoundary []) (locked 1001)).bus.markDue = some 1002045000000 ∧
    (after (.ownBoundary []) (locked 1000)).bus.markDue = none := by decide +kernel

theorem test_mark_due :
    (after .markDue ((locked 1002).withBus { (locked 1002).bus with markDue := some 1002045000000 })).bus.mark =
      some ⟨0, 1002345000000⟩ := by decide +kernel

theorem test_status_offer :
    ((after .statusPeriodicOffer ((base 1000).withBus { (base 1000).bus with statusDue := true })).bus.status0.map
      (·.length)) = some 8 := by decide +kernel

theorem test_pps_pulse_end :
    (after .ppsPulseEnd ((locked 5).withTsg { (locked 5).tsg with ppsOut := true })).tsg.now = 5100000000 := by
  decide +kernel

theorem test_osc_gap : (after (.oscGap 5200000000) (locked 5)).eng.state = .fault ∧
    (after (.oscGap 5200000000) (locked 5)).tsg.osc = .lost := by decide +kernel

theorem test_check_window : (after (.checkWindowEnd 5200000000 10100) (locked 5)).tsg.osc = .present ∧
    (after (.checkWindowEnd 5200000000 10101) (locked 5)).tsg.osc = .lost := by decide +kernel

/-! ### The reference (sections 2.6 and 3.8) -/

/-- Section 2.6 after the first pulse, in second `k`: D 4, cable delay 120, p 3. -/
def measuring (k : Nat) : State :=
  let s := (base k).withCfg { (base k).cfg with decimation := 4, cableDelay := 120 }
  s.withMon { s.mon with
    qual := .candidate, prediction := some 3, qualTimer := some 100, blockCount := 1, blockSum := 10
    blockOpen := some 5000, lastPulse := some ⟨5000000000110, 5000⟩, missingDue := some 5001100000110 }

theorem test_ref_pulse : (after (.refPulse 5001000000118) (measuring 5001)).mon.blockSum = 12 ∧
    (after (.refPulse 5001000000118) (measuring 5001)).mon.window = [false] := by decide +kernel

theorem test_ref_pulse_extra : (after (.refPulse 5000700000000) (measuring 5000)).mon.extraCount = 1 := by
  decide +kernel

/- Section 2.6: the pulse 2,600 ns before boundary 5,002 is held, and is OUT when the boundary falls. -/
theorem test_held_pulse :
    (after (.ownBoundary []) (after (.refPulse 5001999997400) (measuring 5001))).mon.window = [true] := by
  decide +kernel

/- Section 3.8, the pulse tagged 20,005: the fourth OUT freezes the ring with -32,767 in slot 3. -/
theorem test_residual_fault :
    let s := (locked 20005).withMon { (locked 20005).mon with
      window := List.replicate 11 false ++ [true, false, true, true, false]
      history := ⟨Vector.replicate 8 9, 8, 2, false⟩ }
    let t := after (.refPulse 20005000041188) s
    t.mon.qual = .disqualified ∧ t.mon.holdoffTimer = some 300 ∧ t.mon.history.slots[3] = -32767 ∧
      t.mon.history.frozen = true ∧ hasFlag t.scu.raised .refFault = true := by decide +kernel

/- R46: an order and the fourth OUT at one instant, order first; and an OUT 10 ns later, which finds the window
cleared. -/
theorem test_order_and_fault :
    let s := orderDisqualification ((locked 20005).withMon { (locked 20005).mon with
      window := [true, true, true], history := ⟨Vector.replicate 8 9, 8, 2, false⟩ })
    let s := s.withCfg { s.cfg with cableDelay := 600 }
    let t := after (.refPulse 20005000000000) s
    s.mon.qual = .disqualified ∧ s.mon.history.frozen = false ∧ t.mon.history.frozen = true ∧
      hasFlag t.scu.raised .refFault = true ∧ t.mon.holdoffTimer = some 300 ∧
      (after (.refPulse 20005000000010) s).mon.history.frozen = false := by decide +kernel

/- Section 7.12: the third missing pulse in a row loses the reference, and the engine follows tier 1. -/
theorem test_missing_pulse :
    let s := ((locked 90003).withMon { (locked 90003).mon with
      missingDue := some 90003100000000, consecutiveMissing := 2 }).withPtu
        { (locked 90003).ptu with tier1 := ⟨some (lead 12), some 90000⟩ }
    let t := after .missingPulseEvent (s.withEng { s.eng with integral := 3251525879, pt := 195 })
    t.eng.state = .follow ∧ t.eng.source = some (.tier .one) ∧ t.tsg.fSet = 3252 ∧ t.eng.u = 147 ∧
      t.mon.qual = .absent := by decide +kernel

/-! ### The loop and the prediction (sections 7.10 and 8.10) -/

/-- Section 7.10 before the observation. -/
def tracking : State :=
  (locked 90000).withEng { (locked 90000).eng with integral := 3250000000, ring := 3250200 :: List.replicate 15 3250965 }

theorem test_loop_step : (takeObservation 100 tracking).eng.integral = 3251525879 ∧
    (takeObservation 100 tracking).tsg.fSet = 3447 ∧
    (takeObservation 100 tracking).eng.ring.getLast? = some 3251526 := by decide +kernel

theorem test_loop_step_in_acquire :
    (takeObservation 100 (inState .acquire (some .reference) tracking)).tsg.fSet = 6766 := by decide +kernel

theorem test_holdover_prediction :
    let s := base 44199
    let s := (inState .holdover none s).withLrn { s.lrn with
      lastReading := some 0, rate := 12
      table := (s.lrn.table.set 25 ⟨200, 3240500, 30⟩).set 20 ⟨5, 3198250, 2⟩ }
    let s := s.withEng { s.eng with record := some ⟨1000, 3251000, some 25, 50, 40⟩, nudge := 17, ring := [1] }
    (after (.ownBoundary []) s).tsg.fSet = 3232 ∧ (after (.ownBoundary []) s).eng.u = 2416 := by decide +kernel

/- Section 9.3: three updates into a new bin, one into a full one. -/
theorem test_learning_updates :
    ((Bin.empty.update 3198000).update 3204000).update 3195500 = ⟨3, 3199167, 4⟩ ∧
    (⟨200, 3250400, 3⟩ : Bin).update 3251526 = ⟨201, 3250418, 3⟩ := by decide

/-! ### Own frames -/

theorem test_attempt_start :
    ((after (.transmitAttemptStart 1000045000123 ⟨0, 1000045000223⟩) ((locked 1000).withBus { (locked 1000).bus with
      mark := some ⟨41, 1000345000000⟩ })).bus.attempt.map (·.frame)) = some (markRaw 1 41) := by decide +kernel

/- R50: the edge is driven in second 1,000 and reaches the receive pin in second 1,001. R59: no attempt on a busy bus.
-/
theorem test_attempt_edges :
    let s := (locked 1000).withBus { (locked 1000).bus with mark := some ⟨41, 1000345000000⟩ }
    (after (.transmitAttemptStart 1000999999950 ⟨0, 1001000000098⟩) s).bus.seen = some ⟨1001, 90, 1001000000000⟩ ∧
    (after (.transmitAttemptStart 1000500000000 ⟨0, 1000500000098⟩) (hearing s)).bus.attempt = none := by decide +kernel

/- R57, at 500 kbit/s: eight recessive bit times are 16,000 ns of the idle bus that follows the attempt. -/
theorem test_passive_wait :
    let s := (base 5).withBus { (base 5).bus with
      receiveErrors := 128, attempt := some (attemptOf .page none (base 5)), pages := [⟨[7], 6000000000⟩] }
    let t := after (.arbitrationLost 5000100000) (s.withBus s.bus.updateError)
    t.mayStart 5000315999 5000300000 = false ∧ t.mayStart 5000316000 5000300000 = true ∧
      t.mayStart 5000316000 5000099999 = false := by decide +kernel

/- R57: a wait that has ended stays ended when another party's frame follows it, one that has not begins anew, and
ERROR_ACTIVE does not wait. -/
theorem test_passive_wait_ends :
    let s := (base 5).withBus { (base 5).bus with error := .errorPassive, waitSince := some 5000100000 }
    (after (.startOfFrameEdgeSeen ⟨5000300000, 5000316000⟩) s).bus.waitSince = none ∧
      (after (.startOfFrameEdgeSeen ⟨5000300000, 5000315999⟩) s).bus.waitSince = some 5000315999 ∧
      s.mayStart 5000300001 5000300000 = false ∧
      (s.withBus s.bus.updateError).mayStart 5000300001 5000300000 = true := by decide +kernel

theorem test_attempt_completed :
    let s := (locked 1000).withBus { (locked 1000).bus with
      mark := some ⟨9, 5⟩, transmitErrors := 8
      attempt := some (attemptOf .mark (some ⟨1, false, some .ref, 35⟩) (locked 1000)) }
    let t := after (.attemptCompleted 1000000100000) s
    (t.bus.follow.map (·.deadline)) = some 1000200000000 ∧ t.bus.mark = none ∧ t.bus.transmitErrors = 7 := by
  decide +kernel

theorem test_arbitration_lost :
    let s := (locked 1000).withBus { (locked 1000).bus with
      mark := some ⟨9, 5⟩, attempt := some (attemptOf .mark none (locked 1000)) }
    (after (.arbitrationLost 1000000100000) s).bus.mark = some ⟨9, 5⟩ := by decide +kernel

/- R54: the third bit error in a row inside the data field. -/
theorem test_transmit_error :
    let s := (locked 1000).withBus { (locked 1000).bus with
      dataErrors := 2, attempt := some (attemptOf .page none (locked 1000)) }
    (after (.transmitError 1000000100000 .bit true) s).bus.listenOnly = true ∧
    (after (.transmitError 1000000100000 .stuff false) s).bus.transmitErrors = 8 := by decide +kernel

theorem test_receive_error :
    (after (.receiveError 5 .crc) ((base 5).withBus { (base 5).bus with receiveErrors := 127 })).bus.error =
      .errorPassive := by decide +kernel

theorem test_mark_deadline :
    (after .markDeadline ((base 5).withBus { (base 5).bus with mark := some ⟨9, 77⟩ })).scu.raised = Flag.markLate.mask :=
  by decide +kernel

theorem test_follow_deadline :
    (after .followDeadline ((base 5).withBus { (base 5).bus with follow := some ⟨follow 9 5, 77⟩ })).bus.follow = none :=
  by decide +kernel

theorem test_page_deadline :
    (after (.pageDeadline 1) ((base 5).withBus { (base 5).bus with pages := [⟨[1], 70⟩, ⟨[2], 77⟩] })).bus.pages =
      [⟨[1], 70⟩] := by decide +kernel

/-! ### Receptions (sections 5.9 and 5.10) -/

theorem test_edge_seen :
    (after (.startOfFrameEdgeSeen ⟨3000070000000, 3000070000417⟩) (base 3000)).bus.seen =
      some ⟨3000, 70000410, 3000000000000⟩ := by decide +kernel

theorem test_frame_received_bad :
    (after (.frameReceived (atEnd 5) ⟨false, false, 32, [1]⟩) (hearing (base 5))).bus.badFrames = 1 := by decide +kernel

theorem test_mark_frame :
    (after (.markFrame (atEnd 3000) 2 41) (hearing (base 3000))).ptu.marks[2] =
      some ⟨41, 400000000, 3000, 0, 3000650000000⟩ := by decide +kernel

/- Section 5.9, peer 3: 40 ns ahead, seeded (section 5.10: 640 sixteenths). -/
theorem test_follow_frame_seeds :
    let s := hearing (base 3000)
    let s := s.withPtu (s.ptu.setMark 2 (some ⟨41, 70000410, 3000, 0, 3000320000410⟩))
    ((after (.followFrame (atEnd 3000) 2 (follow 41 70000300)) s).ptu.peers[2].map (·.lf16)) = some (some 640) := by
  decide +kernel

/- Section 5.9, peer 9: a correction of -2,000 for the own step between the MARK and its FOLLOW. -/
theorem test_follow_frame_corrected :
    leadSample 220000000 ⟨13, 900000050, 3001, -2000, 0⟩ 150 = 319998100 := by decide

/- R82, boundary first: the sample of a FOLLOW at the instant of the boundary finds the entry EMPTY and seeds it; a
nanosecond later its FOLLOW is an orphan. -/
theorem test_follow_at_expiry :
    let e := peer .active 40 10
    let s := (base 60).withPtu { ((base 60).ptu.setPeer 2 (some e)).setMark 2
      (some ⟨41, 970000410, 59, 0, 60220000410⟩) with stage := .expiry }
    let t := hearing (after (.peerExpiry 2) s)
    let u := fun at_ => (after (.followFrame at_ 2 (follow 41 970000300)) t).ptu
    t.ptu.peers[(2 : Fin 16)] = none ∧ t.ptu.unpaired = 1 ∧
      (u 60000000000).peers[(2 : Fin 16)].map (·.state) = some .learning ∧ (u 60000000000).orphan = 0 ∧
      (u 60000000001).peers[(2 : Fin 16)] = none ∧ (u 60000000001).orphan = 1 := by decide +kernel

theorem test_pending_timer :
    (after (.pendingTimerExpiry 11) ((base 3000).withPtu ((base 3000).ptu.setMark 11
      (some ⟨12, 295000050, 3000, 0, 3000545000050⟩)))).ptu.unpaired = 1 := by decide +kernel

/- Section 5.10: the sample 44 after the seed 40, and the slew portion of +100 on 641 sixteenths. -/
theorem test_filter : filterStep 640 44 8 = 648 ∧ leadOf 648 = 41 ∧ fold period16 (641 - 1600) = -959 ∧
    leadOf (-959) = -60 := by decide

/- Section 6.7, tier 2 with the station itself. -/
theorem test_consensus : consensusOf [⟨40, 150, 8⟩, ⟨-10, 3000, 2⟩, ⟨0, 222, 8⟩] = some ⟨17, 50, 3, 18, 150⟩ := by
  decide

/-! ### Commands -/

theorem test_invalid_code :
    (after (.invalidCommandCode (atEnd 5) 16 (toAll 0 0)) (hearing (base 5))).scu.cause = .invalid := by decide +kernel

theorem test_status_query :
    (after (.statusQuery (atEnd 5) (toAll 0 0)) (hearing (base 5))).bus.status1.isSome = true := by decide +kernel

theorem test_clear_errors :
    (after (.clearErrors (atEnd 5) (toAll 0 0x0800)) (hearing ((base 5).withScu ⟨0x0810, 0, .busy⟩))).scu =
      ⟨0x0010, 0, .none⟩ := by decide +kernel

theorem test_alert_enable :
    (after (.alertEnable (atEnd 5) (toAll 0 0x8001)) (hearing (base 5))).scu.enabled = 0x8001 := by decide +kernel

theorem test_alert_disable :
    (after (.alertDisable (atEnd 5) (toAll 0 0x8001)) (hearing ((base 5).withScu ⟨0, 0x8003, .none⟩))).scu.enabled = 2 :=
  by decide +kernel

theorem test_error_set : (after (.errorSet (atEnd 5) (toAll 0 0x0005)) (hearing (base 5))).scu.raised = 5 := by
  decide +kernel

theorem test_phase_step :
    (after (.phaseStep (atEnd 5) (toAll 1 77)) (hearing (base 5))).tsg.committed =
      some ⟨77, .command, .step, true, false⟩ := by decide +kernel

/- Section 1.7: the acceptance in second 1,000. -/
theorem test_phase_slew :
    (after (.phaseSlew (atEnd 1000) (toAll 2 250)) (hearing (base 1000))).tsg.slot =
      some ⟨.command, .slew, 250, 250, 1002, false⟩ := by decide +kernel

/- Section 1.7: the abort in second 1,002, then a PHASE_STEP with delay 1 refused BUSY. -/
theorem test_adjust_abort :
    let s := hearing (after (.ownBoundary []) slewing)
    let t := after (.adjustAbort (atEnd 1002) (toAll 0 0)) s
    t.tsg.slot = none ∧ t.tsg.committedAmount = 100 ∧
      (after (.phaseStep (atEnd 1002) (toAll 1 77)) (hearing t)).scu.cause = .busy := by decide +kernel

theorem test_ref_inhibit :
    (after (.refInhibit (atEnd 5) (toAll 0 0)) (hearing (locked 5))).eng.state = .freerun := by decide +kernel

theorem test_ref_release :
    let s := (locked 5).withEng { (base 5).eng with inhibit := true }
    (after (.refRelease (atEnd 5) (toAll 0 0)) (hearing s)).eng.state = .acquire := by decide +kernel

theorem test_history_release :
    (after (.historyRelease (atEnd 5) (toAll 0 0)) (hearing ((base 5).withMon { (base 5).mon with
      history := ⟨Vector.replicate 8 9, 8, 3, true⟩ }))).mon.history = HistoryRing.empty := by decide +kernel

/- Section 5.9: page 67 shows the unpaired counter 2 and the orphan counter 1. -/
theorem test_table_read :
    (after (.tableRead (atEnd 5) (toAll 67 0)) (hearing ((base 5).withPtu { (base 5).ptu with
      unpaired := 2, orphan := 1 }))).bus.pages = [⟨[67, 0, 2, 0, 1, 0, 0, 0], 6400300000⟩] := by decide +kernel

theorem test_learn_save :
    (after (.learnSave (atEnd 5) (toAll 0 0)) (hearing (base 5))).lrn.pageWrite =
      some ⟨256, List.replicate 16 0, true⟩ := by decide +kernel

theorem test_learn_clear :
    (after (.learnClear (atEnd 5) (toAll 0 0)) (hearing ((base 5).withLrn { (base 5).lrn with rate := 12 }))).lrn.rate =
      0 := by decide +kernel

theorem test_restart :
    (after (.restart (atEnd 5) (toAll 0 0)) (hearing (locked 5))).eng.state = .freerun ∧
    (after (.restart (atEnd 5) (toAll 0 0)) (hearing (locked 5))).mon = Monitor.reset := by decide +kernel

/-- A MARK of the station is on the bus. -/
def attempting : State :=
  let s := hearing (locked 5)
  s.withBus { s.bus with mark := some ⟨9, 5300000000⟩, attempt := some (attemptOf .mark none s) }

/- R66: the attempt that a RESTART finds open runs to its end, and queues no FOLLOW. -/
theorem test_restart_under_attempt :
    let t := after (.restart (atEnd 5) (toAll 0 0)) attempting
    t.bus.mark = none ∧ (t.bus.attempt.map (·.inSlot)) = some false ∧
      (after (.attemptCompleted (atEnd 5)) t).bus.follow = none := by decide +kernel

theorem test_page_write_done :
    let s := (base 5).withLrn { (base 5).lrn with save := some ⟨37, 0, []⟩, pageWrite := some ⟨256, [182, 77], true⟩ }
    (after .eepromPageWriteDone s).eeprom = [(256, 182), (257, 77)] ∧ (after .eepromPageWriteDone s).lrn.save = none := by
  decide +kernel

theorem test_eeprom_failure :
    let s := (base 5).withLrn { (base 5).lrn with save := some ⟨3, 0, []⟩, pageWrite := some ⟨304, [1, 2], true⟩ }
    (after (.eepromFailure false) s).scu.raised = Flag.storeFault.mask ∧ (after (.eepromFailure false) s).eeprom = [] := by
  decide +kernel

/- R151: a failure in the last write of a save leaves the marker erased. -/
theorem test_eeprom_failure_last :
    let s := (base 5).withLrn { (base 5).lrn with save := some ⟨37, 0, []⟩, pageWrite := some ⟨256, [182, 77], true⟩ }
    (after (.eepromFailure true) s).eeprom = [] := by decide +kernel

/- R151: the marker stays erased at a RESTART in the last write of a save. R175: the write's transfer. -/
theorem test_restart_in_last_page :
    let w : PageWrite := ⟨256, [182, 77], true⟩
    let s := (base 5).withLrn { (base 5).lrn with save := some ⟨37, 0, []⟩, pageWrite := some w }
    let t := after .eepromPageWriteDone (after (.restart (atEnd 5) (toAll 0 0)) (hearing s))
    t.eeprom = [] ∧ t.lrn.pageWrite = none ∧ w.transfer = ⟨0b1010000, [1, 0], .write [182, 77]⟩ := by decide +kernel

/-! ### Witnesses: states that meet the hypotheses of each statement, clause by clause, at the ends of their ranges -/

theorem witness_StepRunsFrontCommand :
    ((base 5).withPending [.busJoin, .markDue]).pending = .busJoin :: [.markDue] ∧ (base 5).pending = [] := by decide

theorem witness_DueWorkTakenFirst : takesDueFirst .busJoin = true ∧ (base 5).running = true := by decide

theorem witness_DueWorkTakenFirst_due :
    let s := (base 5).withMon { (base 5).mon with stage := .expiry, qual := .candidate }
    s.running = true ∧ s.settled = false := by decide

/-- A steering limit that is due with the monitor and the peers waiting. -/
theorem witness_DueWorkTakenFirst_steer :
    let s := (locked 60).withEng { (locked 60).eng with steerCount := 600 }
    let q := fun st k => s.withMon { s.mon with stage := st, qual := k }
    let p := fun st e => s.withPtu { s.ptu.setPeer 2 (some e) with stage := st }
    s.running = true ∧ (q .stale .qualified).steerDue = true ∧ (q .stale .qualified).mon.stage = .stale ∧
      (q .expiry .candidate).steerDue = true ∧ (q .expiry .disqualified).steerDue = true ∧
      (p .expiry (peer .active 40 10)).steerDue = true ∧ (p .expiry (peer .active 40 10)).peerExpired 2 = true ∧
      (p .quarantine (peer .quarantined 40 59)).quarantineOver 2 = true := by decide

theorem witness_ResetHoldsThePart : (1000 : Nat) ≤ 1000 ∧ (999 : Nat) < 1000 := by decide

theorem witness_SupplyAndReleaseEndTheHold :
    (after (.supplyLoss false) (base 5)).pwr.supplyGood = false ∧ (base 5).pwr.supplyGood = true := by decide

theorem witness_SecondZeroOpens : State.reset.held = false ∧ State.reset.pwr.opened = false ∧
    State.reset.tsg.windowGap = false := by decide

/-- The counts at the ends of a good window's range, and the next beyond them. -/
theorem witness_SecondZeroOpens_counts :
    windowGood 9900 false = true ∧ windowGood 10100 false = true ∧ windowGood 9899 false = false ∧
    windowGood 10101 false = false ∧ windowGood 10000 true = false := by decide

theorem witness_ConfigurationPutIntoUse : opened.ready = true ∧ opened.pwr.stage = .configuration := by decide

theorem witness_ConfigurationPutIntoUse_sound : configured.ready = true ∧ configured.pwr.stage = .configuration ∧
    configurationSound configured.eeprom = true ∧ configurationSound opened.eeprom = false := by decide +kernel

/-- A part whose configuration has been read, with a warm-up of `w` seconds. -/
def loading (w : Nat) (m : Memory) : State :=
  let s := (opened.withPwr { opened.pwr with stage := .learning }).withCfg { opened.cfg with warmup := w }
  s.withEeprom m

/-- A learning block: the marker, A -5, one aging sample, a check value off by `k`. -/
def learned (k : BitVec 16) : Memory :=
  Memory.writeAll (Memory.writeAll [] 784 ([0, 0, 0, 7] ++ [0, 0, 1, 0])) 256
    ([182, 77] ++ be16 (BitVec.ofInt 16 (-5)) ++ [1] ++ be16 (8 + k))

theorem witness_LoadEnds : (loading 900 []).ready = true ∧ (loading 900 []).pwr.stage = .learning ∧
    (loading 900 []).eng.state = .warmup ∧ (loading 0 []).ready = true ∧ (loading 0 []).cfg.warmup = 0 := by decide

theorem witness_LoadEnds_sound : readLearningBlock (learned 0) =
    .sound (Vector.replicate 64 Bin.empty) [⟨7, secondsSince 0 256⟩] (-5) := by decide +kernel

theorem witness_LoadEnds_none : readLearningBlock (learned 1) = .faulty ∧ readLearningBlock [] = .absent := by
  decide +kernel

theorem witness_JoinAndSitePower : (base 5).ready = true ∧ (base 5).pwr.state ≠ .load ∧
    false ≠ (base 5).pwr.sitePwr ∧ State.reset.held = false ∧ State.reset.running = false := by decide

theorem witness_JoinAndSitePower_filter :
    let s := (base 5).withPwr { (base 5).pwr with sitePwr := false, filterDue := some 5100000100 }
    s.ready = true ∧ s.pwr.filterDue = some 5100000100 ∧ s.pwr.state ≠ .load ∧ s.pwr.sitePwr = false := by decide

theorem witness_BoundaryReached : slewing.ready = true ∧ slewing.tsg.osc = .present ∧
    slewing.tsg.committed = some ⟨100, .command, .slew, true, false⟩ ∧
    ([.latch] : List BoundaryTask).head? = some .latch := by decide

theorem witness_BoundaryReached_engine :
    let s := slewing.withTsg { slewing.tsg with committed := some ⟨100, .engine, .step, true, false⟩ }
    s.ready = true ∧ s.tsg.osc = .present ∧ s.tsg.committed ≠ none ∧ (base 5).tsg.committed = none := by decide

/-- A slot with an adjustment in each of its conditions: none committed, a step, a last portion, one aborted. -/
theorem witness_BoundaryReached_slot :
    let s := fun c r => slewing.withTsg { slewing.tsg with committed := c, slot := r }
    let r : AdjustRecord := ⟨.command, .slew, 250, 250, 1002, false⟩
    slewing.eng.steerCount < 599 ∧ slewing.tsg.slot = some r ∧ r.remaining ≠ 100 ∧
      (s none (some { r with due := 1003 })).ready = true ∧
      (s (some ⟨250, .command, .step, true, false⟩) (some r)).ready = true ∧
      (s (some ⟨250, .command, .slew, true, false⟩) (some r)).ready = true ∧
      (s (some ⟨100, .command, .slew, true, true⟩) (some { r with due := 1007 })).ready = true := by decide

theorem witness_BoundaryReached_outputs :
    slewing.muteCause = false ∧ slewing.cfg.muteOnExhaustion = false ∧ (inState .fault none slewing).ready = true ∧
    (inState .fault none slewing).muteCause = true := by decide

/-- An entry and a mark of peer 3, with an amount committed and without. -/
theorem witness_BoundaryReached_peers :
    let s := slewing.withPtu ((slewing.ptu.setPeer 2 (some (peer .active 40 1001))).setMark 2
      (some ⟨41, 70000410, 1001, 0, 1001320000410⟩))
    s.ready = true ∧ s.ptu.marks[(2 : Fin 16)] = some ⟨41, 70000410, 1001, 0, 1001320000410⟩ ∧
      s.ptu.peers[(2 : Fin 16)] = some (peer .active 40 1001) ∧ s.ptu.marks[(3 : Fin 16)] = none ∧
      s.tsg.committed ≠ none ∧ (s.withTsg { s.tsg with committed := none }).tsg.committed = none := by decide

theorem witness_BoundaryInLossAndReturn :
    let s := fun o => (base 5).withTsg { (base 5).tsg with osc := o }
    (s .lost).ready = true ∧ (s .lost).tsg.osc = .lost ∧ (s .returning).ready = true ∧
      (s .returning).tsg.osc = .returning := by decide

theorem witness_OscillatorLossAndReturn : slewing.ready = true ∧ slewing.tsg.osc ≠ .lost ∧
    slewing.tsg.windowGap = false ∧ (9899 : Nat) < 9900 ∧ (10100 : Nat) < 10101 := by decide

theorem witness_OscillatorLossAndReturn_mute : slewing.MuteObeyed := fun h => absurd h (by decide)

theorem witness_OscillatorLossAndReturn_lost :
    let s := (base 5).withTsg { (base 5).tsg with osc := .lost }
    s.ready = true ∧ s.tsg.osc = .lost ∧ s.tsg.windowGap = false := by decide

/-- Second 61 is no point. A committed engine step; a block open for 20 s and for 21 s, past D + 4; timers that fall
to 0 and to 1; a pulse held for the boundary, and none. -/
theorem witness_MonitorBoundaryEvents_boundary :
    let s := locked 60
    let step := s.withTsg { s.tsg with
      committed := some ⟨5, .engine, .step, true, false⟩, slot := some ⟨.engine, .step, 5, 5, 61, false⟩ }
    let block := fun o => s.withMon { s.mon with blockCount := 1, blockOpen := some o }
    let timer := fun n => s.withMon { s.mon with qual := .candidate, qualTimer := some n }
    let held := s.withMon { s.mon with held := some ⟨60999999990, 61⟩ }
    s.ready = true ∧ s.tsg.osc ≠ .returning ∧ 61 % s.cfg.pointInterval ≠ 0 ∧ step.ready = true ∧
      step.tsg.committed.any (fun c => c.origin = .engine) = true ∧ (block 40).ready = true ∧
      s.cfg.decimation + 4 < secondsSince 61 40 ∧ secondsSince 61 41 = s.cfg.decimation + 4 ∧ (timer 1).ready = true ∧
      (timer 1).mon.qualTimer.map (· - 1) = some 0 ∧ (timer 2).mon.qualTimer.map (· - 1) = some 1 ∧
      held.ready = true ∧ held.mon.held = some ⟨60999999990, 61⟩ ∧ s.mon.held = none := by decide +kernel

/-- A monitor that waits at a stage, in a qualification state. -/
def waiting (st : MonitorStage) (q : Qualification) (s : State) : State :=
  s.withMon { s.mon with stage := st, qual := q }

theorem witness_MonitorBoundaryEvents : (waiting .stale .candidate (base 60)).running = true ∧
    (waiting .stale .candidate (base 60)).mon.stage = .stale ∧
    (waiting .expiry .candidate (base 60)).mon.stage = .expiry ∧
    (waiting .expiry .candidate (base 60)).mon.qual = .candidate ∧
    (waiting .expiry .disqualified (base 60)).mon.qual = .disqualified ∧ (base 60).silent = false ∧
    (base 60).eng.inhibit = false ∧ (base 60).eng.source ≠ some .reference ∧ (base 60).steerDue = false ∧
    (inState .warmup none (base 60)).silent = true := by decide

theorem witness_MonitorBoundaryEvents_held (st : MonitorStage) (q : Qualification) :
    (waiting st q (base 60)).NoHeldPulse :=
  fun p hp => nomatch (show (none : Option Pulse) = some p from hp)

/-- A pulse held while the work waits for its event. -/
theorem witness_MonitorBoundaryEvents_held_event :
    let s := fun st q => (waiting st q (base 60)).withMon
      { (waiting st q (base 60)).mon with held := some ⟨59999999990, 60⟩ }
    (s .stale .candidate).running = true ∧ (s .stale .candidate).steerDue = false ∧
      (s .expiry .disqualified).mon.held = some ⟨59999999990, 60⟩ ∧ (base 60).second = 60 ∧
      (after .qualificationTimerExpiry ((s .expiry .candidate).withMon
        { (s .expiry .candidate).mon with held := none })).mon.stage = .idle := by decide +kernel

theorem witness_MonitorBoundaryEvents_pulses :
    let s := (waiting .expiry .disqualified (base 60)).withMon
      { (waiting .expiry .disqualified (base 60)).mon with lastPulse := some ⟨59000000100, 59⟩ }
    s.mon.lastPulse ≠ none ∧ s.mon.consecutiveMissing = 0 ∧ (base 60).mon.lastPulse = none := by decide

/-- Second 60 with an entry of peer 3, and its pending mark. -/
def withPeer (st : PeerStage) (e : PeerEntry) (m : Option PendingMark) : State :=
  (base 60).withPtu { ((base 60).ptu.setPeer 2 (some e)).setMark 2 m with stage := st }

/-- Heard 50 seconds ago, the least age that expires. -/
theorem witness_PeerExpiryAndQuarantineEnd :
    (withPeer .expiry (peer .active 40 10) none).running = true ∧
    (withPeer .expiry (peer .active 40 10) none).ptu.stage = .expiry ∧
    (withPeer .expiry (peer .active 40 10) none).peerExpired 2 = true ∧
    (withPeer .expiry (peer .active 40 10) none).ptu.marks[(2 : Fin 16)] = none ∧
    (withPeer .expiry (peer .active 40 10) (some ⟨1, 2, 10, 0, 3⟩)).peerExpired 2 = true ∧
    (withPeer .expiry (peer .active 40 10) (some ⟨1, 2, 10, 0, 3⟩)).ptu.marks[(2 : Fin 16)] ≠ none ∧
    (withPeer .expiry (peer .active 40 11) none).peerExpired 2 = false := by decide

/-- An entry that is 50 s old at boundary 61, one that is 49 s old, one whose quarantine falls to 0, and a point. -/
theorem witness_PeerExpiryAndQuarantineEnd_boundary :
    let q : PeerEntry := { peer .quarantined 40 59 with quarantine := 1 }
    (withPeer .idle (peer .active 40 11) none).ready = true ∧ 50 ≤ secondsSince 61 11 ∧ secondsSince 61 12 < 50 ∧
      (withPeer .idle q none).ready = true ∧ q.quarantine ≤ 1 ∧ (base 63).ready = true ∧ (base 63).pwr.state ≠ .load ∧
      (63 + 1) % 4294967296 % (base 63).cfg.pointInterval = 0 := by decide +kernel

theorem witness_PeerExpiryAndQuarantineEnd_quarantine :
    let s := withPeer .quarantine (peer .quarantined 40 59) none
    s.running = true ∧ s.ptu.stage = .quarantine ∧ s.ptu.peers[(2 : Fin 16)] = some (peer .quarantined 40 59) ∧
      (peer .quarantined 40 59).state = .quarantined ∧ (peer .quarantined 40 59).quarantine = 0 := by decide

theorem witness_SteerLimitEntersFault :
    let s := fun st => (inState st none (base 60)).withEng { (inState st none (base 60)).eng with steerCount := 600 }
    (s .locked).running = true ∧ (s .locked).eng.state = .locked ∧ 600 ≤ (s .locked).eng.steerCount ∧
      (s .follow).running = true ∧ (s .follow).eng.state = .follow := by decide

/-- Boundary 61 with F set at a limit and not, in LOCKED and out of it, at the counts up to the limit. -/
theorem witness_SteerLimitEntersFault_boundary :
    let s := fun n f => ((locked 60).withEng { (locked 60).eng with steerCount := n }).withTsg
      { (locked 60).tsg with fSet := f }
    (s 598 2000000).ready = true ∧ (s 599 (-2000000)).ready = true ∧ (s 0 1999999).ready = true ∧
      (locked 60).tsg.osc = .present ∧ (locked 60).mon.held = none ∧ 61 % (locked 60).cfg.pointInterval ≠ 0 ∧
      (base 60).ready = true ∧ (base 60).eng.state = .freerun := by decide +kernel

/-- WARMUP with one second remaining and with two. -/
theorem witness_WarmupEndsBySelection_boundary :
    let s := fun n => (inState .warmup none (base 60)).withEng
      { (inState .warmup none (base 60)).eng with warmupLeft := n }
    (s 1).ready = true ∧ (s 2).ready = true ∧ (s 1).eng.state = .warmup ∧ (s 1).tsg.osc ≠ .lost := by decide

theorem witness_WarmupEndsBySelection :
    (warm .absent none none []).running = true ∧ (warm .absent none none []).pwr.state ≠ .load ∧
    (warm .absent none none []).eng.state = .warmup ∧ (warm .absent none none []).eng.warmupLeft = 0 := by decide

/-- Every outcome of a selection, each by the first case that holds. -/
theorem witness_SelectionTakesFirstCase :
    (warm .qualified (some (lead 12)) none [1]).selected = .source .reference ∧
    (warm .absent (some (lead 1000)) none [1]).selected = .source (.tier .one) ∧
    (warm .absent none (some (lead 1001)) [1]).selected = .holdover ∧
    (warm .absent none (some (lead 1001)) []).selected = .source (.tier .two) ∧
    (warm .absent none none []).selected = .freerun := by decide

/-- The step threshold is 1,000: leads at it and above it. -/
theorem witness_WarmupEndsBySelection_tiers :
    ((warm .absent (some (lead 1000)) none [1]).ptu.tier .one).consensus = some (lead 1000) ∧
    ((warm .absent none (some (lead 1001)) []).ptu.tier .two).consensus = some (lead 1001) := by decide

theorem witness_AgingAndTemperatureSampling :
    let s := (base 60).withLrn { (base 60).lrn with agingClock := 21600, lastReading := some 90 }
    s.running = true ∧ 21600 ≤ s.lrn.agingClock ∧ s.eng.ring = [] ∧
      (s.withEng { s.eng with ring := [7] }).eng.ring ≠ [] ∧ s.lrn.currentBin = some 25 ∧
      (base 60).lrn.currentBin = none := by decide

/-- Rings whose span is a day and a second less. -/
theorem witness_AgingAndTemperatureSampling_span :
    let s := fun o => (base 90000).withLrn { (base 90000).lrn with agingClock := 21600, aging := [⟨0, o⟩] }
    (s 3600).running = true ∧ 86400 ≤ secondsSince (s 3600).second 3600 ∧
      secondsSince (s 3601).second 3601 < 86400 := by decide

/-- Boundary 61 in LOCKED with fresh temperature, and a STALE sampling. -/
theorem witness_AgingAndTemperatureSampling_boundary :
    let s := fun x => (locked 60).withLrn { (locked 60).lrn with sampling := x }
    (s .fresh).ready = true ∧ (s .stale).ready = true ∧ (s .fresh).tsg.osc = .present ∧
      (s .fresh).eng.steerCount < 599 ∧ (s .fresh).mon.held = none ∧ 61 % (s .fresh).cfg.pointInterval ≠ 0 := by
  decide +kernel

theorem witness_AgingAndTemperatureSampling_reading :
    let s := (base 60).withLrn { (base 60).lrn with converting := true }
    s.ready = true ∧ s.lrn.converting = true ∧ s.lrn.sampling ≠ .stale ∧ (-440 : Int) ≤ -440 ∧ (1000 : Int) ≤ 1000 ∧
      (-441 : Int) < -440 ∧ (1000 : Int) < 1001 := by decide

theorem witness_ScheduledOutputs :
    let s := (locked 60).withBus { (locked 60).bus with markDue := some 60045000000, statusDue := true }
    s.ready = true ∧ s.bus.markDue = some 60045000000 ∧ s.pwr.state ≠ .load ∧ s.silent = false ∧
      s.bus.listenOnly = false ∧ s.bus.statusDue = true ∧ s.bus.attempt = none ∧
      (inState .fault none s).ready = true ∧ (inState .fault none s).silent = true := by decide

/-- A boundary in BUS_OFF with a STATUS owed, in LOAD and in each RUN state, with each M. -/
theorem witness_ScheduledOutputs_boundary :
    let s := (base 60).withBus { (base 60).bus with error := .busOff, statusDue := true }
    let p := fun st => s.withPwr { s.pwr with state := st }
    s.ready = true ∧ s.bus.error = .busOff ∧ s.bus.statusDue = true ∧ s.bus.listenOnly = false ∧ s.bus.attempt = none ∧
      (p .load).ready = true ∧ s.pwr.state = .runNormal ∧ (p .runSave).ready = true ∧ s.cfg.markInterval = 2 := by
  decide

/-- A boundary of each kind of cycle, and of a lost OSC_IN; a second with steps of FREQ_OUT to make. -/
theorem witness_ScheduledOutputs_freq :
    let s := (base 60).withTsg { (base 60).tsg with committed := some ⟨-7, .command, .step, true, false⟩ }
    let x := { (base 60).tsg with outputsRunning := true, freqSteps := -4, freqFrom := 60000000000 }
    slewing.ready = true ∧ 0 < slewing.tsg.committedAmount ∧ s.ready = true ∧ s.tsg.committedAmount < 0 ∧
      (s.withTsg { s.tsg with osc := .lost }).ready = true ∧ x.freqSpan = 61000000000 ∧ x.freqFrom < x.freqSpan ∧
      ((x.freqSteps - x.freqMade).natAbs : Int) ≤ x.freqSpan - x.freqFrom ∧ x.freqMade = 0 ∧
      x.freqFrom = x.lastBoundary ∧ x.freqSteps < 1000000000 := by decide

theorem witness_ScheduledOutputs_pulse :
    let s := (locked 60).withTsg { (locked 60).tsg with ppsOut := true }
    s.ready = true ∧ s.tsg.ppsOut = true := by decide

/-- 899,999,999 ns after the last accepted pulse is extra, 900,000,000 ns with another tag is not. -/
theorem witness_PulseAcceptedOrExtra :
    (measuring 5000).ready = true ∧ (measuring 5000).extraPulse 5000900000109 = true ∧
    (measuring 5000).extraPulse 5000900000110 = false ∧ (measuring 5000).tagsNext 5000900000110 = true ∧
    (measuring 5000).mon.qual ≠ .absent ∧ (base 5).extraPulse 5000000010 = false ∧ (base 5).mon.qual = .absent := by
  decide

/-- A pulse measured at once: with a residual at the limit, as a seed, with a block to complete, and the first of all.
-/
theorem witness_PulseAcceptedOrExtra_measured :
    let s := measuring 5001
    let seed := s.withMon { s.mon with seedRequest := true }
    let full := s.withMon { s.mon with blockCount := 3 }
    s.ready = true ∧ s.extraPulse 5001000000617 = false ∧ s.tagsNext 5001000000617 = false ∧
      fold 1000000000 (s.tsg.lastBoundary - 5001000000617) + s.cfg.cableDelay + s.tsg.trim - 3 = s.cfg.lmin ∧
      outCount (pushBounded s.cfg.lwin (s.at 5001000000617).testedWindow false) < s.cfg.lcnt ∧
      s.mon.blockCount + 1 < s.cfg.decimation ∧ full.ready = true ∧ s.cfg.decimation ≤ full.mon.blockCount + 1 ∧
      seed.ready = true ∧ seed.mon.seedRequest = true ∧ (base 5).tagsNext 5000000010 = false ∧
      1 < (base 5).cfg.decimation := by decide +kernel

/-- The pulse tagged 20,005 of section 3.8. -/
theorem witness_ResidualFaultDisqualifies :
    let s := (locked 20005).withMon { (locked 20005).mon with
      window := List.replicate 11 false ++ [true, false, true, true, false] }
    s.ready = true ∧ s.extraPulse 20005000041188 = false ∧ s.tagsNext 20005000041188 = false ∧
      s.mon.qual = .qualified ∧ s.mon.prediction = some 12 ∧ s.mon.seedRequest = false ∧
      fold 1000000000 (s.tsg.lastBoundary - 20005000041188) + s.cfg.cableDelay + s.tsg.trim - 12 < s.cfg.lmin ∧
      s.cfg.lcnt ≤ outCount (pushBounded s.cfg.lwin s.mon.window true) ∧ s.eng.state = .locked := by decide +kernel

/-- A reference disqualified by an order at the instant of a pulse out of limits, and one whose window is empty. -/
theorem witness_ResidualFaultDisqualifies_order :
    let s := fun o : Option OrderedWindow => (locked 20005).withMon { (locked 20005).mon with
      qual := .disqualified, window := [], ordered := o }
    let s := fun o => (s o).withCfg { (s o).cfg with cableDelay := 600 }
    let t := (s (some ⟨20005000000000, [true, true, true]⟩)).at 20005000000000
    t.ready = true ∧ t.extraPulse 20005000000000 = false ∧ t.tagsNext 20005000000000 = false ∧
      t.mon.prediction = some 12 ∧ t.mon.seedRequest = false ∧
      t.cfg.lmax < fold 1000000000 (t.tsg.lastBoundary - 20005000000000) + t.cfg.cableDelay + t.tsg.trim - 12 ∧
      t.testedWindow = [true, true, true] ∧ t.cfg.lcnt ≤ outCount (pushBounded t.cfg.lwin t.testedWindow true) ∧
      outCount (pushBounded t.cfg.lwin (s none).testedWindow true) < t.cfg.lcnt ∧ (s none).ready = true ∧
      (locked 20005).mon.qual = .qualified ∧ (locked 20005).silent = false ∧
      (locked 20005).eng.state = .locked := by decide +kernel

theorem witness_MissingPulsesLoseTheReference :
    let s := fun q n => (base 5).withMon { (base 5).mon with
      missingDue := some 6100000000, qual := q, consecutiveMissing := n }
    (s .qualified 2).ready = true ∧ (s .qualified 2).mon.missingDue = some 6100000000 ∧
      (s .qualified 2).mon.qual ≠ .absent ∧ (s .candidate 2).mon.consecutiveMissing = 2 ∧
      (s .candidate 1).mon.consecutiveMissing < 2 := by decide

/-- Each slot first in the arbiter's order. -/
theorem witness_AttemptTakesFirstSlot :
    let s := fun b : Bus => (base 5).withBus { b with joined := true }
    let full : Bus := { Bus.reset with
      mark := some ⟨1, 2⟩, follow := some ⟨follow 1 2, 3⟩, alert := some 4, status0 := some [5], status1 := some [6]
      pages := [⟨[7], 8⟩] }
    (s full).ready = true ∧ (s full).mayStart 5000000123 5000000000 = true ∧ (s full).bus.arbiter = some .mark ∧
      (s { full with mark := none }).bus.arbiter = some .follow ∧
      (s { full with mark := none, follow := none }).bus.arbiter = some .alert ∧
      (s { full with mark := none, follow := none, alert := none }).bus.arbiter = some .status0 ∧
      (s { full with mark := none, follow := none, alert := none, status0 := none }).bus.arbiter = some .status1 ∧
      (s { Bus.reset with pages := [⟨[7], 8⟩] }).bus.arbiter = some .page := by decide

/-- A busy bus, and edges that reach the pin at the next boundary and after it. -/
theorem witness_AttemptTakesFirstSlot_times :
    (hearing (base 5)).ready = true ∧ (hearing (base 5)).mayStart 5000000123 5000000000 = false ∧
    (6000000000 : Instant) ≤ (base 5).tsg.nextBoundary ∧ (base 5).tsg.nextBoundary < (6000000001 : Instant) := by decide

theorem witness_CompletedAttemptLeavesItsSlot :
    let snap : Snapshot := ⟨1, false, some .ref, 2097151⟩
    let s := fun k n => (locked 5).withBus { (locked 5).bus with attempt := some (attemptOf k n (locked 5)) }
    (s .mark (some snap)).ready = true ∧ (attemptOf .mark (some snap) (locked 5)).inSlot = true ∧
      (attemptOf .mark (some snap) (locked 5)).drive.ns < 1000000000 ∧ (locked 5).silent = false ∧
      (locked 5).bus.listenOnly = false ∧ (locked 5).bus.error ≠ .busOff ∧ (s .follow none).ready = true ∧
      (s .page none).ready = true ∧ (s .alert none).ready = true ∧ (s .status0 none).ready = true := by decide

/-- A MARK driven at a second's very end, past its 1,000,000,000 ns. -/
theorem witness_CompletedAttemptLeavesItsSlot_long :
    let s := locked 5
    let a := { attemptOf .mark (some ⟨0, false, some .ref, 35⟩) s with drive := ⟨5, 1000000000, 5000000000⟩ }
    let u := s.withBus { s.bus with mark := some ⟨9, 77⟩, attempt := some a }
    u.ready = true ∧ u.bus.attempt = some a ∧ a.inSlot = true ∧ a.slot = .mark ∧ u.silent = false ∧
      u.bus.listenOnly = false ∧ a.snapshot ≠ none ∧ 1000000000 ≤ a.drive.ns ∧ a.drive.ns < 2000000000 := by decide

/-- Attempts whose frame's deadline has passed, for each slot that has one. -/
theorem witness_ArbitrationLostKeepsTheFrame_expired :
    let s := base 5
    let u := fun k => s.withBus { s.bus with attempt := some { attemptOf k none s with expired := true } }
    (u .mark).ready = true ∧ (u .follow).ready = true ∧ (u .page).ready = true ∧
      (attemptOf .page none s).inSlot = true ∧ (u .mark).bus.error ≠ .busOff ∧ (u .mark).bus.listenOnly = false := by
  decide

theorem witness_ArbitrationLostKeepsTheFrame :
    let s := (locked 5).withBus { (locked 5).bus with attempt := some (attemptOf .mark none (locked 5)) }
    s.ready = true ∧ s.bus.attempt = some (attemptOf .mark none (locked 5)) ∧
      (attemptOf .mark none (locked 5)).expired = false ∧ s.bus.wait0 = none ∧ s.bus.aside = 0 ∧
      (base 5).bus.joined = true ∧ (base 5).bus.attempt = none := by decide

/-- An ERROR_PASSIVE wait at the two sides of its end, and one in ERROR_ACTIVE. -/
theorem witness_ArbitrationLostKeepsTheFrame_edge :
    let s := (base 5).withBus { (base 5).bus with error := .errorPassive, waitSince := some 5000100000 }
    let u := s.withBus { s.bus with error := .errorActive }
    s.ready = true ∧ s.bus.joined = true ∧ s.bus.attempt = none ∧ s.cfg.busRate = .kbit500 ∧ u.ready = true ∧
      u.bus.error ≠ .errorPassive ∧ (5000100000 : Instant) ≤ 5000300000 ∧
      (5000300000 : Instant) + 8 * 2000 ≤ 5000316000 ∧ ¬(5000300000 : Instant) + 8 * 2000 ≤ 5000315999 := by decide

/-- Counts at the ends of the error states, and the third data-field error. -/
theorem witness_BusErrorsCounted :
    let s := fun n d => (base 5).withBus { (base 5).bus with
      attempt := some (attemptOf .mark none (base 5)), transmitErrors := n, dataErrors := d }
    (s 247 0).ready = true ∧ (s 248 2).ready = true ∧ (s 248 2).bus.error ≠ .busOff ∧
      (s 248 2).bus.listenOnly = false ∧ 255 < (s 248 2).bus.transmitErrors + 8 ∧
      (s 247 0).bus.transmitErrors + 8 ≤ 255 ∧ 3 ≤ (s 248 2).bus.dataErrors + 1 ∧
      (base 5).bus.attempt = none := by decide

theorem witness_BusOffRecovers :
    let s := fun n => (base 5).withBus { (base 5).bus with error := .busOff, recovery := n }
    (s 127).ready = true ∧ (s 127).bus.error = .busOff ∧ (s 128).running = true ∧ 128 ≤ (s 128).bus.recovery := by decide

theorem witness_DeadlinesDropFrames :
    let s := (base 5).withBus { (base 5).bus with
      mark := some ⟨9, 77⟩, follow := some ⟨follow 9 5, 78⟩, pages := [⟨[1], 79⟩, ⟨[2], 80⟩] }
    let u := s.withBus { s.bus with attempt := some (attemptOf .mark none s) }
    s.ready = true ∧ s.bus.attempting .mark = false ∧ s.bus.attempting .follow = false ∧
      s.bus.attempting .page = false ∧ s.bus.pages[(1 : Fin 2).val]? = some ⟨[2], 80⟩ ∧
      s.bus.pages[(0 : Fin 2).val]? = some ⟨[1], 79⟩ ∧ u.ready = true ∧ (attemptOf .mark none s).inSlot = true := by
  decide

/-- A FOLLOW and a PAGE under attempt at their deadlines. -/
theorem witness_DeadlinesDropFrames_attempt :
    let s := (base 5).withBus { (base 5).bus with
      follow := some ⟨follow 9 5, 78⟩, pages := [⟨[1], 79⟩, ⟨[2], 80⟩] }
    let u := fun k => s.withBus { s.bus with attempt := some (attemptOf k none s) }
    (u .follow).ready = true ∧ (u .follow).bus.follow = some ⟨follow 9 5, 78⟩ ∧ (u .page).ready = true ∧
      (u .page).bus.pages[0]? = some ⟨[1], 79⟩ ∧ (u .page).bus.pages[1]? = some ⟨[2], 80⟩ := by decide

/-- Hypotheses on what a received frame reads as, and an own address heard. -/
theorem witness_ReceivedFramesDiscardedOrOwn :
    (hearing (base 5)).hears (stampOf 5) = true ∧ readFrame ⟨false, false, 32, [1]⟩ = .bad ∧
    readFrame ⟨true, false, 33, []⟩ = .ignored ∧ readFrame ⟨false, false, 99, [0, 0, 0, 0]⟩ = .other 2 ∧
    readFrame ⟨false, false, 98, [0, 0, 0, 0]⟩ = .other (hearing (base 5)).pwr.address ∧
    (2 : Fin 16) ≠ (hearing (base 5)).pwr.address := by decide

theorem witness_MarksAwaitTheirFollow :
    let s := (base 5).withPtu ((base 5).ptu.setMark 2 (some ⟨41, 70000410, 5, 0, 5320000410⟩))
    (hearing s).hears (stampOf 5) = true ∧ (2 : Fin 16) ≠ s.pwr.address ∧ s.ready = true ∧
      s.ptu.marks[(2 : Fin 16)] = some ⟨41, 70000410, 5, 0, 5320000410⟩ ∧ (base 5).ptu.marks[(2 : Fin 16)] = none := by
  decide

theorem witness_FollowsPairWithTheirMark :
    let m : PendingMark := ⟨41, 70000410, 5, 0, 5320000410⟩
    let s := hearing ((base 5).withPtu ((base 5).ptu.setMark 2 (some m)))
    let q := hearing ((base 5).withPtu (((base 5).ptu.setMark 2 (some m)).setPeer 2 (some (peer .quarantined 4 5))))
    s.hears (stampOf 5) = true ∧ s.ptu.marks[(2 : Fin 16)] = some m ∧ m.seq = (follow 41 70000300).seq ∧
      m.seq ≠ (follow 42 70000300).seq ∧ s.ptu.peers[(2 : Fin 16)] = none ∧ q.hears (stampOf 5) = true ∧
      q.ptu.peers[(2 : Fin 16)] = some (peer .quarantined 4 5) := by decide

/-- A LEARNING and an ACTIVE entry at the peer limit of 300 ns and past it, with and without a filtered lead, with a
step-count change that is a fourth within 600 s and one that is not, and a slewing peer. -/
theorem witness_FollowsPairWithTheirMark_entries :
    let m : PendingMark := ⟨41, 70000410, 5, 0, 5320000410⟩
    let s := fun e => hearing ((base 5).withPtu (((base 5).ptu.setMark 2 (some m)).setPeer 2 (some e)))
    let e : PeerEntry := { peer .active 40 5 with window := [true, true], stepTimes := [1, 2, 3] }
    let lead := fun tx => leadSample tx m (base 5).cfg.busDelay
    (s e).hears (stampOf 5) = true ∧ (s { e with state := .learning }).ptu.peers[(2 : Fin 16)] ≠ none ∧
      e.state ≠ .quarantined ∧ e.lf16 = some 640 ∧ { e with lf16 := none }.lf16 = none ∧
      (follow 41 0).slewing = false ∧ { follow 41 0 with slewing := true }.slewing = true ∧
      (follow 41 0).stepCount = e.stepSeen ∧ { follow 41 0 with stepCount := 2 }.stepCount ≠ e.stepSeen ∧
      (fold 1000000000 (lead 70000600 - roundDiv 640 16)).natAbs = (base 5).cfg.peerLimit ∧
      (fold 1000000000 (lead 70000601 - roundDiv 640 16)).natAbs = 301 ∧ fourWithin (pushBounded 4 [1, 2, 3] 5) = true ∧
      fourWithin (pushBounded 4 [] 5) = false ∧ 3 ≤ outCount (pushBounded 8 e.window true) ∧
      outCount (pushBounded 8 [] true) < 3 := by decide +kernel

/-- A mark that its entry lost at boundary 5, and a FOLLOW at that instant and later. -/
theorem witness_FollowsPairWithTheirMark_lapsed :
    let m : PendingMark := ⟨41, 970000410, 4, 0, 5220000410⟩
    let s := hearing ((base 5).withPtu { (base 5).ptu with lapsed := (base 5).ptu.lapsed.set 2 (some m) })
    s.hears (stampOf 5) = true ∧ s.ptu.marks[(2 : Fin 16)] = none ∧ s.ptu.lapsed[(2 : Fin 16)] = some m ∧
      s.tsg.lastBoundary = 5000000000 ∧ m.seq = (follow 41 70000300).seq ∧ m.seq ≠ (follow 42 70000300).seq := by decide

/-- A mask without the station's bit, and a code beyond the table's at each end. -/
theorem witness_CommandsForOthersIgnored :
    (hearing (base 5)).hears (stampOf 5) = true ∧ isNamed ⟨0xFFFD, 0, 0⟩ (hearing (base 5)) = false ∧
    isNamed (toAll 0 0) (hearing (base 5)) = true ∧ (15 : Nat) < (16#8).toNat ∧
    commandOf (.frameReceived (atEnd 5) (commandRaw 7 ⟨0xFFFD, 0, 0⟩)) = some (7, ⟨0xFFFD, 0, 0⟩) := by decide +kernel

theorem witness_FlagCommands : (hearing (base 5)).hears (stampOf 5) = true ∧ isNamed (toAll 0 65535) (hearing (base 5)) ∧
    (toAll 0 65535).argument.toNat ≤ 65535 ∧ 65535 < (toAll 0 65536).argument.toNat ∧
    (hearing (base 5)).bus.listenOnly = false := by decide

/-- Flags that are raised and not, enabled, with the ALERT under attempt and not. -/
theorem witness_FlagCommands_alert :
    let s := (hearing (base 5)).withScu ⟨1, 3, .none⟩
    let u := s.withBus { s.bus with alert := some 8, attempt := some (attemptOf .alert none s) }
    s.hears (stampOf 5) = true ∧ (toAll 0 3).argument.extractLsb' 0 16 &&& s.scu.enabled &&& ~~~s.scu.raised = 2 ∧
      hasFlag s.scu.raised .oscLoss = true ∧ hasFlag s.scu.raised .steerLimit = false ∧
      hasFlag s.scu.enabled .steerLimit = true ∧ u.bus.attempting .alert = true ∧ s.bus.attempting .alert = false ∧
      u.bus.listenOnly = false := by decide

/-- A query in listen-only, and flags not enabled or in listen-only. -/
theorem witness_FlagCommands_quiet :
    let s := (hearing (base 5)).withBus { (hearing (base 5)).bus with listenOnly := true }
    s.hears (stampOf 5) = true ∧ isNamed (toAll 0 0) s = true ∧ s.bus.listenOnly = true ∧
      hasFlag s.scu.raised .oscLoss = false ∧ hasFlag s.scu.enabled .oscLoss = false := by decide

/-- Each refusal of R160 and R12 in turn, and an acceptance at the ends of the range. -/
theorem witness_PhaseAdjustments :
    let s := hearing (base 5)
    let full := s.withTsg { s.tsg with slot := some ⟨.engine, .step, 5, 5, 6, false⟩ }
    let edge := s.withBus { s.bus with seen := some ⟨5, 49999990, 5000000000⟩ }
    s.hears (stampOf 5) = true ∧ isNamed (toAll 15 499999999) s = true ∧
      (toAll 15 499999999).argument.toInt = 499999999 ∧ (toAll 15 499999999).byte3.toNat = 15 ∧
      (toAll 1 500000000).argument.toInt = 500000000 ∧ (toAll 0 5).byte3.toNat = 0 ∧
      s.silent = false ∧ s.inGuard (stampOf 5) = false ∧ s.tsg.slot = none ∧ s.tsg.committed = none ∧
      (inState .fault none s).silent = true ∧ full.tsg.slot ≠ none ∧ edge.inGuard ⟨5, 49999990, 5000000000⟩ = true ∧
      s.tsg.nextWith 1 = 5999999999 := by decide +kernel

/-- A step of 499,999,999 ns that would bring the next boundary within 50 ms of the timestamp. -/
theorem witness_PhaseAdjustments_late :
    let s := hearing (base 5)
    let s := s.withBus { s.bus with seen := some ⟨5, 500000000, 5000000000⟩ }
    s.hears ⟨5, 500000000, 5000000000⟩ = true ∧ s.inGuard ⟨5, 500000000, 5000000000⟩ = false ∧
      s.tsg.nextWith 499999999 < (⟨5, 500000000, 5000000000⟩ : Stamp).instant + 50000000 := by decide +kernel

theorem witness_AbortEmptiesTheSlot :
    let s := hearing slewing
    let u := s.withTsg { s.tsg with committed := none, slot := some ⟨.command, .slew, 250, 50, 1002, true⟩ }
    s.hears (stampOf 1001) = true ∧ isNamed (toAll 0 0) s = true ∧ s.tsg.committed ≠ none ∧
      u.hears (stampOf 1001) = true ∧ u.tsg.committed = none ∧ u.tsg.slewStarted = true := by decide

theorem witness_InhibitAndRelease :
    let s := hearing (locked 5)
    let w := inState .warmup none s
    s.hears (stampOf 5) = true ∧ isNamed (toAll 0 0) s = true ∧ s.silent = false ∧ s.mon.qual = .qualified ∧
      (w.withEng { w.eng with warmupLeft := 9 }).hears (stampOf 5) = true ∧ w.silent = true := by decide

theorem witness_HistoryReleaseAndTableRead :
    let s := hearing (base 5)
    let full := s.withBus { s.bus with pages := [⟨[1], 79⟩, ⟨[2], 80⟩] }
    let quiet := s.withBus { s.bus with listenOnly := true }
    s.hears (stampOf 5) = true ∧ isNamed (toAll 69 0) s = true ∧ (toAll 69 0).byte3.toNat ≤ 69 ∧
      69 < (toAll 70 0).byte3.toNat ∧ s.bus.pages.length < 2 ∧ full.hears (stampOf 5) = true ∧
      2 ≤ full.bus.pages.length ∧ quiet.hears (stampOf 5) = true ∧ quiet.bus.listenOnly = true := by decide

theorem witness_LearnSaveAndClear :
    let s := hearing (base 5)
    let run := s.withLrn { s.lrn with pageWrite := some ⟨272, [1], false⟩ }
    let busy := s.withLrn { s.lrn with save := some ⟨3, 0, []⟩ }
    s.hears (stampOf 5) = true ∧ isNamed (toAll 0 0) s = true ∧ s.lrn.save = none ∧ s.lrn.pageWrite = none ∧
      run.hears (stampOf 5) = true ∧ run.lrn.pageWrite ≠ none ∧ busy.hears (stampOf 5) = true ∧
      busy.lrn.save ≠ none := by decide

theorem witness_PageWritesLandOrFail :
    let s := fun n => (base 5).withLrn { (base 5).lrn with
      save := some ⟨n, 0, []⟩, pageWrite := some ⟨272, [1, 2], true⟩ }
    let drain := (base 5).withLrn { (base 5).lrn with pageWrite := some ⟨272, [1, 2], false⟩ }
    (s 36).ready = true ∧ (s 36).lrn.pageWrite = some ⟨272, [1, 2], true⟩ ∧ Memory.wf (s 36).eeprom = true ∧
      (s 37).ready = true ∧ drain.ready = true ∧ drain.lrn.save = none ∧
      ([1, 2] : List Byte)[1]? = some 2 ∧ (⟨272, [1, 2], false⟩ : PageWrite).validates = false ∧
      (⟨256, [182, 77], false⟩ : PageWrite).validates = true := by decide

/-- The last page of each kind, and the first of the next. -/
theorem witness_PageWritesLandOrFail_pages :
    (savePageAddr 1).toNat = 272 ∧ (savePageAddr 36).toNat = 832 ∧ (savePageAddr 37).toNat = 256 ∧
    savePageBytes (base 5) ⟨37, 515, [(7, 256)]⟩ = [182, 77, 0, 0, 1, 2, 3] ++ List.replicate 9 0 ∧
    savePageBytes (base 5) ⟨33, 0, [(7, 256)]⟩ = [0, 0, 0, 7, 0, 0, 1, 0] ++ List.replicate 8 0 := by decide +kernel

theorem witness_RestartValues :
    let s := hearing (locked 5)
    let w := s.withEng { s.eng with warmupLeft := 1 }
    s.ready = true ∧ s.bus.joined = true ∧ s.bus.seen = some (stampOf 5) ∧ s.bus.attempt = none ∧
      isNamed (toAll 0 0) s = true ∧ s.eng.warmupLeft = 0 ∧ s.cfg.holdoverLimit < 2097151 ∧
      w.ready = true ∧ 0 < w.eng.warmupLeft ∧ attempting.ready = true ∧ attempting.bus.joined = true ∧
      attempting.bus.attempt ≠ none ∧ attempting.bus.seen = some (stampOf 5) ∧
      isNamed (toAll 0 0) attempting = true := by decide +kernel

/-- A slew that runs with no portion committed, and one whose portion is committed. -/
theorem witness_RestartValues_slew :
    let u := slewing.withTsg { slewing.tsg with committed := none, slot := some ⟨.command, .slew, 250, 50, 1002, true⟩ }
    u.ready = true ∧ u.tsg.committed = none ∧ u.tsg.slewStarted = true ∧ slewing.tsg.committed ≠ none ∧
      (base 5).eng.state = .freerun := by decide

/-- The step threshold is 1,000 and the lock threshold 100: inputs in ACQUIRE at them and past them, with the slot free
and taken, in time for the next boundary and not. -/
theorem witness_LockedObservationSteers_acquire :
    let s := inState .acquire (some .reference) (locked 5)
    let n := fun k => s.withEng { s.eng with lockCount := k }
    s.eng.state = .acquire ∧ s.eng.source = some .reference ∧ s.eng.inhibit = false ∧ s.mon.qual = .qualified ∧
      s.cfg.stepThreshold < (1001 : Int).natAbs ∧ (1000 : Int).natAbs ≤ s.cfg.stepThreshold ∧
      (100 : Int).natAbs ≤ s.cfg.lockThreshold ∧ s.cfg.lockThreshold < (101 : Int).natAbs ∧
      (n 3).eng.lockCount + 1 = 4 ∧ s.tsg.slot = none ∧ slewing.tsg.slot ≠ none ∧ s.tsg.committed = none ∧
      s.tsg.now + 50000000 ≤ s.tsg.nextBoundary ∧ 2 ≤ ((locked 5).withEng { s.eng with largeCount := 2 }).eng.largeCount := by
  decide +kernel

/-- Consensus inputs in FOLLOW and in ACQUIRE, present and absent, and points that disagree in LOCKED. -/
theorem witness_LockedObservationSteers_points :
    let s := inState .follow (some (.tier .two)) (base 64)
    let p := s.withPtu { s.ptu with tier2 := ⟨some (lead 1001), some 64⟩ }
    let c : Consensus := ⟨1001, 1000, 2, 32, 35⟩
    let k := (locked 64).withPtu { (((locked 64).ptu.setPeer 2 (some (peer .active 1001 63))).setPeer 3
      (some (peer .active 2001 63))) with tier1 := ⟨some c, some 64⟩ }
    let k := k.withEng { k.eng with disagree := 3 }
    (s.ptu.tier .two).consensus = none ∧ (p.ptu.tier .two).consensus = some (lead 1001) ∧ s.silent = false ∧
      (inState .fault none s).silent = true ∧ c.spread ≤ k.cfg.disagreeThreshold ∧
      k.cfg.disagreeThreshold < c.value.natAbs ∧ k.eng.disagree + 1 = k.cfg.disagreeCount ∧
      consensusOf (k.contributors .one) = some ⟨1501, 1000, 2, 32, 35⟩ ∧
      (observationPoint k).eng.source = some (.tier .one) := by decide +kernel

/-- The step threshold is 1,000: an observation at it. -/
theorem witness_LockedObservationSteers : (locked 5).eng.state = .locked ∧
    (locked 5).eng.source = some .reference ∧ (locked 5).eng.inhibit = false ∧ (locked 5).mon.qual = .qualified ∧
    (-1000 : Int).natAbs ≤ (locked 5).cfg.stepThreshold ∧ (locked 5).lrn.sampling ≠ .fresh := by decide

/-- A stay in HOLDOVER and one in FREERUN at a boundary that is no point, with a temperature and without one, and a
tier-2 consensus for the nudge and none. -/
theorem witness_LockedObservationSteers_free :
    let s := (base 44200).withLrn { (base 44200).lrn with lastReading := some 0 }
    let h := (inState .holdover none s).withEng { (inState .holdover none s).eng with
      record := some ⟨1000, 3251000, some 25, 50, 40⟩, lastPrediction := some 3214 }
    let n := h.withPtu { h.ptu with tier2 := ⟨some (lead 17), some 44192⟩ }
    h.ready = true ∧ h.tsg.osc = .present ∧ h.mon.held = none ∧
      (h.tsg.boundaryIndex + 1) % 4294967296 % h.cfg.pointInterval ≠ 0 ∧ h.eng.record ≠ none ∧ s.ready = true ∧
      s.eng.state = .freerun ∧ s.lrn.currentBin = some 20 ∧ (base 44200).lrn.currentBin = none ∧
      h.eng.lastPrediction = some 3214 ∧ h.ptu.tier2.consensus = none ∧ n.ptu.tier2.consensus = some (lead 17) := by
  decide +kernel

/-- The ends of bin 20: 0 and 15 eighths of a degree. -/
theorem witness_BinOfTemperature : (20 : Nat) < 64 ∧ 8 * (-40 + 2 * ((20 : Nat) : Int)) ≤ 0 ∧
    (15 : Int) < 8 * (-38 + 2 * ((20 : Nat) : Int)) ∧ (-321 : Int) < 8 * -40 ∧ 8 * 86 ≤ (688 : Int) := by decide

theorem witness_ConsensusLiesBetweenLeads :
    let s := withPeer .idle (peer .active (-40) 59) none
    consensusOf (s.contributors .one) = some ⟨-40, 0, 1, 16, 35⟩ ∧ 0 < totalWeight (s.contributors .one) ∧
      (s.contributors .one).all (·.lead.natAbs ≤ 500000000) = true := by decide +kernel

/-- The station alone in tier 2, in HOLDOVER with U 222. -/
theorem witness_ConsensusLiesBetweenLeads_own :
    let s := (inState .holdover none (base 60)).withEng { (inState .holdover none (base 60)).eng with u := 222 }
    s.contributors .two = (s.ownContribution .two).toList ∧ 0 < totalWeight (s.contributors .two) := by decide +kernel

/-- Section 8.10: half a day, an exact sum. -/
theorem witness_HoldoverUncertainty :
    let s := (inState .holdover none (base 44200))
    let s := s.withEng { s.eng with record := some ⟨1000, 3251000, some 25, 50, 40⟩ }
    s.eng.state = .holdover ∧ s.eng.record = some ⟨1000, 3251000, some 25, 50, 40⟩ ∧ s.uncertainty = 2416 ∧
      secondsSince s.second 1000 = 43200 := by decide +kernel

/-- The invariants hold of a part that runs, for a command it then takes. -/
theorem witness_invariants : (locked 5).EepromCanonical ∧ (locked 5).MuteObeyed ∧ (locked 5).ListenOnlyQuiet ∧
    (locked 5).ReferenceTrusted ∧ (locked 5).WithinCapacity := by
  refine ⟨rfl, fun h => absurd h (by decide), ⟨?_, ?_, ?_, ?_, ?_, ?_, ?_⟩, ⟨fun _ => rfl, fun _ _ => ⟨rfl, rfl⟩⟩,
    ⟨by decide, by decide, by decide, by decide, by decide⟩⟩ <;> exact fun h => absurd h (by decide)

/-- A part in second 5 of a running timescale meets the invariants of its numbers. -/
theorem witness_invariants_numbers : slewing.tsg.Scheduled ∧ (locked 5).CountersHeld ∧ (locked 5).SteeringBounded := by
  refine ⟨⟨fun _ => by decide +kernel, fun _ => by decide +kernel, fun _ => by decide +kernel⟩,
    ⟨by decide, by decide, by decide, by decide, by decide, by decide, by decide, by decide +kernel⟩,
    ⟨by decide, by decide, by decide, by decide, by decide +kernel, by decide, by decide⟩⟩

/-- A slew under way with its next portion committed, and an engine record that tracks. -/
theorem witness_invariants_slot : slewing.tsg.SlotSound :=
  ⟨fun r h => by cases h; decide, fun c h _ => by cases h; exact ⟨_, rfl, by decide⟩⟩

theorem witness_EngineRecordFitsItsState : (locked 5).eng.RecordFits :=
  ⟨by decide, fun h => absurd h (by decide), by decide, by decide, by decide, by decide, by decide, by decide, by decide,
    by decide⟩

theorem witness_OwnEntryStaysEmpty :
    (withPeer .idle (peer .active 40 59) none).OwnEntryEmpty :=
  ⟨fun h => absurd h (by decide), by decide, by decide⟩

/-- A step at which the invariants say something: a boundary. -/
theorem witness_invariants_step : ∃ t, step ((locked 5).withPending [.ownBoundary []]) = .next t := ⟨_, rfl⟩

theorem witness_FaultLeftOnlyByReset :
    (inState .fault none (locked 5)).eng.state = .fault ∧ isReset (.ownBoundary []) = false ∧
    carries (.ownBoundary []) 15 = false := by decide

theorem witness_RaisedFlagsStay :
    hasFlag ((base 5).withScu ⟨0x0001, 0, .none⟩).scu.raised .oscLoss = true ∧
    isReset (.errorSet (atEnd 5) (toAll 0 1)) = false ∧ carries (.errorSet (atEnd 5) (toAll 0 1)) 2 = false ∧
    carries (.errorSet (atEnd 5) (toAll 0 1)) 15 = false := by decide

/-- An observation that completes a block of one measurement changes the current bin. -/
theorem witness_TableChangesOnlyByLearning :
    let s := (locked 5).withCfg { (locked 5).cfg with decimation := 1 }
    let s := s.withLrn { s.lrn with sampling := .fresh, lastReading := some 90 }
    isReset (.refPulse 5000000000) = false ∧ carries (.refPulse 5000000000) 14 = false ∧ s.settled = true ∧
      (after (.refPulse 5000000000) s).lrn.table ≠ s.lrn.table ∧ s.lrn.currentBin = some 25 := by decide +kernel

/-- A boundary within a stay in HOLDOVER whose bound is current. -/
theorem witness_HoldoverUncertainty_step :
    let s := (inState .holdover none (base 44200))
    let s := s.withEng { s.eng with record := some ⟨1000, 3251000, some 25, 50, 40⟩, u := 2416 }
    let u := after (.ownBoundary []) s
    s.eng.u = s.uncertainty ∧ secondsSince s.second 1000 + 1 < 4294967296 ∧ u.eng.state = .holdover ∧
      u.eng.record = s.eng.record ∧ u.eng.u = 2417 := by decide +kernel

theorem witness_WhatCommandsLeaveAlone : isReset (.refPulse 5) = false ∧ isReset .eepromPageWriteDone = false := by decide

end Sys2Proof.Tests
end

section
/-! PROOF. The pending-mark table (R68, R69): what filling and losing a mark do to the Peer Table Unit, and the two
commands that bring them. -/

namespace Sys2Proof.Machine

@[simp] theorem PeerUnit.setMark_peers (p : PeerUnit) (a : Fin 16) (m : Option PendingMark) :
    (p.setMark a m).peers = p.peers := rfl
@[simp] theorem PeerUnit.setMark_orphan (p : PeerUnit) (a : Fin 16) (m : Option PendingMark) :
    (p.setMark a m).orphan = p.orphan := rfl
@[simp] theorem PeerUnit.setMark_unpaired (p : PeerUnit) (a : Fin 16) (m : Option PendingMark) :
    (p.setMark a m).unpaired = p.unpaired := rfl

@[simp] theorem PeerUnit.setMark_marks_same (p : PeerUnit) (a : Fin 16) (m : Option PendingMark) :
    (p.setMark a m).marks[a] = m := by simp [PeerUnit.setMark]

theorem PeerUnit.setMark_marks_other (p : PeerUnit) {a b : Fin 16} (m : Option PendingMark) (h : b ≠ a) :
    (p.setMark a m).marks[b] = p.marks[b] :=
  Vector.getElem_set_ne a.isLt b.isLt (Fin.val_ne_of_ne h.symm)

/-- An empty slot has no mark to lose. -/
theorem PeerUnit.dropMark_of_empty {p : PeerUnit} {a : Fin 16} (h : p.marks[a] = none) : p.dropMark a = p := by
  simp [PeerUnit.dropMark, h]

/-- A filled slot empties and counts (R69). -/
theorem PeerUnit.dropMark_of_filled {p : PeerUnit} {a : Fin 16} {m : PendingMark} (h : p.marks[a] = some m) :
    p.dropMark a = { p.setMark a none with unpaired := countUp p.unpaired } := by
  simp [PeerUnit.dropMark, h]

/-- A lost mark touches its own slot and the unpaired counter alone. -/
@[simp] theorem PeerUnit.dropMark_peers (p : PeerUnit) (a : Fin 16) : (p.dropMark a).peers = p.peers := by
  cases h : p.marks[a] with
  | none => rw [dropMark_of_empty h]
  | some m => rw [dropMark_of_filled h, setMark_peers]

@[simp] theorem PeerUnit.dropMark_orphan (p : PeerUnit) (a : Fin 16) : (p.dropMark a).orphan = p.orphan := by
  cases h : p.marks[a] with
  | none => rw [dropMark_of_empty h]
  | some m => rw [dropMark_of_filled h, setMark_orphan]

theorem PeerUnit.dropMark_unpaired (p : PeerUnit) (a : Fin 16) :
    (p.dropMark a).unpaired = if p.marks[a] = none then p.unpaired else countUp p.unpaired := by
  cases h : p.marks[a] with
  | none => rw [dropMark_of_empty h, if_pos rfl]
  | some m => rw [dropMark_of_filled h, if_neg (Option.some_ne_none m)]

@[simp] theorem PeerUnit.dropMark_marks_same (p : PeerUnit) (a : Fin 16) : (p.dropMark a).marks[a] = none := by
  cases h : p.marks[a] with
  | none => rw [dropMark_of_empty h, h]
  | some m => rw [dropMark_of_filled h, setMark_marks_same]

theorem PeerUnit.dropMark_marks_other (p : PeerUnit) {a b : Fin 16} (h : b ≠ a) :
    (p.dropMark a).marks[b] = p.marks[b] := by
  cases hm : p.marks[a] with
  | none => rw [dropMark_of_empty hm]
  | some m => rw [dropMark_of_filled hm, setMark_marks_other p none h]

/-- A MARK of another station that the part hears is taken once its reception has ended (R52, R68). -/
theorem exec_markFrame_of_hears {s : State} {st : Stamp} (t : Instant) {a : Fin 16} (seq : BitVec 8)
    (hs : s.hears st = true) (ha : a ≠ s.pwr.address) :
    exec (.markFrame t a seq) s = .next (takeMark a seq st (s.heard t)) := by
  calc exec (.markFrame t a seq) s
      = .next (handOver (.mark a seq) st (s.heard t)) := receive_of_hears t (.mark a seq) hs
    _ = .next (takeMark a seq st (s.heard t)) := by simp [handOver, ha]

/-- The expiry of a held mark's timer loses that mark at the timer's instant (R69). -/
theorem exec_pendingTimerExpiry_of_filled {s : State} {a : Fin 16} {m : PendingMark} (hr : s.ready = true)
    (hm : s.ptu.marks[a] = some m) :
    exec (.pendingTimerExpiry a) s = .next ((s.at m.timer).withPtu (s.ptu.dropMark a)) := by
  calc exec (.pendingTimerExpiry a) s
      = execPendingTimerExpiry a s := rfl
    _ = .next ((s.at m.timer).withPtu (s.ptu.dropMark a)) := by
        rw [execPendingTimerExpiry, event_of_ready _ hr]
        simp only [hm]

end Sys2Proof.Machine

open Sys2Proof.Machine

/-- Settles O32: a MARK is a lost mark, where one was held, followed by a filled slot; an expiry is a lost mark. -/
theorem marksAwaitTheirFollow : Obligations.MarksAwaitTheirFollow := by
  unfold Obligations.MarksAwaitTheirFollow
  constructor
  · intro s st t a seq hs ha
    refine ⟨(s.ptu.dropMark a).setMark a (some ⟨seq, st.ns, st.second, 0, st.instant + 250000000⟩),
      ?_, ?_, ?_, ?_, ?_, ?_⟩
    · rw [exec_markFrame_of_hears t seq hs ha]
      simp [takeMark]
    · exact PeerUnit.setMark_marks_same ..
    · intro b hb
      rw [PeerUnit.setMark_marks_other _ _ hb, PeerUnit.dropMark_marks_other _ hb]
    · simp
    · simp
    · rw [PeerUnit.setMark_unpaired, PeerUnit.dropMark_unpaired]
  · intro s a m hr hm
    exact ⟨s.ptu.dropMark a, exec_pendingTimerExpiry_of_filled hr hm, PeerUnit.dropMark_marks_same ..,
      fun b hb => PeerUnit.dropMark_marks_other _ hb, PeerUnit.dropMark_peers .., PeerUnit.dropMark_orphan ..,
      by rw [PeerUnit.dropMark_unpaired, hm, if_neg (Option.some_ne_none m)]⟩

end

section
/-! PROOF. The site consensus (R90 to R95): rounding halves away from zero, the contributors of a tier and their
weights, the least and the greatest of them, and the weighted mean that lies between. -/

namespace Sys2Proof.Machine

/-! ### Rounding (section 4.2) -/

/-- A quotient at or above zero rounds to within half a unit, an exact half upward. -/
theorem roundDiv_of_nonneg {n : Int} {d : Nat} (hd : 0 < d) (hn : 0 ≤ n) :
    -(d : Int) < 2 * (roundDiv n d * d - n) ∧ 2 * (roundDiv n d * d - n) ≤ d := by
  have hq : 2 * (roundDiv n d * d) + (2 * n + d) % (2 * (d : Int)) = 2 * n + d := by
    rw [Int.mul_comm (roundDiv n d), ← Int.mul_assoc, roundDiv, if_pos hn]
    exact Int.mul_ediv_add_emod ..
  have hr : 0 ≤ (2 * n + d) % (2 * (d : Int)) := Int.emod_nonneg _ (by omega)
  have hlt : (2 * n + d) % (2 * (d : Int)) < 2 * d := Int.emod_lt_of_pos _ (by omega)
  constructor <;> omega

/-- Rounding is symmetric about zero: below it, halves go downward. -/
theorem roundDiv_of_neg {n : Int} (d : Nat) (hn : n < 0) : roundDiv n d = -roundDiv (-n) d := by
  rw [roundDiv, roundDiv, if_neg (by omega), if_pos (by omega)]

/-- The rounded quotient is off by half a unit at most. -/
theorem roundDiv_near (n : Int) {d : Nat} (hd : 0 < d) : 2 * (roundDiv n d * d - n).natAbs ≤ d := by
  obtain hn | hn := Int.lt_or_le n 0
  · have := roundDiv_of_nonneg hd (show 0 ≤ -n by omega)
    rw [roundDiv_of_neg d hn, Int.neg_mul]
    omega
  · have := roundDiv_of_nonneg hd hn
    omega

/-- An exact half goes away from zero. -/
theorem roundDiv_away {n : Int} {d : Nat} (hd : 0 < d) (half : 2 * (roundDiv n d * d - n).natAbs = d) :
    n.natAbs < (roundDiv n d * d).natAbs := by
  obtain hn | hn := Int.lt_or_le n 0
  · have := roundDiv_of_nonneg hd (show 0 ≤ -n by omega)
    rw [roundDiv_of_neg d hn, Int.neg_mul] at half ⊢
    omega
  · have := roundDiv_of_nonneg hd hn
    omega

/-- Rounding does not carry a quotient below a whole number that it is not below. -/
theorem le_roundDiv {l n : Int} {d : Nat} (hd : 0 < d) (h : l * d ≤ n) : l ≤ roundDiv n d := by
  refine Int.not_lt.mp fun hlt => ?_
  have hstep : roundDiv n d * d ≤ (l - 1) * d := Int.mul_le_mul_of_nonneg_right (by omega) (by omega)
  have := roundDiv_near n hd
  rw [Int.sub_mul] at hstep
  omega

/-- Nor above one that it is not above. -/
theorem roundDiv_le {g n : Int} {d : Nat} (hd : 0 < d) (h : n ≤ g * d) : roundDiv n d ≤ g := by
  refine Int.not_lt.mp fun hlt => ?_
  have hstep : (g + 1) * d ≤ roundDiv n d * d := Int.mul_le_mul_of_nonneg_right (by omega) (by omega)
  have := roundDiv_near n hd
  rw [Int.add_mul] at hstep
  omega

/-! ### Weights and contributors (R90 to R92) -/

/-- A weight is above zero up to the last band's limit (R90). -/
theorem weightOf_pos {u : Nat} : 0 < weightOf u ↔ u ≤ 25600 := by
  unfold weightOf
  repeat' split
  all_goals omega

theorem weightOf_le (u : Nat) : weightOf u ≤ 16 := by
  unfold weightOf
  repeat' split
  all_goals omega

/-- What R91 asks of a peer, with the weight's condition as the limit of U. -/
theorem PeerEntry.contribution_eq (e : PeerEntry) (t : Tier) :
    e.contribution t = e.lf16.bind fun v =>
      if e.state = .active ∧ e.slewing = false ∧ e.u ≤ 25600 ∧ tierOf e.cls = some t then
        some ⟨roundDiv v 16, e.u, weightOf e.u⟩
      else none := by
  cases h : e.lf16 <;> simp [PeerEntry.contribution, h, weightOf_pos, leadOf]

/-- HOLD is the class of HOLDOVER alone. -/
theorem State.cls_eq_hold {s : State} : s.cls = some .hold ↔ s.eng.state = .holdover := by
  unfold State.cls
  cases s.eng.state <;> simp [classOf]

/-- What R92 asks of the station itself, with the weight's condition as the limit of U. -/
theorem State.ownContribution_toList (s : State) (t : Tier) :
    (s.ownContribution t).toList =
      if t = .two ∧ s.eng.state = .holdover ∧ s.eng.u ≤ 25600 then [⟨0, s.eng.u, weightOf s.eng.u⟩] else [] := by
  cases t with
  | one => simp [ownContribution]
  | two =>
    simp only [ownContribution, cls_eq_hold, weightOf_pos, true_and]
    split <;> rfl

theorem toList_eq_map_finRange {α : Type} {n : Nat} (v : Vector α n) :
    v.toList = (List.finRange n).map fun i => v[i] :=
  List.ext_getElem (by simp) (by simp)

/-- The contributors, address by address (R91, R92). -/
theorem State.contributors_eq (s : State) (t : Tier) :
    s.contributors t =
      (List.finRange 16).filterMap (fun a => s.ptu.peers[a].bind (·.contribution t)) ++
        (s.ownContribution t).toList := by
  rw [contributors, toList_eq_map_finRange, List.filterMap_map]
  rfl

/-- A contributor counts with the weight of its U, which is above zero (R90). -/
def Contributor.Weighted (c : Contributor) : Prop := c.weight = weightOf c.u ∧ c.u ≤ 25600

theorem Contributor.Weighted.pos {c : Contributor} (h : c.Weighted) : 0 < c.weight :=
  h.1 ▸ weightOf_pos.mpr h.2

theorem Contributor.Weighted.le {c : Contributor} (h : c.Weighted) : c.weight ≤ 16 :=
  h.1 ▸ weightOf_le c.u

theorem PeerEntry.contribution_weighted {e : PeerEntry} {t : Tier} {c : Contributor}
    (h : e.contribution t = some c) : c.Weighted := by
  rw [contribution_eq, Option.bind_eq_some_iff] at h
  obtain ⟨v, -, hv⟩ := h
  obtain ⟨⟨-, -, hu, -⟩, hc⟩ := Option.ite_none_right_eq_some.mp hv
  cases hc
  exact ⟨rfl, hu⟩

theorem State.ownContribution_spec {s : State} {t : Tier} {c : Contributor} (h : c ∈ (s.ownContribution t).toList) :
    c.lead = 0 ∧ c.Weighted := by
  rw [ownContribution_toList] at h
  split at h
  next hold =>
    obtain rfl := List.mem_singleton.mp h
    exact ⟨rfl, rfl, hold.2.2⟩
  next => simp at h

theorem State.contributors_weighted {s : State} {t : Tier} {c : Contributor} (h : c ∈ s.contributors t) :
    c.Weighted := by
  rw [contributors, List.mem_append, List.mem_filterMap] at h
  obtain ⟨p, -, hp⟩ | own := h
  · obtain ⟨e, -, he⟩ := Option.bind_eq_some_iff.mp hp
    exact PeerEntry.contribution_weighted he
  · exact (ownContribution_spec own).2

/-! ### The least and the greatest of the contributors (R94) -/

theorem least_eq_foldl (x : Int) (cs : List Contributor) : least x cs = (cs.map (·.lead)).foldl min x := by
  induction cs generalizing x with
  | nil => rfl
  | cons c cs ih => exact ih _

theorem leastU_eq_foldl (u : Nat) (cs : List Contributor) : leastU u cs = (cs.map (·.u)).foldl min u := by
  induction cs generalizing u with
  | nil => rfl
  | cons c cs ih => exact ih _

/-- The least of a quantity over a list is a member's, and no member's is below it. -/
theorem foldl_min_spec {α β : Type} [LE β] [Min β] [Std.IsLinearOrder β] [Std.LawfulOrderMin β]
    (f : α → β) (c : α) (cs : List α) :
    (∃ x ∈ c :: cs, (cs.map f).foldl min (f c) = f x) ∧ ∀ x ∈ c :: cs, (cs.map f).foldl min (f c) ≤ f x := by
  have hmin : ((c :: cs).map f).min? = some ((cs.map f).foldl min (f c)) := List.min?_cons'
  obtain ⟨mem, bound⟩ := List.min?_eq_some_iff.mp hmin
  obtain ⟨x, hx, heq⟩ := List.mem_map.mp mem
  exact ⟨⟨x, hx, heq.symm⟩, fun y hy => bound _ (List.mem_map_of_mem hy)⟩

theorem least_spec (c : Contributor) (cs : List Contributor) :
    (∃ x ∈ c :: cs, least c.lead cs = x.lead) ∧ ∀ x ∈ c :: cs, least c.lead cs ≤ x.lead :=
  least_eq_foldl c.lead cs ▸ foldl_min_spec (·.lead) c cs

theorem leastU_spec (c : Contributor) (cs : List Contributor) :
    (∃ x ∈ c :: cs, leastU c.u cs = x.u) ∧ ∀ x ∈ c :: cs, leastU c.u cs ≤ x.u :=
  leastU_eq_foldl c.u cs ▸ foldl_min_spec (·.u) c cs

theorem greatest_eq_foldl (x : Int) (cs : List Contributor) : greatest x cs = (cs.map (·.lead)).foldl max x := by
  induction cs generalizing x with
  | nil => rfl
  | cons c cs ih => exact ih _

/-- The greatest lead is a contributor's, and no contributor's is above it. -/
theorem greatest_spec (c : Contributor) (cs : List Contributor) :
    (∃ x ∈ c :: cs, greatest c.lead cs = x.lead) ∧ ∀ x ∈ c :: cs, x.lead ≤ greatest c.lead cs := by
  have hmax : ((c :: cs).map (·.lead)).max? = some (greatest c.lead cs) :=
    greatest_eq_foldl c.lead cs ▸ List.max?_cons'
  obtain ⟨mem, bound⟩ := List.max?_eq_some_iff.mp hmax
  obtain ⟨x, hx, heq⟩ := List.mem_map.mp mem
  exact ⟨⟨x, hx, heq.symm⟩, fun y hy => bound _ (List.mem_map_of_mem hy)⟩

/-! ### The weighted sum and the total weight (R93) -/

@[simp] theorem weightedSum_nil : weightedSum [] = 0 := rfl

@[simp] theorem weightedSum_cons (c : Contributor) (cs : List Contributor) :
    weightedSum (c :: cs) = c.weight * c.lead + weightedSum cs := rfl

@[simp] theorem totalWeight_nil : totalWeight [] = 0 := rfl

@[simp] theorem totalWeight_cons (c : Contributor) (cs : List Contributor) :
    totalWeight (c :: cs) = c.weight + totalWeight cs := List.sum_cons

theorem weightedSum_append (cs ds : List Contributor) :
    weightedSum (cs ++ ds) = weightedSum cs + weightedSum ds := by
  induction cs with
  | nil => simp
  | cons c cs ih => simp [ih, Int.add_assoc]

/-- A lower bound of the leads is one of the weighted mean. -/
theorem le_weightedSum {l : Int} {cs : List Contributor} (h : ∀ x ∈ cs, l ≤ x.lead) :
    l * totalWeight cs ≤ weightedSum cs := by
  induction cs with
  | nil => simp
  | cons c cs ih =>
    obtain ⟨hc, hcs⟩ := List.forall_mem_cons.mp h
    rw [totalWeight_cons, weightedSum_cons, Int.natCast_add, Int.mul_add, Int.mul_comm l]
    exact Int.add_le_add (Int.mul_le_mul_of_nonneg_left hc (Int.natCast_nonneg c.weight)) (ih hcs)

/-- An upper bound of the leads is one of the weighted mean. -/
theorem weightedSum_le {g : Int} {cs : List Contributor} (h : ∀ x ∈ cs, x.lead ≤ g) :
    weightedSum cs ≤ g * totalWeight cs := by
  induction cs with
  | nil => simp
  | cons c cs ih =>
    obtain ⟨hc, hcs⟩ := List.forall_mem_cons.mp h
    rw [totalWeight_cons, weightedSum_cons, Int.natCast_add, Int.mul_add, Int.mul_comm g]
    exact Int.add_le_add (Int.mul_le_mul_of_nonneg_left hc (Int.natCast_nonneg c.weight)) (ih hcs)

theorem totalWeight_le {cs : List Contributor} (h : ∀ x ∈ cs, x.Weighted) : totalWeight cs ≤ cs.length * 16 := by
  induction cs with
  | nil => exact Nat.le_refl 0
  | cons c cs ih =>
    obtain ⟨hc, hcs⟩ := List.forall_mem_cons.mp h
    have head := hc.le
    have tail := ih hcs
    rw [totalWeight_cons, List.length_cons]
    omega

/-- The station's own contribution, at lead 0, adds nothing to the sum (R92). -/
theorem State.weightedSum_ownContribution (s : State) (t : Tier) : weightedSum (s.ownContribution t).toList = 0 := by
  have zero : ∀ x ∈ (s.ownContribution t).toList, x.lead = 0 := fun x hx => (ownContribution_spec hx).1
  have lower := le_weightedSum fun x hx => Int.le_of_eq (zero x hx).symm
  have upper := weightedSum_le fun x hx => Int.le_of_eq (zero x hx)
  omega

/-- Sixteen peers of weight 16 at half a second bound the weighted sum (R93); a seventeenth contributor is the station
itself, which adds nothing. -/
theorem State.weightedSum_contributors_le {s : State} {t : Tier}
    (h : ∀ x ∈ s.contributors t, x.lead.natAbs ≤ 500000000) :
    (weightedSum (s.contributors t)).natAbs ≤ 128000000000 := by
  have weighted := fun x => contributors_weighted (s := s) (t := t) (c := x)
  rw [contributors] at h weighted ⊢
  rw [weightedSum_append, weightedSum_ownContribution, Int.add_zero]
  have count := List.length_filterMap_le (fun e : Option PeerEntry => e.bind (·.contribution t)) s.ptu.peers.toList
  rw [Vector.length_toList] at count
  have total := totalWeight_le fun x hx => weighted x (List.mem_append_left _ hx)
  have lower := le_weightedSum (l := -500000000) fun x hx => by
    have := h x (List.mem_append_left _ hx)
    omega
  have upper := weightedSum_le (g := 500000000) fun x hx => by
    have := h x (List.mem_append_left _ hx)
    omega
  omega

/-- The rounded weighted mean is not below every lead: were every lead above it, so would be the mean. -/
theorem exists_lead_le_roundDiv {cs : List Contributor} (hw : 0 < totalWeight cs) :
    ∃ x ∈ cs, x.lead ≤ roundDiv (weightedSum cs) (totalWeight cs) := by
  refine Classical.byContradiction fun no => ?_
  have above := fun x hx => Int.add_one_le_of_lt (Int.not_le.mp fun hle => no ⟨x, hx, hle⟩)
  have := le_roundDiv hw (le_weightedSum above)
  omega

/-- Nor above every lead. -/
theorem exists_roundDiv_le_lead {cs : List Contributor} (hw : 0 < totalWeight cs) :
    ∃ x ∈ cs, roundDiv (weightedSum cs) (totalWeight cs) ≤ x.lead := by
  refine Classical.byContradiction fun no => ?_
  have below := fun x hx => Int.le_sub_one_of_lt (Int.not_le.mp fun hle => no ⟨x, hx, hle⟩)
  have := roundDiv_le hw (weightedSum_le below)
  omega

/-- Contributors that share one lead have it as their mean. -/
theorem roundDiv_weightedSum_of_lead_eq {cs : List Contributor} {l : Int} (hw : 0 < totalWeight cs)
    (h : ∀ x ∈ cs, x.lead = l) : roundDiv (weightedSum cs) (totalWeight cs) = l := by
  obtain ⟨x, hx, hxl⟩ := exists_lead_le_roundDiv hw
  obtain ⟨y, hy, hyl⟩ := exists_roundDiv_le_lead hw
  exact Int.le_antisymm (h y hy ▸ hyl) (h x hx ▸ hxl)

theorem totalWeight_pos {cs : List Contributor} (h : ∀ x ∈ cs, x.Weighted) (hne : cs ≠ []) : 0 < totalWeight cs := by
  obtain ⟨c, cs, rfl⟩ := List.exists_cons_of_ne_nil hne
  have := (h c List.mem_cons_self).pos
  rw [totalWeight_cons]
  omega

/-! ### The consensus (R93 to R95) -/

theorem consensusOf_nil : consensusOf [] = none := rfl

theorem exists_consensusOf {cs : List Contributor} (hne : cs ≠ []) : ∃ c, consensusOf cs = some c := by
  obtain ⟨c, cs, rfl⟩ := List.exists_cons_of_ne_nil hne
  exact ⟨_, rfl⟩

/-- What every consensus holds of the contributors it is formed over (R93, R94). -/
structure Consensus.FormedOver (c : Consensus) (cs : List Contributor) : Prop where
  nonempty : cs ≠ []
  value : c.value = roundDiv (weightedSum cs) (totalWeight cs)
  weight : c.weight = totalWeight cs
  count : c.count = cs.length
  spread_attained : ∃ x ∈ cs, ∃ y ∈ cs, c.spread = x.lead - y.lead
  le_spread : ∀ x ∈ cs, ∀ y ∈ cs, x.lead - y.lead ≤ c.spread
  leastU_attained : ∃ x ∈ cs, c.leastU = x.u
  leastU_le : ∀ x ∈ cs, c.leastU ≤ x.u

theorem formedOver_of_consensusOf {c : Consensus} {cs : List Contributor} (h : consensusOf cs = some c) :
    c.FormedOver cs := by
  cases cs with
  | nil => cases h
  | cons a cs =>
    cases h
    obtain ⟨⟨x, hx, hgreatest⟩, le_greatest⟩ := greatest_spec a cs
    obtain ⟨⟨y, hy, hleast⟩, least_le⟩ := least_spec a cs
    obtain ⟨leastU_attained, leastU_le⟩ := leastU_spec a cs
    exact {
      nonempty := List.cons_ne_nil a cs
      value := rfl
      weight := rfl
      count := rfl
      spread_attained := ⟨x, hx, y, hy, by rw [hgreatest, hleast]⟩
      le_spread := fun x hx y hy => Int.sub_le_sub (le_greatest x hx) (least_le y hy)
      leastU_attained := leastU_attained
      leastU_le := leastU_le }

end Sys2Proof.Machine

open Sys2Proof.Machine

/-- Settles O45: the contributors entry by entry, then the fields of a consensus formed over them, whose value is a
weighted mean with weights above zero. -/
theorem consensusLiesBetweenLeads : Obligations.ConsensusLiesBetweenLeads := by
  unfold Obligations.ConsensusLiesBetweenLeads
  intro s k cs weight tier
  have weighted : ∀ x ∈ cs, x.Weighted := fun x hx => State.contributors_weighted hx
  refine ⟨?_, ?_, ?_, ?_, State.weightedSum_contributors_le, by decide⟩
  · calc cs = _ := State.contributors_eq s k
      _ = _ := by
        simp only [PeerEntry.contribution_eq, State.ownContribution_toList]
        rfl
  · intro hw
    exact exists_consensusOf fun h => by simp [h] at hw
  · intro h
    rw [h, consensusOf_nil]
  · intro c hc
    have formed := formedOver_of_consensusOf hc
    have hw : 0 < totalWeight cs := totalWeight_pos weighted formed.nonempty
    refine ⟨hw, formed.weight, formed.count, formed.spread_attained, formed.le_spread, formed.leastU_attained,
      formed.leastU_le, ?_⟩
    rw [formed.value]
    refine ⟨roundDiv_near _ hw, roundDiv_away hw, exists_lead_le_roundDiv hw, exists_roundDiv_le_lead hw, ?_, ?_⟩
    · intro x alone
      exact roundDiv_weightedSum_of_lead_eq hw (by simp [alone])
    · intro _ own
      exact roundDiv_weightedSum_of_lead_eq hw fun x hx => (State.ownContribution_spec (own ▸ hx)).1

end

section
/-! PROOF. Source selection (R106): what `State.selected` answers, by the first case that holds. -/

namespace Sys2Proof.Machine

section

variable {s : State}

theorem State.selected_of_reference (usable : s.mon.qual = .qualified ∧ s.eng.inhibit = false) :
    s.selected = .source .reference :=
  if_pos usable

theorem State.selected_of_tier1 (unusable : ¬(s.mon.qual = .qualified ∧ s.eng.inhibit = false))
    (tier1 : s.ptu.tier1.consensus ≠ none) : s.selected = .source (.tier .one) := by
  rw [State.selected, if_neg unusable, if_pos (Option.isSome_iff_ne_none.mpr tier1)]

/-- With neither a usable reference nor a tier-1 consensus, the ring decides before tier 2 is looked at. -/
theorem State.selected_of_no_tier1 (unusable : ¬(s.mon.qual = .qualified ∧ s.eng.inhibit = false))
    (noTier1 : s.ptu.tier1.consensus = none) :
    s.selected = if s.eng.ring ≠ [] then .holdover
      else if s.ptu.tier2.consensus.isSome then .source (.tier .two) else .freerun := by
  rw [State.selected, if_neg unusable, if_neg (by simp [noTier1])]

end

end Sys2Proof.Machine

open Sys2Proof.Machine

/-- Settles O17: the reference and tier 1 first; without them the ring, then tier 2, and free run when none holds. -/
theorem selectionTakesFirstCase : Obligations.SelectionTakesFirstCase := by
  unfold Obligations.SelectionTakesFirstCase
  intro s one two three four
  refine ⟨State.selected_of_reference, State.selected_of_tier1, ?_, ?_, ?_⟩
  · intro unusable noTier1 ring
    rw [State.selected_of_no_tier1 unusable (Classical.not_not.mp noTier1), if_pos ring]
  · intro unusable noTier1 noRing tier2
    rw [State.selected_of_no_tier1 unusable (Classical.not_not.mp noTier1), if_neg noRing,
      if_pos (Option.isSome_iff_ne_none.mpr tier2)]
  · intro unusable noTier1 noRing noTier2
    rw [State.selected_of_no_tier1 unusable (Classical.not_not.mp noTier1), if_neg noRing,
      if_neg (mt Option.isSome_iff_ne_none.mp noTier2)]

end

section
/-! PROOF. The bin of a temperature (R141): the clamp's range, and `binOf` at the table's ends and within a bin. -/

namespace Sys2Proof.Machine

/-- A clamp to a nonempty range answers a value of the range. -/
theorem clamp_mem_range {lo hi : Int} (range : lo ≤ hi) (x : Int) : lo ≤ clamp lo hi x ∧ clamp lo hi x ≤ hi := by
  unfold clamp
  split
  · exact ⟨Int.le_refl lo, range⟩
  · split
    · exact ⟨range, Int.le_refl hi⟩
    · omega

/-- The remainder modulo 64 in `binOf` changes nothing: the clamped quotient is an index already. -/
theorem binOf_val (T : Int) : ((binOf T).val : Int) = clamp 0 63 ((T + 320) / 16) := by
  obtain ⟨least, greatest⟩ := clamp_mem_range (show (0 : Int) ≤ 63 by decide) ((T + 320) / 16)
  have index : (clamp 0 63 ((T + 320) / 16)).toNat < 64 := by omega
  have bin : (binOf T).val = (clamp 0 63 ((T + 320) / 16)).toNat := Nat.mod_eq_of_lt index
  rw [bin, Int.toNat_of_nonneg least]

/-- Below -40 degrees the quotient is negative. -/
theorem binOf_of_below {T : Int} (cold : T < 8 * -40) : (binOf T).val = 0 := by
  have quotient : (T + 320) / 16 < 0 := Int.ediv_neg_of_neg_of_pos (by omega) (by decide)
  have bin := binOf_val T
  rw [clamp, if_pos quotient] at bin
  exact Int.ofNat_inj.mp bin

/-- Between its two edges a bin's quotient is its own number, which the clamp keeps. -/
theorem binOf_of_within {T : Int} {k : Nat} (isBin : k < 64) (lower : 8 * (-40 + 2 * (k : Int)) ≤ T)
    (upper : T < 8 * (-38 + 2 * (k : Int))) : (binOf T).val = k := by
  have quotient : (T + 320) / 16 = k := by omega
  have bin := binOf_val T
  rw [quotient, clamp, if_neg (by omega), if_neg (by omega)] at bin
  exact Int.ofNat_inj.mp bin

/-- From 86 degrees: bin 63's own temperatures, and from 88 degrees the quotients above 63. -/
theorem binOf_of_above {T : Int} (hot : 8 * 86 ≤ T) : (binOf T).val = 63 := by
  obtain own | beyond := Int.lt_or_le T (8 * 88)
  · exact binOf_of_within (by decide) hot own
  · have quotient : 63 < (T + 320) / 16 := by omega
    have bin := binOf_val T
    rw [clamp, if_neg (by omega), if_pos quotient] at bin
    exact Int.ofNat_inj.mp bin

end Sys2Proof.Machine

open Sys2Proof.Machine

/-- Settles O44: `binOf` is the clamped quotient, read off below, within and above the bins; the table by evaluation. -/
theorem binOfTemperature : Obligations.BinOfTemperature := by
  unfold Obligations.BinOfTemperature
  exact ⟨binOf_val, fun _ _ => binOf_of_within, fun _ => binOf_of_below, fun _ => binOf_of_above, by decide⟩

end

section
/-! PROOF. What the commands of the running part can do, said once: the changes that a block's record may undergo
(`Moves`), the shared operations that keep a predicate (`Kept`), and that a predicate they all keep is kept by every
command but a reset and the opening of second 0, and by every step. -/

namespace Sys2Proof.Machine

/-! ### The changes that a record may undergo -/

/-- The counters that hold at their top and the PAGE slots, on the bus record (R52, R56, R59, R62). -/
structure Bus.Counters (b : Bus) : Prop where
  badFrames : b.badFrames ≤ 65535
  marksLate : b.marksLate ≤ 65535
  receive : b.receiveErrors ≤ 255
  pages : b.pages.length ≤ 2

/-- Every slot of the queue is empty, nothing waits, and an open attempt has no slot (R55). -/
structure Bus.Silent (b : Bus) : Prop where
  mark : b.mark = none
  follow : b.follow = none
  status0 : b.status0 = none
  wait0 : b.wait0 = none
  status1 : b.status1 = none
  wait1 : b.wait1 = none
  alert : b.alert = none
  aside : b.aside = 0
  pages : b.pages = []
  attempt : ∀ a, b.attempt = some a → a.inSlot = false

/-- In listen-only the queue is silent (R55). -/
def Bus.Quiet (b : Bus) : Prop := b.listenOnly = true → b.Silent

/-- A change of the bus record that an operation of the Bus Interface makes. -/
structure Bus.Moves (b c : Bus) : Prop where
  quiet : b.Quiet → c.Quiet
  counters : b.Counters → c.Counters

/-- The counters of the monitor and the fill of its ring (R20, R37). -/
structure Monitor.Counters (m : Monitor) : Prop where
  extra : m.extraCount ≤ 65535
  missing : m.missingCount ≤ 65535
  history : m.history.fill ≤ 8

/-- A change of the monitor's record within one qualification state. -/
structure Monitor.Moves (m n : Monitor) : Prop where
  qual : n.qual = m.qual
  counters : m.Counters → n.Counters

/-- The counters of the Peer Table Unit (R71). -/
structure PeerUnit.Counters (p : PeerUnit) : Prop where
  unpaired : p.unpaired ≤ 65535
  orphan : p.orphan ≤ 65535

/-- Entry `a` and its pending mark are empty (R67, R73). -/
structure PeerUnit.EmptyAt (p : PeerUnit) (a : Fin 16) : Prop where
  peer : p.peers[a] = none
  mark : p.marks[a] = none

/-- A change of the Peer Table Unit of the station at `own`. -/
structure PeerUnit.Moves (own : Fin 16) (p q : PeerUnit) : Prop where
  own : p.EmptyAt own → q.EmptyAt own
  counters : p.Counters → q.Counters

/-- A change of the Learning Unit that learns nothing and samples nothing. -/
structure Learning.Moves (l m : Learning) : Prop where
  table : m.table = l.table
  aging : m.aging = l.aging
  rate : m.rate = l.rate
  sampling : m.sampling = l.sampling
  lastReading : m.lastReading = l.lastReading

/-- The limits of what the Learning Unit holds (R142, R147, R148). -/
structure Learning.Limits (l : Learning) : Prop where
  counts : ∀ i : Fin 64, l.table[i].count ≤ 65535
  means : ∀ i : Fin 64, l.table[i].mean.natAbs ≤ 2000000000
  aging : l.aging.length ≤ 8
  rate : l.rate.natAbs ≤ 1000

/-- A change of the power controller that leaves the power state. -/
structure Power.Moves (p q : Power) : Prop where
  address : q.address = p.address
  opened : q.opened = p.opened
  state : q.state = p.state

/-! ### Own boundaries -/

/-- What a boundary does before its tasks: it is reached, the outputs, the next commitment, the schedule (section 1.2).
-/
def openBoundary (s : State) : State :=
  (commitDue (boundaryOutputs (reachBoundary s))).withTsg (commitDue (boundaryOutputs (reachBoundary s))).tsg.schedule

theorem ownBoundary_eq (o : List BoundaryTask) (s : State) :
    ownBoundary o s = runTasks s.tsg.notice [] (o ++ allTasks) (openBoundary s) := rfl

/-- The state after LOAD has put new settings, flags or a new power state into use (R168, R170, R171). -/
def reconfigured (p : Power) (c : Settings) (u : StatusUnit) (w : Nat) (s : State) : State :=
  refreshOutputs ((((s.withPwr p).withCfg c).withScu u).withEng { s.eng with warmupLeft := w })

/-- A boundary moves what a held pulse is measured against, and no other part of another block. -/
@[simp] theorem openBoundary_keeps (s : State) :
    (openBoundary s).bus = s.bus ∧ (openBoundary s).ptu = s.ptu ∧ (openBoundary s).eng = s.eng ∧
    (openBoundary s).lrn = s.lrn ∧ (openBoundary s).scu = s.scu ∧ (openBoundary s).pwr = s.pwr ∧
    (openBoundary s).cfg = s.cfg ∧ (openBoundary s).eeprom = s.eeprom ∧ (openBoundary s).pending = s.pending := by
  simp [openBoundary]

@[simp] theorem reconfigured_keeps (p : Power) (c : Settings) (u : StatusUnit) (w : Nat) (s : State) :
    (reconfigured p c u w s).mon = s.mon ∧ (reconfigured p c u w s).bus = s.bus ∧
    (reconfigured p c u w s).ptu = s.ptu ∧ (reconfigured p c u w s).eng = { s.eng with warmupLeft := w } ∧
    (reconfigured p c u w s).lrn = s.lrn ∧ (reconfigured p c u w s).scu = u ∧ (reconfigured p c u w s).pwr = p ∧
    (reconfigured p c u w s).cfg = c ∧ (reconfigured p c u w s).eeprom = s.eeprom ∧
    (reconfigured p c u w s).pending = s.pending := by
  simp [reconfigured]

/-! ### Predicates that the shared operations keep -/

/-- The operations by which the other blocks and the engine act on one another keep `P`; the inputs of the engine under
the premise `o` alone, so that what no input can touch needs no more. -/
structure EngineKept (P : State → Prop) (o : Prop := True) : Prop where
  declareLoss : ∀ s : State, s.tsg.osc ≠ .lost → P s → P (declareLoss s) := by simp +contextual
  abortSlot : ∀ s, P s → P (abortSlot s) := by simp +contextual
  raise : ∀ (f : Flag) (s : State), P s → P (raise f s) := by simp +contextual
  offerStatus : ∀ s, P s → P (offerStatus s) := by simp +contextual
  applySelection : ∀ s : State, s.eng.state ≠ .fault → P s → P (applySelection s) := by simp +contextual
  takeObservation : o → ∀ (y : Int) (s : State), P s → P (takeObservation y s) := by simp +contextual
  takePoint : o → ∀ s, P s → P (takePoint s).1 := by simp +contextual
  enterFault : ∀ s, P s → P (enterFault s) := by simp +contextual
  engineBoundary : ∀ s, P s → P (engineBoundary s) := by simp +contextual
  setInhibit : ∀ (b : Bool) (s : State), P s → P (setInhibit b s) := by simp +contextual
  enterQual : ∀ (q : Qualification) (s : State), P s → P (enterQual q s) := by simp +contextual

/-- What the work that a boundary leaves due to the monitor is made of keeps `P`. -/
structure MonitorKept (P : State → Prop) (o : Prop := True) : Prop where
  raise : ∀ (f : Flag) (s : State), P s → P (raise f s) := by simp +contextual
  enterQual : ∀ (q : Qualification) (s : State), P s → P (enterQual q s) := by simp +contextual
  takeObservation : o → ∀ (y : Int) (s : State), P s → P (takeObservation y s) := by simp +contextual
  mon : ∀ (m : Monitor) (s : State), s.mon.Moves m → P s → P (s.withMon m) := by simp +contextual

/-- What the work that a boundary leaves due to the monitor and to the peers is made of keeps `P`. -/
structure DueKept (P : State → Prop) (o : Prop := True) : Prop extends MonitorKept P o where
  takePoint : o → ∀ s, P s → P (takePoint s).1 := by simp +contextual
  ptu : ∀ (p : PeerUnit) (s : State), s.ptu.Moves s.pwr.address p → P s → P (s.withPtu p) := by simp +contextual

/-- What every command but a reset and the opening of second 0 is made of keeps `P`. A field with a premise on `i` is
about the commands that alone bring its operation. A field that the frame lemmas close by themselves need not be given.
-/
structure Kept (i : Instr) (P : State → Prop) (o : Prop := True) : Prop extends EngineKept P o where
  clock : ∀ (t : Instant) (g : Bool) (s : State), P s → P (s.withTsg { s.tsg with now := t, windowGap := g }) := by
    simp +contextual
  returning : ∀ s : State, s.tsg.osc = .lost → P s → P (s.withTsg { s.tsg with osc := .returning }) := by
    simp +contextual
  openBoundary : (∃ o, i = .ownBoundary o) → ∀ s, P s → P (openBoundary s) := by simp +contextual
  latch : (∃ o, i = .ownBoundary o) → ∀ s, P s → P (latch s) := by simp +contextual
  endPulse : ∀ s, P s → P (endPulse s) := by simp +contextual
  acceptAdjust : ∀ (k : AdjustKind) (a : Int) (d : Nat) (st : Stamp) (s : State), a ≠ 0 → s.tsg.slot = none →
    (d = 1 → s.tsg.committed = none) → P s → P (acceptAdjust k a d st s) := by simp +contextual
  status : ∀ (e : FlagSet) (c : Cause) (s : State), P s → P (s.withScu { s.scu with enabled := e, cause := c }) := by
    simp +contextual
  clearFlags : carries i 2 = true → ∀ (m : FlagSet) (s : State), P s → P (clearFlags m s) := by simp +contextual
  restart : carries i 15 = true → ∀ s, P s → P (restart s) := by simp +contextual
  mon : ∀ (m : Monitor) (s : State), s.mon.Moves m → P s → P (s.withMon m) := by simp +contextual
  ptu : ∀ (p : PeerUnit) (s : State), s.ptu.Moves s.pwr.address p → P s → P (s.withPtu p) := by simp +contextual
  bus : ∀ (b : Bus) (s : State), s.bus.Moves b → P s → P (s.withBus b) := by simp +contextual
  lrn : ∀ (l : Learning) (s : State), s.lrn.Moves l → P s → P (s.withLrn l) := by simp +contextual
  sample : (∃ t r, i = .temperatureConversionEnd t r) ∨ i = .stalenessTimerExpiry →
    ∀ (l : Learning) (s : State), l.table = s.lrn.table → l.aging = s.lrn.aging → l.rate = s.lrn.rate → P s →
      P (s.withLrn l) := by simp +contextual
  takeAgingSample : ∀ s, P s → P (takeAgingSample s) := by simp +contextual
  clearLearning : carries i 14 = true → ∀ s, P s → P (clearLearning s) := by simp +contextual
  putLearning : (∃ a, i = .learningBlockRead a) → ∀ (l : Learning) (s : State), l.Limits → P s →
    P (putLearning l.table l.aging l.rate s) := by simp +contextual
  landPage : i = .eepromPageWriteDone ∨ (∃ b, i = .eepromFailure b) →
    ∀ (w : PageWrite) (s : State), P s → P (landPage w s) := by simp +contextual
  pwr : ∀ (p : Power) (s : State), s.pwr.Moves p → P s → P (s.withPwr p) := by simp +contextual
  reconfigured : ∀ (p : Power) (c : Settings) (e : FlagSet) (w : Nat) (s : State), p.address = s.pwr.address →
    p.opened = s.pwr.opened → (c = s.cfg ∨ ∃ a, i = .configurationRead a) → P s →
    P (reconfigured p c { s.scu with enabled := e } w s) := by simp +contextual

/-! ### Changes of one block's record -/

theorem countUp_le {n : Nat} (h : n ≤ 65535) : countUp n ≤ 65535 := by
  unfold countUp
  split
  · exact Nat.succ_le_of_lt ‹_›
  · exact h

section
variable {own : Fin 16} {p q r : PeerUnit}

theorem PeerUnit.Moves.trans (h : p.Moves own q) (h' : q.Moves own r) : p.Moves own r :=
  ⟨h'.own ∘ h.own, h'.counters ∘ h.counters⟩

/-- A change that leaves marks, peers and counters. -/
theorem PeerUnit.Moves.of_eq (marks : q.marks = p.marks) (peers : q.peers = p.peers)
    (unpaired : q.unpaired = p.unpaired) (orphan : q.orphan = p.orphan) : p.Moves own q :=
  ⟨fun h => ⟨by rw [peers, h.peer], by rw [marks, h.mark]⟩, fun h => ⟨unpaired ▸ h.unpaired, orphan ▸ h.orphan⟩⟩

/-- Emptying a slot, its mark lost, empties no less. -/
theorem PeerUnit.moves_dropMark (p : PeerUnit) (a : Fin 16) : p.Moves own (p.dropMark a) where
  own h := ⟨by rw [PeerUnit.dropMark_peers, h.peer], by
    by_cases ha : own = a
    · rw [ha, PeerUnit.dropMark_marks_same]
    · rw [PeerUnit.dropMark_marks_other p ha, h.mark]⟩
  counters h := ⟨by
    rw [PeerUnit.dropMark_unpaired]
    split
    · exact h.unpaired
    · exact countUp_le h.unpaired, by rw [PeerUnit.dropMark_orphan]; exact h.orphan⟩

/-- Another station's slot may be filled. -/
theorem PeerUnit.moves_setMark (p : PeerUnit) {a : Fin 16} (m : Option PendingMark) (ha : m ≠ none → a ≠ own) :
    p.Moves own (p.setMark a m) where
  own h := ⟨h.peer, by
    by_cases e : own = a
    · rw [← e, PeerUnit.setMark_marks_same]
      exact Decidable.byContradiction fun hm => ha hm e.symm
    · rw [PeerUnit.setMark_marks_other p m e, h.mark]⟩
  counters h := ⟨h.unpaired, h.orphan⟩

@[simp] theorem PeerUnit.setPeer_peers_same (p : PeerUnit) (a : Fin 16) (e : Option PeerEntry) :
    (p.setPeer a e).peers[a] = e := by simp [PeerUnit.setPeer]

theorem PeerUnit.setPeer_peers_other (p : PeerUnit) {a b : Fin 16} (e : Option PeerEntry) (h : b ≠ a) :
    (p.setPeer a e).peers[b] = p.peers[b] :=
  Vector.getElem_set_ne a.isLt b.isLt (Fin.val_ne_of_ne h.symm)

@[simp] theorem PeerUnit.setPeer_keeps (p : PeerUnit) (a : Fin 16) (e : Option PeerEntry) :
    (p.setPeer a e).marks = p.marks ∧ (p.setPeer a e).lapsed = p.lapsed ∧ (p.setPeer a e).unpaired = p.unpaired ∧
    (p.setPeer a e).orphan = p.orphan ∧ (p.setPeer a e).tier1 = p.tier1 ∧ (p.setPeer a e).tier2 = p.tier2 ∧
    (p.setPeer a e).stage = p.stage := by simp [PeerUnit.setPeer]

/-- Another station's entry may be set, and an entry emptied. -/
theorem PeerUnit.moves_setPeer (p : PeerUnit) {a : Fin 16} (e : Option PeerEntry) (ha : e ≠ none → a ≠ own) :
    p.Moves own (p.setPeer a e) where
  own h := ⟨by
    by_cases hne : own = a
    · rw [← hne, PeerUnit.setPeer_peers_same]
      exact Decidable.byContradiction fun he => ha he hne.symm
    · rw [PeerUnit.setPeer_peers_other p e hne, h.peer], h.mark⟩
  counters h := ⟨h.unpaired, h.orphan⟩

/-- The notice of an own adjustment fills no slot and no entry. -/
theorem PeerUnit.moves_notice (p : PeerUnit) (f : PendingMark → PendingMark) (g : PeerEntry → PeerEntry) :
    p.Moves own { p with marks := p.marks.map (Option.map f), peers := p.peers.map (Option.map g) } where
  own h := by
    have hp := h.peer
    have hm := h.mark
    constructor <;> simp_all
  counters h := ⟨h.unpaired, h.orphan⟩

theorem PeerUnit.moves_mapPeers (p : PeerUnit) (g : PeerEntry → PeerEntry) :
    p.Moves own { p with peers := p.peers.map (Option.map g) } where
  own h := by
    have hp := h.peer
    constructor
    · simp_all
    · exact h.mark
  counters h := ⟨h.unpaired, h.orphan⟩

theorem PeerUnit.moves_orphan (p : PeerUnit) : p.Moves own { p with orphan := countUp p.orphan } :=
  ⟨fun h => ⟨h.peer, h.mark⟩, fun h => ⟨h.unpaired, countUp_le h.orphan⟩⟩

end

/-- A change of the monitor that leaves its state, its counters and its ring. -/
theorem Monitor.Moves.of_eq {m n : Monitor} (qual : n.qual = m.qual) (extra : n.extraCount = m.extraCount)
    (missing : n.missingCount = m.missingCount) (history : n.history.fill = m.history.fill) : m.Moves n :=
  ⟨qual, fun h => ⟨extra ▸ h.extra, missing ▸ h.missing, history ▸ h.history⟩⟩

theorem HistoryRing.write_fill {h : HistoryRing} (r : Int) (hf : h.fill ≤ 8) : (h.write r).fill ≤ 8 := by
  unfold HistoryRing.write
  split
  · exact hf
  · exact Nat.min_le_left ..

/-- A change of the bus record that leaves the queue, the attempt and the counters. -/
theorem Bus.Moves.of_eq {b c : Bus} (listenOnly : c.listenOnly = b.listenOnly) (mark : c.mark = b.mark)
    (follow : c.follow = b.follow) (status0 : c.status0 = b.status0) (wait0 : c.wait0 = b.wait0)
    (status1 : c.status1 = b.status1) (wait1 : c.wait1 = b.wait1) (alert : c.alert = b.alert)
    (aside : c.aside = b.aside) (pages : c.pages = b.pages)
    (attempt : ∀ a, c.attempt = some a → ∃ a', b.attempt = some a' ∧ (a'.inSlot = false → a.inSlot = false))
    (badFrames : c.badFrames = b.badFrames) (marksLate : c.marksLate = b.marksLate)
    (receive : b.receiveErrors ≤ 255 → c.receiveErrors ≤ 255) : b.Moves c where
  quiet h hl := by
    have q := h (listenOnly ▸ hl)
    refine ⟨mark ▸ q.mark, follow ▸ q.follow, status0 ▸ q.status0, wait0 ▸ q.wait0, status1 ▸ q.status1,
      wait1 ▸ q.wait1, alert ▸ q.alert, aside ▸ q.aside, pages ▸ q.pages, fun a ha => ?_⟩
    obtain ⟨a', ha', hs⟩ := attempt a ha
    exact hs (q.attempt a' ha')
  counters h := ⟨badFrames ▸ h.badFrames, marksLate ▸ h.marksLate, receive h.receive, pages ▸ h.pages⟩

/-! ### The residual check -/

/-- The monitor's record after the verdict on a residual `r` (R33, R35, R37). -/
def State.judged (s : State) (r : Int) : Monitor :=
  { s.mon with
    history := s.mon.history.write r
    window := pushBounded s.cfg.lwin s.mon.window (residualOut s.cfg r)
    ordered := none }

/-- A pulse in ABSENT is not measured (R30). -/
theorem checkMeasurement_of_absent {s : State} (m : Int) (tag : Second) (h : s.mon.qual = .absent) :
    checkMeasurement m tag s = s := by simp [checkMeasurement, h]

/-- The seed of a block has no residual (R34). -/
theorem checkMeasurement_of_seed {s : State} (m : Int) (tag : Second) (h : s.mon.qual ≠ .absent)
    (seed : s.mon.seedRequest = true ∨ s.mon.prediction = none) : checkMeasurement m tag s =
      addToBlock m tag (s.withMon { s.mon with prediction := some m, seedRequest := false }) := by
  rw [checkMeasurement, if_neg h]
  split
  · simp_all
  · rfl

/-- Any other measurement has one: a residual fault, a verdict OUT, or a verdict IN (R33, R36). -/
theorem checkMeasurement_of_residual {s : State} (m : Int) (tag : Second) {p : Int} (h : s.mon.qual ≠ .absent)
    (seed : s.mon.seedRequest = false) (hp : s.mon.prediction = some p) : checkMeasurement m tag s =
      if s.cfg.lcnt ≤ outCount (pushBounded s.cfg.lwin s.testedWindow (residualOut s.cfg (m - p))) then
        residualFault (s.withMon (s.judged (m - p)))
      else if residualOut s.cfg (m - p) then s.withMon (s.judged (m - p))
      else addToBlock m tag (s.withMon (s.judged (m - p))) := by
  rw [checkMeasurement, if_neg h, hp, seed]
  rfl

theorem checkMeasurement_cases (m : Int) (tag : Second) (s : State) :
    checkMeasurement m tag s = s ∨
    checkMeasurement m tag s =
      addToBlock m tag (s.withMon { s.mon with prediction := some m, seedRequest := false }) ∨
    ∃ r, checkMeasurement m tag s =
      if s.cfg.lcnt ≤ outCount (pushBounded s.cfg.lwin s.testedWindow (residualOut s.cfg r)) then
        residualFault (s.withMon (s.judged r))
      else if residualOut s.cfg r then s.withMon (s.judged r)
      else addToBlock m tag (s.withMon (s.judged r)) := by
  by_cases h : s.mon.qual = .absent
  · exact .inl (checkMeasurement_of_absent m tag h)
  · cases hs : s.mon.seedRequest with
    | true => exact .inr (.inl (checkMeasurement_of_seed m tag h (.inl hs)))
    | false =>
      cases hp : s.mon.prediction with
      | none => exact .inr (.inl (checkMeasurement_of_seed m tag h (.inr hp)))
      | some p => exact .inr (.inr ⟨m - p, checkMeasurement_of_residual m tag h hs hp⟩)

/-! ### The timers and the missing pulses -/

/-- The monitor's record with its timers one second on (R42, R44). -/
def Monitor.counted (m : Monitor) : Monitor :=
  { m with qualTimer := m.qualTimer.map (· - 1), holdoffTimer := m.holdoffTimer.map (· - 1) }

/-- The timer of the state has reached 0 (R42, R44). -/
def Monitor.timerDue (m : Monitor) : Bool :=
  (m.qual = .candidate && m.qualTimer = some 0) || (m.qual = .disqualified && m.holdoffTimer = some 0)

theorem countDown_eq (s : State) : countDown s =
    if s.mon.counted.timerDue then s.withMon { s.mon.counted with stage := .expiry }
    else measureHeld (s.withMon { s.mon.counted with stage := .idle }) := by
  have whole : countDown s = if s.mon.counted.timerDue then
      s.withMon { s.mon.counted with stage := if s.mon.counted.timerDue then .expiry else .idle }
    else measureHeld (s.withMon { s.mon.counted with stage := if s.mon.counted.timerDue then .expiry else .idle }) :=
    rfl
  rw [whole]
  cases s.mon.counted.timerDue <;> rfl

/-- The monitor's record after a missing-pulse event at `d` (R19, R39). -/
def Monitor.missed (m : Monitor) (d : Instant) : Monitor :=
  { m with
    missingCount := countUp m.missingCount, missingDue := some (d + 1000000000)
    consecutiveMissing := min 3 (m.consecutiveMissing + 1) }

/-- The state after a missing-pulse event at `d`, before what its count brings. -/
def State.missedAt (s : State) (d : Instant) : State := (s.at d).withMon (s.mon.missed d)

/-- A missing-pulse event by the qualification state (R39, R42, R43). -/
theorem missingPulse_of_due {s : State} {d : Instant} (hd : s.mon.missingDue = some d) :
    (s.mon.qual = .candidate → missingPulse s = if 2 ≤ s.mon.consecutiveMissing then enterQual .absent (s.missedAt d)
      else (s.missedAt d).withMon { s.mon.missed d with qualTimer := some s.cfg.qualification }) ∧
    (s.mon.qual = .qualified → missingPulse s = if 2 ≤ s.mon.consecutiveMissing then
      enterQual .absent (raise .refLost (s.missedAt d)) else s.missedAt d) ∧
    (s.mon.qual ≠ .candidate → s.mon.qual ≠ .qualified → missingPulse s = s.missedAt d) := by
  have third : min 3 (s.mon.consecutiveMissing + 1) = 3 ↔ 2 ≤ s.mon.consecutiveMissing := by omega
  unfold missingPulse
  simp only [hd, third, State.missedAt, Monitor.missed, State.withMon_mon]
  cases s.mon.qual <;> simp

/-! ### What the model's operations are made of -/

/-- A choice between two states that both have `P`. -/
theorem keeps_ite {P : State → Prop} {c : Prop} [Decidable c] {s t : State} (hs : c → P s) (ht : ¬c → P t) :
    P (if c then s else t) := by
  split
  · exact hs ‹_›
  · exact ht ‹_›

section
variable {P : State → Prop} {o : Prop} (k : MonitorKept P o)
include k

/-! The monitor. -/

theorem MonitorKept.orderDisqualification (s : State) (h : P s) : P (orderDisqualification s) := by
  obtain e | e := orderDisqualification_eq s <;> rw [e]
  · exact h
  · exact k.mon _ _ (.of_eq rfl rfl rfl rfl) (k.enterQual _ s h)

theorem MonitorKept.residualFault (s : State) (h : P s) : P (residualFault s) := by
  have h1 := k.raise .refFault _ (k.mon { s.mon with
    history := { s.mon.history with frozen := true }, window := [], ordered := none } s (.of_eq rfl rfl rfl rfl) h)
  unfold Machine.residualFault
  dsimp only
  split
  · exact k.mon _ _ (.of_eq rfl rfl rfl rfl) h1
  · exact k.enterQual _ _ h1

theorem MonitorKept.completeBlock (ho : o) (s : State) (h : P s) : P (completeBlock s) := by
  have h1 : P (if Config.limitObservation < (observationOf s.mon.blockSum s.cfg.decimation).natAbs
      then Machine.raise .obsSat s else s) := keeps_ite (fun _ => k.raise _ s h) fun _ => h
  have h2 := k.mon { (Monitor.emptyBlock _) with
    prediction := some (clampAbs Config.limitObservation (observationOf s.mon.blockSum s.cfg.decimation)) } _
    (.of_eq rfl rfl rfl rfl) h1
  exact keeps_ite (fun _ => k.takeObservation ho _ _ h2) fun _ => h2

theorem MonitorKept.addToBlock (ho : o) (m : Int) (tag : Second) (s : State) (h : P s) : P (addToBlock m tag s) := by
  have h1 := k.mon { s.mon with
    blockSum := s.mon.blockSum + m
    blockCount := s.mon.blockCount + 1
    blockOpen := if s.mon.blockCount = 0 then some tag else s.mon.blockOpen } s (.of_eq rfl rfl rfl rfl) h
  exact keeps_ite (fun _ => k.completeBlock ho _ h1) fun _ => h1

theorem MonitorKept.checkMeasurement (ho : o) (m : Int) (tag : Second) (s : State) (h : P s) : P (checkMeasurement m tag s) := by
  obtain e | e | ⟨r, e⟩ := checkMeasurement_cases m tag s <;> rw [e]
  · exact h
  · exact k.addToBlock ho _ _ _ (k.mon _ s (.of_eq rfl rfl rfl rfl) h)
  · have h1 := k.mon (s.judged r) s
      ⟨rfl, fun c => ⟨c.extra, c.missing, HistoryRing.write_fill r c.history⟩⟩ h
    exact keeps_ite (fun _ => k.residualFault _ h1) fun _ => keeps_ite (fun _ => h1) fun _ => k.addToBlock ho _ _ _ h1

theorem MonitorKept.measureHeld (ho : o) (s : State) (h : P s) : P (measureHeld s) := by
  have h1 := k.mon { s.mon with stage := .idle } s (.of_eq rfl rfl rfl rfl) h
  unfold Machine.measureHeld
  dsimp only
  split
  · split
    · exact k.checkMeasurement ho _ _ _ (k.mon _ _ (.of_eq rfl rfl rfl rfl) h1)
    · exact h1
  · exact h1

theorem MonitorKept.countDown (ho : o) (s : State) (h : P s) : P (countDown s) := by
  rw [countDown_eq]
  exact keeps_ite (fun _ => k.mon _ s (.of_eq rfl rfl rfl rfl) h) fun _ =>
    k.measureHeld ho _ (k.mon _ s (.of_eq rfl rfl rfl rfl) h)

theorem MonitorKept.monitorBoundary (ho : o) (e : Bool) (s : State) (h : P s) : P (monitorBoundary e s) := by
  have h1 : P (if e then noticeMonitor s else s) :=
    keeps_ite (fun _ => k.mon _ s (.of_eq rfl rfl rfl rfl) h) fun _ => h
  exact keeps_ite (fun _ => k.mon _ _ (.of_eq rfl rfl rfl rfl) h1) fun _ => k.countDown ho _ h1

theorem MonitorKept.takeStaleBlock (ho : o) (s : State) (h : P s) : P (takeStaleBlock s) :=
  k.countDown ho _ (k.mon _ s (.of_eq rfl rfl rfl rfl) h)

theorem MonitorKept.takeQualification (ho : o) (s : State) (h : P s) : P (takeQualification s) :=
  k.measureHeld ho _ (k.enterQual _ s h)

theorem MonitorKept.takeHoldoff (ho : o) (s : State) (h : P s) : P (takeHoldoff s) := k.measureHeld ho _ (k.enterQual _ s h)

theorem MonitorKept.takeExpiry (ho : o) (s : State) (h : P s) : P (takeExpiry s) := by
  unfold Machine.takeExpiry
  split
  · exact k.takeQualification ho s h
  · exact k.takeHoldoff ho s h
  · exact k.measureHeld ho s h

theorem MonitorKept.settleMonitor (ho : o) (s : State) (h : P s) : P (settleMonitor s) := by
  have h1 : P (if s.mon.stage = .stale then Machine.takeStaleBlock s else s) :=
    keeps_ite (fun _ => k.takeStaleBlock ho s h) fun _ => h
  exact keeps_ite (fun _ => k.takeExpiry ho _ h1) fun _ => h1

theorem MonitorKept.takePulse (ho : o) (t : Instant) (s : State) (h : P s) : P (takePulse t s) := by
  unfold Machine.takePulse
  dsimp only
  split
  · exact k.mon _ s ⟨rfl, fun c => ⟨countUp_le c.extra, c.missing, c.history⟩⟩ h
  · refine (fun h1 => ?_) (k.mon { s.mon with
      lastPulse := some ⟨t, s.tagOf t⟩, missingDue := some (t + 1100000000), consecutiveMissing := 0 } s
      (.of_eq rfl rfl rfl rfl) h)
    have h2 := k.enterQual .candidate _ h1
    split <;> split
    · exact k.mon _ _ (.of_eq rfl rfl rfl rfl) h2
    · exact k.mon _ _ (.of_eq rfl rfl rfl rfl) h1
    · exact k.checkMeasurement ho _ _ _ h2
    · exact k.checkMeasurement ho _ _ _ h1

end

section
variable {P : State → Prop} {o : Prop} (k : DueKept P o)
include k

/-! The Peer Table Unit. -/

theorem DueKept.observationPoint (ho : o) (s : State) (h : P s) : P (observationPoint s) := by
  have h1 := k.takePoint ho _ (k.ptu _ s (.of_eq rfl rfl rfl rfl) h : P (formResults s))
  exact keeps_ite (fun _ => k.orderDisqualification _ h1) fun _ => h1

theorem DueKept.pointDue (ho : o) (s : State) (h : P s) : P (pointDue s) := by
  have h1 := k.ptu { s.ptu with stage := .idle } s (.of_eq rfl rfl rfl rfl) h
  exact keeps_ite (fun _ => k.observationPoint ho _ h1) fun _ => h1

theorem DueKept.afterQuarantine (ho : o) (s : State) (h : P s) : P (afterQuarantine s) := by
  exact keeps_ite (fun _ => k.ptu _ s (.of_eq rfl rfl rfl rfl) h) fun _ => k.pointDue ho s h

theorem DueKept.countQuarantine (ho : o) (s : State) (h : P s) : P (countQuarantine s) :=
  k.afterQuarantine ho _ (k.ptu _ s (PeerUnit.moves_mapPeers ..) h)

theorem DueKept.afterExpiry (ho : o) (s : State) (h : P s) : P (afterExpiry s) := by
  exact keeps_ite (fun _ => k.ptu _ s (.of_eq rfl rfl rfl rfl) h) fun _ => k.countQuarantine ho s h

theorem DueKept.peersBoundary (ho : o) (n : Option Int) (s : State) (h : P s) : P (peersBoundary n s) := by
  have h1 := k.ptu { s.ptu with lapsed := Vector.replicate 16 none } s (.of_eq rfl rfl rfl rfl) h
  unfold Machine.peersBoundary
  dsimp only
  refine k.afterExpiry ho _ ?_
  split
  · exact k.ptu _ _ (PeerUnit.moves_notice ..) h1
  · exact h1

theorem DueKept.expirePeer (a : Fin 16) (s : State) (h : P s) : P (expirePeer a s) :=
  k.ptu _ s (((PeerUnit.moves_setPeer _ none (by simp)).trans (PeerUnit.moves_dropMark _ a)).trans
    (.of_eq rfl rfl rfl rfl)) h

theorem DueKept.endQuarantine (a : Fin 16) (s : State) (h : P s) : P (endQuarantine a s) := by
  unfold Machine.endQuarantine
  split
  · next e he =>
    refine k.ptu _ s ⟨fun hown => ?_, fun c => ⟨c.unpaired, c.orphan⟩⟩ h
    have ha : a ≠ s.pwr.address := fun e' => by
      have := hown.peer
      rw [← e', he] at this
      simp at this
    exact (PeerUnit.moves_setPeer s.ptu _ fun _ => ha).own hown
  · exact h

theorem DueKept.expireAll (l : List (Fin 16)) (s : State) (h : P s) : P (expireAll l s) := by
  induction l generalizing s with
  | nil => exact h
  | cons a l ih =>
    exact ih _ (keeps_ite (fun _ => k.expirePeer a s h) fun _ => h)

theorem DueKept.endAll (l : List (Fin 16)) (s : State) (h : P s) : P (endAll l s) := by
  induction l generalizing s with
  | nil => exact h
  | cons a l ih =>
    exact ih _ (keeps_ite (fun _ => k.endQuarantine a s h) fun _ => h)

theorem DueKept.settlePeers (ho : o) (s : State) (h : P s) : P (settlePeers s) := by
  have h1 : P (if s.ptu.stage = .expiry then Machine.countQuarantine (Machine.expireAll addresses s) else s) :=
    keeps_ite (fun _ => k.countQuarantine ho _ (k.expireAll _ s h)) fun _ => h
  exact keeps_ite (fun _ => k.pointDue ho _ (k.endAll _ _ h1)) fun _ => h1

end

section
variable {i : Instr} {P : State → Prop} {o : Prop} (k : Kept i P o)
include k

theorem Kept.due : DueKept P o where
  raise := k.raise
  enterQual := k.enterQual
  takeObservation := k.takeObservation
  takePoint := k.takePoint
  mon := k.mon
  ptu := k.ptu

theorem Kept.at (t : Instant) (s : State) (h : P s) : P (s.at t) := k.clock t s.tsg.windowGap s h

theorem Kept.raiseAll (fs : List Flag) (s : State) (h : P s) : P (raiseAll fs s) := by
  induction fs generalizing s with
  | nil => exact h
  | cons f fs ih => exact ih _ (k.raise f s h)

theorem Kept.refuse (c : Cause) (s : State) (h : P s) : P (refuse c s) :=
  k.raise _ _ (k.status s.scu.enabled c s h)

theorem Kept.takeSteerLimit (s : State) (h : P s) : P (takeSteerLimit s) := k.enterFault _ (k.raise _ _ h)

theorem Kept.reportLoss (s : State) (h : P s) : P (reportLoss s) := k.enterFault _ (k.raise _ _ h)

theorem Kept.settleSteer (s : State) (h : P s) : P (settleSteer s) := by
  exact keeps_ite (fun _ => k.takeSteerLimit s h) fun _ => h

theorem Kept.selectSource (s : State) (h : P s) : P (selectSource s) := by
  unfold Machine.selectSource
  split
  · exact h
  · next hs =>
    refine k.applySelection s (fun hf => hs ?_) h
    simp [State.silent, hf]

/-! The blocks by their commands. -/

theorem Kept.missingPulse (s : State) (h : P s) : P (missingPulse s) := by
  cases hd : s.mon.missingDue with
  | none => simpa [Machine.missingPulse, hd] using h
  | some d =>
    have h1 : P (s.missedAt d) :=
      k.mon _ _ ⟨rfl, fun c => ⟨c.extra, countUp_le c.missing, c.history⟩⟩ (k.at d s h)
    obtain ⟨candidate, qualified, other⟩ := missingPulse_of_due hd
    by_cases hc : s.mon.qual = .candidate
    · rw [candidate hc]
      exact keeps_ite (fun _ => k.enterQual _ _ h1) fun _ => k.mon _ _ (.of_eq rfl rfl rfl rfl) h1
    · by_cases hq : s.mon.qual = .qualified
      · rw [qualified hq]
        exact keeps_ite (fun _ => k.enterQual _ _ (k.raise _ _ h1)) fun _ => h1
      · rw [other hc hq]
        exact h1

theorem Kept.releaseHistory (s : State) (h : P s) : P (releaseHistory s) :=
  k.mon _ s ⟨rfl, fun c => ⟨c.extra, c.missing, Nat.zero_le 8⟩⟩ h

theorem Kept.takeMark (a : Fin 16) (q : BitVec 8) (st : Stamp) (s : State) (ha : a ≠ s.pwr.address) (h : P s) :
    P (takeMark a q st s) :=
  k.ptu _ s ((PeerUnit.moves_dropMark _ a).trans (PeerUnit.moves_setMark _ _ fun _ => ha)) h

theorem Kept.takeSample (a : Fin 16) (l : Int) (f : FollowData) (n : Second) (s : State) (ha : a ≠ s.pwr.address)
    (h : P s) : P (takeSample a l f n s) := by
  have h1 := k.ptu _ s (PeerUnit.moves_setPeer s.ptu
    (takeEntry s.ptu.peers[a] l f n s.cfg.peerLimit s.cfg.filterConstant).1 fun _ => ha) h
  exact keeps_ite (fun _ => k.raise _ _ h1) fun _ => h1

theorem Kept.takeFollow (a : Fin 16) (f : FollowData) (st : Stamp) (s : State) (ha : a ≠ s.pwr.address) (h : P s) :
    P (takeFollow a f st s) := by
  have orphan := k.ptu _ s (PeerUnit.moves_orphan s.ptu) h
  unfold Machine.takeFollow
  split
  · split
    · exact k.takeSample _ _ _ _ _ ha (k.ptu _ s
        ((PeerUnit.moves_setMark _ none (by simp)).trans (.of_eq rfl rfl rfl rfl)) h)
    · exact orphan
  · exact orphan

/-! What is due. -/

theorem Kept.takeRecovery (s : State) (h : P s) : P (takeRecovery s) :=
  k.bus _ s (.of_eq rfl rfl rfl rfl rfl rfl rfl rfl rfl rfl (fun a ha => ⟨a, ha, id⟩) rfl rfl
    fun _ => Nat.zero_le _) h

theorem Kept.warmupSelection (s : State) (h : P s) : P (if s.warmupDue then Machine.applySelection s else s) :=
  keeps_ite (fun hw => k.applySelection s (fun hf => by simp [State.warmupDue, hf] at hw) h) fun _ => h

theorem Kept.settle (ho : o) (s : State) (h : P s) : P (settle s) := by
  have h1 : P (if s.agingDue then Machine.takeAgingSample s else s) :=
    keeps_ite (fun _ => k.takeAgingSample s h) fun _ => h
  have h2 := k.warmupSelection _ (k.due.settlePeers ho _ (k.due.settleMonitor ho _ (k.settleSteer _ h1)))
  exact keeps_ite (fun _ => keeps_ite (fun _ => k.takeRecovery _ h2) fun _ => h2) fun _ => h

/-! The own boundary. -/

theorem Kept.learningBoundary (s : State) (h : P s) : P (learningBoundary s) := by
  have h1 := k.lrn { s.lrn with
    converting := true
    agingClock := if s.learningAllowed then s.lrn.agingClock + 1 else 0 } s ⟨rfl, rfl, rfl, rfl, rfl⟩ h
  exact keeps_ite (fun _ => k.raise _ _ h1) fun _ => h1

/-- A change of the bus record that leaves the queue, the attempt and the counters as they are. -/
theorem Kept.busSame (b : Bus) (s : State) (listenOnly : b.listenOnly = s.bus.listenOnly)
    (mark : b.mark = s.bus.mark) (follow : b.follow = s.bus.follow) (status0 : b.status0 = s.bus.status0)
    (wait0 : b.wait0 = s.bus.wait0) (status1 : b.status1 = s.bus.status1) (wait1 : b.wait1 = s.bus.wait1)
    (alert : b.alert = s.bus.alert) (aside : b.aside = s.bus.aside) (pages : b.pages = s.bus.pages)
    (attempt : b.attempt = s.bus.attempt) (badFrames : b.badFrames = s.bus.badFrames)
    (marksLate : b.marksLate = s.bus.marksLate) (receive : s.bus.receiveErrors ≤ 255 → b.receiveErrors ≤ 255)
    (h : P s) : P (s.withBus b) :=
  k.bus b s (.of_eq listenOnly mark follow status0 wait0 status1 wait1 alert aside pages
    (fun a ha => ⟨a, attempt ▸ ha, id⟩) badFrames marksLate receive) h

theorem Kept.owedStatus (s : State) (h : P s) : P (if s.bus.statusDue then Machine.offerStatus s else s) :=
  keeps_ite (fun _ => k.offerStatus s h) fun _ => h

theorem Kept.busBoundary (s : State) (h : P s) : P (busBoundary s) := by
  have h1 : P (if s.bus.error = .busOff then Machine.raise .busOff s else s) :=
    keeps_ite (fun _ => k.raise _ s h) fun _ => h
  exact k.busSame _ _ rfl rfl rfl rfl rfl rfl rfl rfl rfl rfl rfl rfl rfl id (k.owedStatus _ h1)

theorem Kept.runTask (ho : o) (hi : ∃ o, i = .ownBoundary o) (c : Option Committed) (t : BoundaryTask) (s : State) (h : P s) :
    P (runTask c t s) := by
  cases t with
  | latch => exact k.latch hi s h
  | oscillator => exact keeps_ite (fun _ => k.reportLoss _ (k.settleSteer s h)) fun _ => h
  | monitor => exact k.due.monitorBoundary ho _ _ (k.settleSteer s h)
  | peers => exact k.due.peersBoundary ho _ _ (k.settleSteer s h)
  | engine => exact k.engineBoundary s h
  | learning => exact k.learningBoundary s h
  | bus => exact k.busBoundary s h

theorem Kept.runTasks (ho : o) (hi : ∃ o, i = .ownBoundary o) (c : Option Committed) (done tasks : List BoundaryTask)
    (s : State) (h : P s) : P (runTasks c done tasks s) := by
  induction tasks generalizing done s with
  | nil => exact h
  | cons t ts ih => exact keeps_ite (fun _ => ih _ _ h) fun _ => ih _ _ (k.runTask ho hi c t s h)

theorem Kept.ownBoundary (ho : o) (hi : ∃ o, i = .ownBoundary o) (o : List BoundaryTask) (s : State) (h : P s) :
    P (ownBoundary o s) := by
  rw [ownBoundary_eq]
  exact k.runTasks ho hi _ _ _ _ (k.openBoundary hi s h)

end

end Sys2Proof.Machine
end

section
/-! PROOF. The commands of the bus, of the site controller and of the pins, each as its operations: `exec_keeps` and
`step_keeps`. -/

namespace Sys2Proof.Machine

/-! ### Changes of the bus record -/

/-- No open attempt, or the one that was open without its slot. -/
theorem Bus.Moves.emptied_of_restart (b : Bus) : b.Moves b.restarted where
  quiet _ hl := by simp [Bus.restarted] at hl
  counters h := ⟨Nat.zero_le _, Nat.zero_le _, h.receive, Nat.zero_le _⟩

theorem Bus.emptied_silent (b : Bus) : b.emptied.Silent where
  mark := rfl
  follow := rfl
  status0 := rfl
  wait0 := rfl
  status1 := rfl
  wait1 := rfl
  alert := rfl
  aside := rfl
  pages := rfl
  attempt a ha := by
    cases h : b.attempt with
    | none => simp [Bus.emptied, h] at ha
    | some x => simp [Bus.emptied, h] at ha; simp [← ha]

/-- Silence does not see the mode. -/
theorem Bus.Silent.listen {b : Bus} (h : b.Silent) : ({ b with listenOnly := true } : Bus).Silent :=
  ⟨h.mark, h.follow, h.status0, h.wait0, h.status1, h.wait1, h.alert, h.aside, h.pages, h.attempt⟩

theorem Bus.moves_conflict (b : Bus) : b.Moves { b.emptied with listenOnly := true } where
  quiet _ _ := b.emptied_silent.listen
  counters h := ⟨h.badFrames, h.marksLate, h.receive, Nat.zero_le _⟩

theorem Bus.receive_updateError_less {b : Bus} (h : b.receiveErrors ≤ 255) :
    b.lessReceiveError.updateError.receiveErrors ≤ 255 := by
  rw [(Bus.updateError_keeps _).2.2.1, Bus.lessReceiveError]
  split
  · exact h
  · exact Nat.le_trans (Nat.sub_le ..) h

theorem Bus.receive_updateError_add {b : Bus} (h : b.receiveErrors ≤ 255) :
    b.addReceiveError.updateError.receiveErrors ≤ 255 := by
  rw [(Bus.updateError_keeps _).2.2.1, Bus.addReceiveError]
  split
  · exact h
  · exact Nat.min_le_left ..

/-- An open attempt that ends. -/
theorem Bus.Moves.of_ended {b c : Bus} (attempt : c.attempt = none) (listenOnly : c.listenOnly = b.listenOnly)
    (mark : c.mark = b.mark) (follow : c.follow = b.follow) (status0 : c.status0 = b.status0)
    (wait0 : c.wait0 = b.wait0) (status1 : c.status1 = b.status1) (wait1 : c.wait1 = b.wait1)
    (alert : c.alert = b.alert) (aside : c.aside = b.aside) (pages : c.pages = b.pages)
    (badFrames : c.badFrames = b.badFrames) (marksLate : c.marksLate = b.marksLate)
    (receive : c.receiveErrors = b.receiveErrors) : b.Moves c :=
  .of_eq listenOnly mark follow status0 wait0 status1 wait1 alert aside pages (by simp [attempt]) badFrames marksLate
    (receive ▸ id)

/-- A slot that is filled only outside listen-only. -/
theorem Bus.Moves.of_filled {b c : Bus} (open_ : c.listenOnly = false) (badFrames : c.badFrames = b.badFrames)
    (marksLate : c.marksLate = b.marksLate) (receive : c.receiveErrors = b.receiveErrors)
    (pages : b.pages.length ≤ 2 → c.pages.length ≤ 2) : b.Moves c where
  quiet _ hl := by simp [open_] at hl
  counters h := ⟨badFrames ▸ h.badFrames, marksLate ▸ h.marksLate, receive ▸ h.receive, pages h.pages⟩

/-! ### What LOAD restores -/

theorem readBytes_lt : ∀ bs : List Byte, readBytes bs < 256 ^ bs.length
  | [] => Nat.one_pos
  | b :: bs => by
    have rest := readBytes_lt bs
    have head : b.toNat * 256 ^ bs.length ≤ 255 * 256 ^ bs.length := Nat.mul_le_mul_right _ (by omega)
    rw [readBytes, List.length_cons, Nat.pow_succ]
    omega

theorem Memory.readAll_length (m : Memory) : ∀ (n a : Nat), (m.readAll a n).length = n
  | 0, _ => rfl
  | n + 1, a => by rw [Memory.readAll, List.length_cons, readAll_length m n]

theorem storedBin_count_le (m : Memory) (b : Nat) : (storedBin m b).count ≤ 65535 := by
  have := readBytes_lt (m.readAll (272 + 8 * b) 2)
  rw [Memory.readAll_length] at this
  exact Nat.le_of_lt_succ this

theorem Learning.limits_reset : Learning.reset.Limits := by
  refine ⟨fun i => ?_, fun i => ?_, Nat.zero_le _, Nat.zero_le _⟩ <;> simp [Learning.reset, Bin.empty]

/-- A learning block that passes the check is within its limits (R152). -/
theorem readLearningBlock_limits {m : Memory} {table : Vector Bin 64} {aging : List AgingSample} {rate : Int}
    (h : readLearningBlock m = .sound table aging rate) :
    ({ Learning.reset with table := table, aging := aging, rate := rate } : Learning).Limits := by
  unfold readLearningBlock at h
  dsimp only at h
  iterate 3
    split at h
    · cases h
  rename_i found
  obtain ⟨rfl, rfl, rfl⟩ := StoredCopy.sound.inj h
  obtain ⟨fill, low, high, bins⟩ := not_or.mp found |>.imp_right fun h => (not_or.mp h).imp_right not_or.mp
  refine ⟨fun i => ?_, fun i => ?_, ?_, by dsimp only; omega⟩
  · simpa using storedBin_count_le m i
  · have range : (storedBin m i).inRange = true := by
      refine List.all_eq_true.mp (Decidable.not_not.mp bins) _ ?_
      rw [Vector.mem_toList_iff]
      exact Vector.mem_ofFn.mpr ⟨i, rfl⟩
    simp only [Bin.inRange, Bool.and_eq_true, decide_eq_true_eq] at range
    simp only [Fin.getElem_fin, Vector.getElem_ofFn]
    omega
  · simp only [List.length_map, List.length_range]
    omega

section
variable {i : Instr} {P : State → Prop} {o : Prop} (k : Kept i P o)
include k

/-! ### The Bus Interface -/

theorem Kept.dropMarkLate (s : State) (h : P s) : P (dropMarkLate s) :=
  k.raise _ _ (k.bus _ s
    ⟨fun q hl => { q hl with mark := rfl }, fun c => { c with marksLate := countUp_le c.marksLate }⟩ h)

theorem Kept.settleSlot (sent : Bool) (a : Attempt) (s : State) (h : P s) : P (settleSlot sent a s) := by
  unfold Machine.settleSlot
  dsimp only
  split
  · exact h
  · split
    · refine keeps_ite (fun _ => k.bus _ s ⟨fun q hl => { q hl with mark := rfl }, fun c => { c with }⟩ h) fun _ => ?_
      exact keeps_ite (fun _ => k.dropMarkLate s h) fun _ => h
    · exact keeps_ite (fun _ => k.bus _ s ⟨fun q hl => { q hl with follow := rfl }, fun c => { c with }⟩ h) fun _ => h
    · refine keeps_ite (fun _ => k.bus _ s ⟨fun q hl => { q hl with pages := ?_ }, fun c => { c with pages := ?_ }⟩ h)
        fun _ => h
      · simp [(q hl).pages]
      · exact Nat.le_trans (List.length_drop ▸ Nat.sub_le ..) c.pages
    · refine k.bus _ s ⟨fun q hl => { q hl with alert := ?_, aside := rfl }, fun c => { c with }⟩ h
      simp [(q hl).alert, (q hl).aside]
    · refine k.bus _ s ⟨fun q hl => { q hl with status0 := ?_, wait0 := rfl }, fun c => { c with }⟩ h
      simp [(q hl).status0, (q hl).wait0]
    · refine k.bus _ s ⟨fun q hl => { q hl with status1 := ?_, wait1 := rfl }, fun c => { c with }⟩ h
      simp [(q hl).status1, (q hl).wait1]

theorem Kept.queueFollow (a : Attempt) (s : State) (h : P s) : P (queueFollow a s) := by
  unfold Machine.queueFollow
  split
  · refine keeps_ite (fun hc => k.bus _ s (.of_filled ?_ rfl rfl rfl id) h) fun _ => h
    simp_all
  · exact h

theorem Kept.completeAttempt (t : Instant) (s : State) (h : P s) : P (completeAttempt t s) := by
  unfold Machine.completeAttempt
  split
  · exact h
  · refine k.queueFollow _ _ (k.settleSlot _ _ _ (k.bus _ _ (.of_ended ?_ ?_ ?_ ?_ ?_ ?_ ?_ ?_ ?_ ?_ ?_ ?_ ?_ ?_)
      (k.at t s h))) <;> simp

theorem Kept.loseArbitration (t : Instant) (s : State) (h : P s) : P (loseArbitration t s) := by
  unfold Machine.loseArbitration
  split
  · exact h
  · refine k.settleSlot _ _ _ (k.bus _ _ (.of_ended ?_ ?_ ?_ ?_ ?_ ?_ ?_ ?_ ?_ ?_ ?_ ?_ ?_ ?_) (k.at t s h)) <;> simp

theorem Kept.checkBusOff (s : State) (h : P s) : P (checkBusOff s) :=
  keeps_ite (fun _ => k.raise _ _ (k.busSame _ s rfl rfl rfl rfl rfl rfl rfl rfl rfl rfl rfl rfl rfl id h)) fun _ => h

theorem Kept.addressConflict (s : State) (h : P s) : P (addressConflict s) := by
  have h1 := k.raise .addrConflict s h
  exact keeps_ite (fun _ => h1) fun _ => k.bus _ _ (Bus.moves_conflict _) h1

theorem Kept.afterAttempt (t : Instant) (s : State) (h : P s) : P (s.withBus (s.bus.afterAttempt t)) :=
  k.busSame _ s (by simp) (by simp) (by simp) (by simp) (by simp) (by simp) (by simp) (by simp) (by simp) (by simp)
    (by simp) (by simp) (by simp) (by simp) h

theorem Kept.failAttempt (t : Instant) (kind : BusError) (d : Bool) (s : State) (h : P s) :
    P (failAttempt t kind d s) := by
  unfold Machine.failAttempt
  split
  · exact h
  · dsimp only
    have h1 : ∀ n, P ((s.at t).withBus
        (({ s.bus with attempt := none, seen := none, dataErrors := n }).addTransmitError kind).updateError) := by
      intro n
      refine k.bus _ _ (.of_ended ?_ ?_ ?_ ?_ ?_ ?_ ?_ ?_ ?_ ?_ ?_ ?_ ?_ ?_) (k.at t s h) <;> simp
    have h2 := fun n a => k.settleSlot false a _ (k.afterAttempt t _ (k.checkBusOff _ (h1 n)))
    exact keeps_ite (fun _ => k.addressConflict _ (h2 _ _)) fun _ => h2 _ _

theorem Kept.failReception (t : Instant) (s : State) (h : P s) : P (failReception t s) := by
  refine keeps_ite (fun _ => h) fun _ => ?_
  refine k.busSame _ _ ?_ ?_ ?_ ?_ ?_ ?_ ?_ ?_ ?_ ?_ ?_ ?_ ?_ Bus.receive_updateError_add (k.at t s h) <;> simp

theorem Kept.startAttempt (t : Instant) (u : BusTimes) (s : State) (h : P s) : P (startAttempt t u s) := by
  unfold Machine.startAttempt
  split
  · next hm =>
    split
    · refine k.bus _ _ (.of_filled ?_ rfl rfl rfl id) (k.at t s h)
      simp only [State.mayStart, Bool.and_eq_true, Bool.not_eq_true'] at hm
      exact hm.1.2
    · exact h
  · exact h

theorem Kept.seeEdge (e : BusEdge) (s : State) (h : P s) : P (seeEdge e s) :=
  k.busSame _ _ (by simp) (by simp) (by simp) (by simp) (by simp) (by simp) (by simp) (by simp) (by simp) (by simp)
    (by simp) (by simp) (by simp) (by simp) (k.at e.time s h)

/-- The mark of a deadline passed leaves the queue. -/
theorem Kept.expireAttempt (s : State) (h : P s) : P (s.withBus s.bus.expireAttempt) := by
  refine k.bus _ s (.of_eq ?_ ?_ ?_ ?_ ?_ ?_ ?_ ?_ ?_ ?_ ?_ ?_ ?_ ?_) h
  case refine_11 =>
    intro a ha
    cases hb : s.bus.attempt with
    | none => simp [Bus.expireAttempt, hb] at ha
    | some x => exact ⟨x, rfl, fun hx => by simp [Bus.expireAttempt, hb] at ha; simp [← ha, hx]⟩
  all_goals simp

theorem Kept.markDeadline (s : State) (h : P s) : P (markDeadline s) := by
  unfold Machine.markDeadline
  split
  · exact h
  · have h1 := fun m : MarkEntry => k.at m.deadline s h
    exact keeps_ite (fun _ => k.expireAttempt _ (h1 _)) fun _ => k.dropMarkLate _ (h1 _)

theorem Kept.followDeadline (s : State) (h : P s) : P (followDeadline s) := by
  unfold Machine.followDeadline
  split
  · exact h
  · have h1 := fun m : FollowEntry => k.at m.deadline s h
    exact keeps_ite (fun _ => k.expireAttempt _ (h1 _)) fun _ =>
      k.bus _ _ ⟨fun q hl => { q hl with follow := rfl }, fun c => { c with }⟩ (h1 _)

theorem Kept.pageDeadline (n : Fin 2) (s : State) (h : P s) : P (pageDeadline n s) := by
  unfold Machine.pageDeadline
  split
  · exact h
  · have h1 := fun m : PageEntry => k.at m.deadline s h
    refine keeps_ite (fun _ => k.expireAttempt _ (h1 _)) fun _ =>
      k.bus _ _ ⟨fun q hl => { q hl with pages := ?_ }, fun c => { c with pages := ?_ }⟩ (h1 _)
    · have := (q hl).pages
      simp_all
    · exact Nat.le_trans (List.length_eraseIdx_le ..) c.pages

theorem Kept.markFallsDue (s : State) (h : P s) : P (markFallsDue s) := by
  unfold Machine.markFallsDue
  split
  · exact h
  · next d _ =>
    have h1 := k.busSame { s.bus with markDue := none } (s.at d) rfl rfl rfl rfl rfl rfl rfl rfl rfl rfl rfl rfl rfl id
      (k.at d s h)
    refine keeps_ite (fun hc => k.bus _ _ (.of_filled ?_ rfl rfl rfl id) h1) fun _ => h1
    simpa using hc.2.2

theorem Kept.statusFallsDue (s : State) (h : P s) : P (statusFallsDue s) :=
  keeps_ite (fun _ => k.offerStatus _ (k.busSame _ _ rfl rfl rfl rfl rfl rfl rfl rfl rfl rfl rfl rfl rfl id
    (k.at _ s h))) fun _ => h

/-! ### The Learning Unit -/

theorem Kept.beginPage (p : SaveProgress) (s : State) (h : P s) : P (beginPage p s) :=
  k.lrn _ s ⟨rfl, rfl, rfl, rfl, rfl⟩ h

theorem Kept.startSave (s : State) (h : P s) : P (startSave s) := by
  unfold Machine.startSave
  dsimp only
  split
  · exact k.beginPage _ s h
  · exact k.lrn _ s ⟨rfl, rfl, rfl, rfl, rfl⟩ h

theorem Kept.pageWriteDone (hi : i = .eepromPageWriteDone) (s : State) (h : P s) : P (pageWriteDone s) := by
  unfold Machine.pageWriteDone
  split
  · exact h
  · next w _ =>
    have h1 := k.lrn { s.lrn with pageWrite := none } s ⟨rfl, rfl, rfl, rfl, rfl⟩ h
    have h2 := keeps_ite (c := w.lands = true) (fun _ => k.landPage (.inl hi) w _ h1) fun _ => h1
    dsimp only
    split
    · exact h2
    · exact keeps_ite (fun _ => k.beginPage _ _ h2) fun _ =>
        keeps_ite (fun _ => k.lrn _ _ ⟨rfl, rfl, rfl, rfl, rfl⟩ h2) fun _ => k.beginPage _ _ h2

theorem Kept.pageWriteFailed (b : Bool) (hi : ∃ b, i = .eepromFailure b) (s : State) (h : P s) :
    P (pageWriteFailed b s) := by
  unfold Machine.pageWriteFailed
  split
  · exact h
  · next w _ =>
    have h1 := k.lrn { s.lrn with pageWrite := none } s ⟨rfl, rfl, rfl, rfl, rfl⟩ h
    have h2 : P (cutPage b w (s.withLrn { s.lrn with pageWrite := none })) :=
      keeps_ite (fun _ => k.landPage (.inr hi) w _ h1) fun _ => h1
    dsimp only
    split
    · exact k.raise _ _ (k.lrn _ _ ⟨rfl, rfl, rfl, rfl, rfl⟩ h2)
    · split
      · exact k.beginPage _ _ h2
      · exact h2

/-! ### LOAD and SITE_PWR -/

theorem Kept.restoreLearning (hi : ∃ a, i = .learningBlockRead a) (a : Bool) (s : State) (h : P s) :
    P (restoreLearning a s) := by
  have empty := k.putLearning hi Learning.reset s Learning.limits_reset h
  unfold Machine.restoreLearning
  refine keeps_ite (fun _ => k.raise _ _ empty) fun _ => ?_
  split
  · exact empty
  · exact k.raise _ _ empty
  · next table aging rate e =>
    exact k.putLearning hi { Learning.reset with table := table, aging := aging, rate := rate } s
      (readLearningBlock_limits e) h

theorem Kept.loadConfiguration (a : Bool) (hi : i = .configurationRead a) (s : State) (h : P s) : P (loadConfiguration a s) := by
  unfold Machine.loadConfiguration
  dsimp only
  have h1 := k.reconfigured s.pwr (configurationOutcome a s.eeprom).1
    (configurationOutcome a s.eeprom).1.alertEnables s.eng.warmupLeft s rfl rfl (.inr ⟨a, hi⟩) h
  have h2 := keeps_ite (c := (configurationOutcome a s.eeprom).2 = true)
    (fun _ => k.raise .configDefaulted _ h1) fun _ => h1
  have h3 := keeps_ite (c := a = true) (fun _ => h2) fun _ => k.raise .storeFault _ h2
  exact k.pwr _ _ ⟨rfl, rfl, rfl⟩ h3

theorem Kept.endLoad (s : State) (h : P s) : P (endLoad s) := by
  have h1 := k.offerStatus _ (k.reconfigured
    { s.pwr with stage := .done, state := if s.pwr.filtered then .runNormal else .runSave } s.cfg s.scu.enabled
    s.cfg.warmup s rfl rfl (.inl rfl) h)
  refine keeps_ite (fun hc => k.applySelection _ (fun hf => ?_) h1) fun _ => h1
  have := hc.2.symm.trans hf
  simp at this

theorem Kept.loadLearning (hi : ∃ a, i = .learningBlockRead a) (a : Bool) (s : State) (h : P s) :
    P (loadLearning a s) := k.endLoad _ (k.restoreLearning hi a s h)

theorem Kept.changePower (b : Bool) (s : State) (h : P s) : P (changePower b s) := by
  have h1 := k.pwr { s.pwr with filtered := b, filterDue := none } s ⟨rfl, rfl, rfl⟩ h
  exact keeps_ite (fun _ => h1) fun _ => k.offerStatus _ (k.reconfigured
    { s.pwr with filtered := b, filterDue := none, state := if b then .runNormal else .runSave } s.cfg s.scu.enabled
    s.eng.warmupLeft (s.withPwr { s.pwr with filtered := b, filterDue := none }) rfl rfl (.inl rfl) h1)

theorem Kept.sitePwrEdge (t : Instant) (b : Bool) (s : State) (h : P s) : P (sitePwrEdge t b s) :=
  keeps_ite (fun _ => h) fun _ => k.pwr _ _ ⟨rfl, rfl, rfl⟩ (k.at t s h)

end

end Sys2Proof.Machine
end

section
/-! PROOF. The command handler, the hand-off of frames and the pins: a predicate that the shared operations keep is kept
by every command but a reset and the opening of second 0 (`Kept.exec`), and by every step (`Steady.step`). -/

namespace Sys2Proof.Machine

/-- The slot's checks leave it empty, and nothing committed where the amount would be committed at once (R12). -/
theorem adjustRefusal_eq_none {k : AdjustKind} {a : Int} {d : Nat} {st : Stamp} {s : State}
    (h : adjustRefusal k a d st s = none) : s.tsg.slot = none ∧ (d = 1 → s.tsg.committed = none) := by
  unfold adjustRefusal at h
  dsimp only at h
  iterate 2
    split at h
    · cases h
  rename_i hslot hbusy
  exact ⟨Decidable.not_not.mp hslot, fun hd => Decidable.byContradiction fun hc => hbusy ⟨hd, hc⟩⟩

section
variable {i : Instr} {P : State → Prop} {o : Prop} (k : Kept i P o)
include k

/-! ### The command handler -/

theorem Kept.withMask (c : CommandFrame) (f : FlagSet → State → State) (hf : ∀ m s, P s → P (f m s)) (s : State)
    (h : P s) : P (withMask c f s) := by
  unfold Machine.withMask
  split
  · exact hf _ s h
  · exact k.refuse _ s h

theorem Kept.commandAdjust (kind : AdjustKind) (c : CommandFrame) (st : Stamp) (s : State) (h : P s) :
    P (commandAdjust kind c st s) := by
  unfold Machine.commandAdjust
  refine keeps_ite (fun _ => k.refuse _ s h) fun hr => keeps_ite (fun _ => k.refuse _ s h) fun _ =>
    keeps_ite (fun _ => k.refuse _ s h) fun _ => ?_
  split
  · exact k.refuse _ s h
  · next ha =>
    obtain ⟨hslot, hcommitted⟩ := adjustRefusal_eq_none ha
    refine k.acceptAdjust _ _ _ _ s (fun h0 => hr ?_) hslot hcommitted h
    simp [CommandFrame.adjustInRange, h0]

theorem Kept.readPage (n : Nat) (s : State) (h : P s) : P (readPage n s) := by
  unfold Machine.readPage
  refine keeps_ite (fun _ => k.refuse _ s h) fun _ => keeps_ite (fun _ => h) fun hl =>
    keeps_ite (fun _ => k.refuse _ s h) fun hp => k.bus _ s (.of_filled ?_ rfl rfl rfl fun _ => ?_) h
  · simpa using hl
  · simp only [List.length_append, List.length_singleton]
    omega

theorem Kept.commandSave (s : State) (h : P s) : P (commandSave s) :=
  keeps_ite (fun _ => k.refuse _ s h) fun _ => k.startSave s h

theorem Kept.commandClear (hi : carries i 14 = true) (s : State) (h : P s) : P (commandClear s) :=
  keeps_ite (fun _ => k.refuse _ s h) fun _ => k.clearLearning hi s h

theorem Kept.runCommand {code : BitVec 8} (hi : carries i code = true) (c : CommandFrame) (st : Stamp) (s : State)
    (h : P s) : P (runCommand code.toNat c st s) := by
  have named : ∀ n : BitVec 8, code.toNat = n.toNat → carries i n = true := fun n hn => BitVec.eq_of_toNat_eq hn ▸ hi
  suffices ∀ f, f = Machine.runCommand code.toNat c st → P (f s) from this _ rfl
  intro f hf
  unfold Machine.runCommand at hf
  split at hf <;> subst hf
  case h_1 => exact k.offerStatus s h
  case h_2 hn => exact k.withMask c _ (k.clearFlags (named 2 hn)) s h
  case h_3 => exact k.withMask c _ (fun m s => k.status _ s.scu.cause s) s h
  case h_4 => exact k.withMask c _ (fun m s => k.status _ s.scu.cause s) s h
  case h_5 => exact k.withMask c _ (fun m s => k.raiseAll _ s) s h
  case h_6 => exact k.commandAdjust .step c st s h
  case h_7 => exact k.commandAdjust .slew c st s h
  case h_8 => exact k.abortSlot s h
  case h_9 => exact k.setInhibit true s h
  case h_10 => exact k.setInhibit false s h
  case h_11 => exact k.releaseHistory s h
  case h_12 => exact k.readPage _ s h
  case h_13 => exact k.commandSave s h
  case h_14 hn => exact k.commandClear (named 14 hn) s h
  case h_15 hn => exact k.restart (named 15 hn) s h
  case h_16 => exact k.refuse _ s h

theorem Kept.handleCommand {code : BitVec 8} (hi : carries i code = true) (c : CommandFrame) (st : Stamp) (s : State)
    (h : P s) : P (handleCommand code c st s) :=
  keeps_ite (fun _ => k.runCommand hi c st s h) fun _ => h

/-! ### Receptions -/

theorem Kept.handOver (h : Heard) (hi : ∀ code c, h = .command code c → carries i code = true) (st : Stamp) (s : State)
    (hs : P s) : P (handOver h st s) := by
  cases h with
  | ignored => exact hs
  | bad => exact k.bus _ s ⟨fun q hl => { q hl with }, fun c => { c with badFrames := countUp_le c.badFrames }⟩ hs
  | mark a q => exact keeps_ite (fun _ => k.addressConflict s hs) fun ha => k.takeMark a q st s ha hs
  | follow a f => exact keeps_ite (fun _ => k.addressConflict s hs) fun ha => k.takeFollow a f st s ha hs
  | other a => exact keeps_ite (fun _ => k.addressConflict s hs) fun _ => hs
  | command code c => exact k.handleCommand (hi code c rfl) c st s hs

theorem Kept.lessReceiveError (s : State) (h : P s) : P (s.withBus s.bus.lessReceiveError.updateError) :=
  k.busSame _ s (by simp) (by simp) (by simp) (by simp) (by simp) (by simp) (by simp) (by simp) (by simp) (by simp)
    (by simp) (by simp) (by simp) Bus.receive_updateError_less h

theorem Kept.endReception (s : State) (h : P s) : P (endReception s) :=
  k.busSame { s.bus.lessReceiveError.updateError with seen := none }
    (s.withBus s.bus.lessReceiveError.updateError) rfl rfl rfl rfl rfl rfl rfl rfl rfl rfl rfl rfl
    rfl id (k.lessReceiveError s h)

theorem Kept.receive (t : Instant) (h : Heard) (hi : ∀ code c, h = .command code c → carries i code = true)
    (s : State) (hs : P s) : P (receive t h s) := by
  unfold Machine.receive
  split
  · exact keeps_ite (fun _ => k.handOver h hi _ _ (k.endReception _ (k.at t s hs))) fun _ =>
      keeps_ite (fun _ => k.handOver h hi _ _ (k.lessReceiveError _ (k.at t s hs))) fun _ => hs
  · exact hs

/-! ### The pins and the sensor -/

theorem Kept.pulseEnd (s : State) (h : P s) :
    P (if s.tsg.ppsOut then Machine.endPulse (s.at (s.tsg.lastBoundary + 100000000)) else s) :=
  keeps_ite (fun _ => k.endPulse _ (k.at _ s h)) fun _ => h

theorem Kept.lossDeclared (s : State) (h : P s) : P (Machine.declareLoss s) := by
  by_cases hl : s.tsg.osc = .lost
  · simpa [Machine.declareLoss, hl] using h
  · exact k.declareLoss s hl h

theorem Kept.returned (s : State) (h : P s) :
    P (if s.tsg.osc = .lost then s.withTsg { s.tsg with osc := .returning } else s) :=
  keeps_ite (fun hl => k.returning s hl h) fun _ => h

end

/-! ### Commands -/

section
variable {i : Instr} {P : State → Prop} {s t : State}

/-- An event of the running part keeps what it keeps of the state in which what fell due is taken. -/
theorem keeps_event {f : State → State} (e : event f s = .next t) (h : P s) (hs : P (Machine.settle s))
    (hf : ∀ s, P s → P (f s)) : P t := by
  cases e
  exact keeps_ite (fun _ => hf _ hs) fun _ => h

theorem keeps_dueEvent {due : State → Bool} {f : State → State} (e : dueEvent due f s = .next t) (h : P s)
    (hf : ∀ s, due s = true → P s → P (f s)) : P t := by
  cases e
  refine keeps_ite (fun hd => hf s ?_ h) fun _ => h
  simp only [Bool.and_eq_true] at hd
  exact hd.2

theorem Kept.command {o : Prop} (k : Kept i P o) {code : BitVec 8} {c : CommandFrame} {t' : Instant}
    (hi : carries i code = true) (h : P s) (hs : P (Machine.settle s))
    (e : Machine.event (Machine.receive t' (.command code c)) s = .next t) : P t :=
  keeps_event e h hs (k.receive t' _ (by rintro _ _ ⟨⟩; exact hi))

end

/-- The commands that can hand the engine an observation or a point (R25, R45, R83). -/
def observes : Instr → Bool
  | .ownBoundary _ | .staleBlock | .qualificationTimerExpiry | .holdoffExpiry | .peerExpiry _ | .quarantineEnd _
  | .refPulse _ => true
  | _ => false

/-- Every command but a reset and the opening of second 0 keeps what its operations keep, when taking what fell due
does. -/
theorem Kept.exec_of_settle {i : Instr} {P : State → Prop} {o : Prop} (k : Kept i P o) (hobs : observes i = true → o)
    {s t : State} (hr : isReset i = false) (ho : ∀ n b p, i ≠ .openSecond0 n b p) (h : P s)
    (hs : takesDueFirst i = true → P (Machine.settle s)) (e : exec i s = .next t) : P t := by
  unfold Machine.exec at e
  cases i with
  | supplyGood | supplyLoss | resetNAssert => simp [isReset] at hr
  | openSecond0 n b p => exact absurd rfl (ho n b p)
  | resetNRelease => cases e; exact k.pwr _ s ⟨rfl, rfl, rfl⟩ h
  | configurationRead a =>
    exact keeps_event e h (hs rfl) fun s h => keeps_ite (fun _ => k.loadConfiguration a rfl s h) fun _ => h
  | learningBlockRead a =>
    exact keeps_event e h (hs rfl) fun s h => keeps_ite (fun _ => k.loadLearning ⟨a, rfl⟩ a s h) fun _ => h
  | busJoin =>
    exact keeps_event e h (hs rfl) fun s h => keeps_ite (fun _ => h) fun _ =>
      k.busSame _ s rfl rfl rfl rfl rfl rfl rfl rfl rfl rfl rfl rfl rfl id h
  | ownBoundary o => exact keeps_event e h (hs rfl) (k.ownBoundary (hobs rfl) ⟨o, rfl⟩ o)
  | staleBlock => exact keeps_dueEvent e h fun s _ h => k.due.takeStaleBlock (hobs rfl) _ (k.settleSteer s h)
  | qualificationTimerExpiry => exact keeps_dueEvent e h fun s _ h => k.due.takeQualification (hobs rfl) _ (k.settleSteer s h)
  | holdoffExpiry => exact keeps_dueEvent e h fun s _ h => k.due.takeHoldoff (hobs rfl) _ (k.settleSteer s h)
  | peerExpiry a =>
    exact keeps_dueEvent e h fun s _ h => k.due.afterExpiry (hobs rfl) _ (k.due.expirePeer a _ (k.settleSteer s h))
  | quarantineEnd a =>
    exact keeps_dueEvent e h fun s _ h => k.due.afterQuarantine (hobs rfl) _ (k.due.endQuarantine a _ (k.settleSteer s h))
  | steerLimitReached => exact keeps_dueEvent e h fun s _ h => k.takeSteerLimit s h
  | warmupExpiry =>
    exact keeps_dueEvent e h fun s hd h => k.applySelection s (fun hf => by simp [State.warmupDue, hf] at hd) h
  | agingSample => exact keeps_dueEvent e h fun s _ h => k.takeAgingSample s h
  | temperatureConversionEnd t' r =>
    refine keeps_event e h (hs rfl) fun s h => keeps_ite (fun _ => ?_) fun _ => h
    have ended := k.lrn { s.lrn with converting := false } (s.at t') ⟨rfl, rfl, rfl, rfl, rfl⟩ (k.at t' s h)
    cases r with
    | none => exact ended
    | some r => exact keeps_ite (fun _ => k.sample (.inl ⟨_, _, rfl⟩) _ _ rfl rfl rfl ended) fun _ => ended
  | stalenessTimerExpiry =>
    exact keeps_event e h (hs rfl) fun s h => keeps_ite (fun _ => h) fun _ =>
      k.raise _ _ (k.sample (.inr rfl) _ _ rfl rfl rfl (k.at _ s h))
  | markDue => exact keeps_event e h (hs rfl) k.markFallsDue
  | statusPeriodicOffer => exact keeps_event e h (hs rfl) k.statusFallsDue
  | ppsPulseEnd => exact keeps_event e h (hs rfl) k.pulseEnd
  | oscGap t' =>
    change (if s.running then Machine.event _ s else _) = _ at e
    split at e
    · exact keeps_event e h (hs rfl) fun s h => k.lossDeclared _ (k.clock t' true s h)
    · cases e
      exact keeps_ite (fun _ => h) fun _ => k.clock s.tsg.now true s h
  | checkWindowEnd t' n =>
    exact keeps_event e h (hs rfl) fun s h => keeps_ite (fun _ => k.returned _ (k.clock t' false s h)) fun _ =>
      k.lossDeclared _ (k.clock t' false s h)
  | refPulse t' => exact keeps_event e h (hs rfl) fun s h => k.due.takePulse (hobs rfl) t' _ (k.at t' s h)
  | missingPulseEvent => exact keeps_event e h (hs rfl) k.missingPulse
  | sitePwrEdge t' b =>
    change (if s.running then Machine.event _ s else _) = _ at e
    split at e
    · exact keeps_event e h (hs rfl) (k.sitePwrEdge t' b)
    · cases e
      exact k.pwr _ s ⟨rfl, rfl, rfl⟩ h
  | sitePwrFilterExpiry =>
    refine keeps_event e h (hs rfl) fun s h => ?_
    split
    · exact k.changePower _ _ (k.at _ s h)
    · exact h
  | transmitAttemptStart t' u => exact keeps_event e h (hs rfl) (k.startAttempt t' u)
  | attemptCompleted t' => exact keeps_event e h (hs rfl) (k.completeAttempt t')
  | arbitrationLost t' => exact keeps_event e h (hs rfl) (k.loseArbitration t')
  | transmitError t' kind d => exact keeps_event e h (hs rfl) (k.failAttempt t' kind d)
  | receiveError t' kind =>
    exact keeps_event e h (hs rfl) fun s h => keeps_ite (fun _ => k.failReception t' s h) fun _ => h
  | busOffRecovery => exact keeps_dueEvent e h fun s _ h => k.takeRecovery s h
  | markDeadline => exact keeps_event e h (hs rfl) k.markDeadline
  | followDeadline => exact keeps_event e h (hs rfl) k.followDeadline
  | pageDeadline n => exact keeps_event e h (hs rfl) (k.pageDeadline n)
  | frameReceived t' f =>
    exact keeps_event e h (hs rfl) (k.receive t' _ fun code c hc => by simp [carries, commandOf, hc])
  | markFrame t' a q => exact keeps_event e h (hs rfl) (k.receive t' _ (by simp))
  | followFrame t' a f => exact keeps_event e h (hs rfl) (k.receive t' _ (by simp))
  | pendingTimerExpiry a =>
    refine keeps_event e h (hs rfl) fun s h => ?_
    split
    · exact k.ptu _ _ (PeerUnit.moves_dropMark _ a) (k.at _ s h)
    · exact h
  | invalidCommandCode t' code c => exact k.command (by simp [carries, commandOf]) h (hs rfl) e
  | statusQuery t' c | clearErrors t' c | alertEnable t' c | alertDisable t' c | errorSet t' c | phaseStep t' c
  | phaseSlew t' c | adjustAbort t' c | refInhibit t' c | refRelease t' c | historyRelease t' c | tableRead t' c
  | learnSave t' c | learnClear t' c | restart t' c => exact k.command (by simp [carries, commandOf]) h (hs rfl) e
  | eepromPageWriteDone => exact keeps_event e h (hs rfl) (k.pageWriteDone rfl)
  | eepromFailure b => exact keeps_event e h (hs rfl) (k.pageWriteFailed b ⟨b, rfl⟩)
  | startOfFrameEdgeSeen g => exact keeps_event e h (hs rfl) fun s h => keeps_ite (fun _ => k.seeEdge g s h) fun _ => h
  | recoveryCountRise =>
    exact keeps_event e h (hs rfl) fun s h => keeps_ite (fun _ =>
      k.busSame _ s rfl rfl rfl rfl rfl rfl rfl rfl rfl rfl rfl rfl rfl id h) fun _ => h

/-- Every command but a reset and the opening of second 0 keeps what its operations keep. -/
theorem Kept.exec {i : Instr} {P : State → Prop} (k : Kept i P) {s t : State} (hr : isReset i = false)
    (ho : ∀ n b p, i ≠ .openSecond0 n b p) (h : P s) (e : exec i s = .next t) : P t :=
  k.exec_of_settle (fun _ => trivial) hr ho h (fun _ => k.settle trivial s h) e

/-- What a command can be: without effect, the opening of second 0, a reset, or a command of the running part. -/
theorem exec_cases {i : Instr} {s t : State} (e : exec i s = .next t) :
    t = s ∨
    (∃ n b p, i = .openSecond0 n b p ∧ s.pwr.opened = false ∧ t = openSecond0 n b p s) ∨
    (∃ b g r, isReset i = true ∧
      t = (hardReset b s).withPwr { (hardReset b s).pwr with supplyGood := g, resetLow := r }) ∨
    (isReset i = false ∧ ∀ n b p, i ≠ .openSecond0 n b p) := by
  unfold Machine.exec at e
  cases i with
  | openSecond0 n b p =>
    cases e
    split
    · exact .inl rfl
    · next h => exact .inr (.inl ⟨n, b, p, rfl, by simp_all, rfl⟩)
  | supplyGood =>
    cases e
    split
    · exact .inl rfl
    · exact .inr (.inr (.inl ⟨false, true, _, rfl, rfl⟩))
  | supplyLoss b => cases e; exact .inr (.inr (.inl ⟨b, false, _, rfl, rfl⟩))
  | resetNAssert n b =>
    simp only [execResetNAssert] at e
    split at e <;> cases e
    · exact .inl rfl
    · exact .inr (.inr (.inl ⟨b, _, true, rfl, rfl⟩))
  | _ => exact .inr (.inr (.inr ⟨rfl, by simp⟩))

/-- A part that does not run takes no event: a pin or a gap is noted alone (log entries 2 and 3). -/
theorem exec_of_not_running {i : Instr} {s t : State} (h : s.running = false) (hr : isReset i = false)
    (ho : ∀ n b p, i ≠ .openSecond0 n b p) (e : exec i s = .next t) :
    (∃ x, t = s.withTsg x) ∨ ∃ p, s.pwr.Moves p ∧ t = s.withPwr p := by
  unfold Machine.exec at e
  cases i with
  | supplyGood | supplyLoss | resetNAssert => cases hr
  | openSecond0 n b p => exact absurd rfl (ho n b p)
  | resetNRelease => cases e; exact .inr ⟨{ s.pwr with resetLow := false }, ⟨rfl, rfl, rfl⟩, rfl⟩
  | oscGap t' =>
    simp only [execOscGap, h, Bool.false_eq_true, if_false, Host.Outcome.next.injEq] at e
    split at e <;> exact .inl ⟨_, e.symm⟩
  | sitePwrEdge t' b =>
    simp only [execSitePwrEdge, h, Bool.false_eq_true, if_false, Host.Outcome.next.injEq] at e
    exact .inr ⟨{ s.pwr with sitePwr := b }, ⟨rfl, rfl, rfl⟩, e.symm⟩
  | _ =>
    cases e
    exact .inl ⟨s.tsg, by simp [h]⟩

/-! ### Steps -/

/-- What the state after reset has, and every step keeps. -/
structure Steady (P : State → Prop) : Prop where
  kept : ∀ i, Kept i P
  pending : ∀ (q : List Instr) (s : State), P s → P (s.withPending q)
  reset : ∀ (b g r : Bool) (s : State), P s →
    P ((hardReset b s).withPwr { (hardReset b s).pwr with supplyGood := g, resetLow := r })
  openSecond0 : ∀ (n : Nat) (b : BitVec 4) (p : Bool) (s : State), s.pwr.opened = false → P s →
    P (openSecond0 n b p s)

/-- A step keeps what each command keeps, whatever waits in the queue. -/
theorem step_of_exec {P : State → Prop} (pending : ∀ (q : List Instr) (s : State), P s → P (s.withPending q))
    (command : ∀ (i : Instr) (s t : State), P s → exec i s = .next t → P t) {s t : State} (h : P s)
    (e : step s = .next t) : P t := by
  unfold Machine.step at e
  split at e
  · cases e
    exact h
  · exact command _ _ _ (pending _ s h) e

theorem Steady.step {P : State → Prop} (k : Steady P) {s t : State} (h : P s) (e : step s = .next t) : P t := by
  refine step_of_exec k.pending (fun i s t h e => ?_) h e
  obtain rfl | ⟨n, b, p, -, closed, rfl⟩ | ⟨b, g, r, -, rfl⟩ | ⟨hr, ho⟩ := exec_cases e
  · exact h
  · exact k.openSecond0 n b p s closed h
  · exact k.reset b g r s h
  · exact (k.kept i).exec hr ho h e

end Sys2Proof.Machine
end

section
/-! PROOF. The EEPROM's canonical form, and what commands leave alone. -/

namespace Sys2Proof.Machine

/-- The EEPROM changes by page writes alone, which keep the canonical form. -/
theorem eepromCanonical_steady : Steady State.EepromCanonical := by
  unfold State.EepromCanonical
  exact {
    kept := fun i => { landPage := fun _ w s h => landPage_wf w h }
    pending := fun q s h => h
    reset := fun b g r s h => cutTransfer_wf b h
    openSecond0 := fun n b p s _ h => by simpa using h }

/-- The clock of the last boundary (R2, R3, R13). -/
def Timescale.SameClock (x y : Timescale) : Prop :=
  y.boundaryIndex = x.boundaryIndex ∧ y.lastBoundary = x.lastBoundary ∧ y.phi = x.phi ∧
    y.fInForce = x.fInForce ∧ y.trim = x.trim

theorem clock_kept {i : Instr} (hb : ∀ o, i ≠ .ownBoundary o) (x : Timescale) :
    Kept i fun t => x.SameClock t.tsg := by
  unfold Timescale.SameClock
  exact {
    openBoundary := fun ⟨o, ho⟩ => absurd ho (hb o)
    latch := fun ⟨o, ho⟩ => absurd ho (hb o)
    reconfigured := by simp +contextual [reconfigured] }

theorem settings_kept {i : Instr} (hc : ∀ a, i ≠ .configurationRead a) (c : Settings) :
    Kept i fun t => t.cfg = c where
  reconfigured p c' e w s _ _ hc' h := by
    obtain rfl | ⟨a, ha⟩ := hc'
    · simpa [reconfigured] using h
    · exact absurd ha (hc a)

theorem eeprom_kept {i : Instr} (hw : i ≠ .eepromPageWriteDone) (hf : ∀ b, i ≠ .eepromFailure b) (m : Memory) :
    Kept i fun t => t.eeprom = m where
  landPage hi := by
    obtain hi | ⟨b, hi⟩ := hi
    · exact absurd hi hw
    · exact absurd hi (hf b)

theorem address_kept (i : Instr) (a : Fin 16) : Kept i fun t => t.pwr.address = a where
  pwr p s m h := m.address.trans h


end Sys2Proof.Machine

open Sys2Proof.Machine

/-- Settles O47: only page writes reach the EEPROM. -/
theorem eepromStaysCanonical : Obligations.EepromStaysCanonical :=
  fun _ _ => eepromCanonical_steady.step

/-- Settles O60: no operation of another command touches the component in question; the opening of second 0 touches
the settings and the EEPROM as little. -/
theorem whatCommandsLeaveAlone : Obligations.WhatCommandsLeaveAlone := by
  intro i s t hr e
  refine ⟨fun ho hb => (clock_kept hb s.tsg).exec hr ho ⟨rfl, rfl, rfl, rfl, rfl⟩ e, fun hc => ?_, fun hw hf => ?_,
    fun ho => (address_kept i s.pwr.address).exec hr ho rfl e⟩
  · by_cases ho : ∃ n b p, i = .openSecond0 n b p
    · obtain ⟨n, b, p, rfl⟩ := ho
      cases e
      exact keeps_ite (P := fun t => t.cfg = s.cfg) (fun _ => rfl) fun _ => by simp
    · exact (settings_kept hc s.cfg).exec hr (fun n b p h => ho ⟨n, b, p, h⟩) rfl e
  · by_cases ho : ∃ n b p, i = .openSecond0 n b p
    · obtain ⟨n, b, p, rfl⟩ := ho
      cases e
      exact keeps_ite (P := fun t => t.eeprom = s.eeprom) (fun _ => rfl) fun _ => by simp
    · exact (eeprom_kept hw hf s.eeprom).exec hr (fun n b p h => ho ⟨n, b, p, h⟩) rfl e

end

section
/-! PROOF. What the engine's operations are made of: a predicate that does not see the engine's state, and that their
parts keep, is kept by every selection, input, point, entry and boundary (`Walk`). -/

namespace Sys2Proof.Machine

/-! ### The record's limits -/

/-- The limits of I, U, the ring and the lock counter (R111, R131, R117, R115). -/
structure Engine.Limits (e : Engine) : Prop where
  integral : e.integral.natAbs ≤ 2000000000000
  u : e.u ≤ 2097151
  ring : e.ring.length ≤ 16
  lock : e.lockCount < 4

/-- A change of the engine's record that keeps each of its limits. -/
structure Engine.Moves (e f : Engine) : Prop where
  integral : e.integral.natAbs ≤ 2000000000000 → f.integral.natAbs ≤ 2000000000000 := by exact id
  u : e.u ≤ 2097151 → f.u ≤ 2097151 := by exact id
  ring : e.ring.length ≤ 16 → f.ring.length ≤ 16 := by exact id
  lock : e.lockCount < 4 → f.lockCount < 4 := by exact id

/-- A change of the record within one engine state, with the same exhaustion order. -/
structure Engine.Stays (e f : Engine) : Prop extends Engine.Moves e f where
  state : f.state = e.state := by rfl
  order : f.exhaustionOrder = e.exhaustionOrder := by rfl

/-- I and the learned means are within their limits, so that an F set from one of them is (R107, R130). -/
def State.SoundF (s : State) : Prop :=
  s.eng.integral.natAbs ≤ 2000000000000 ∧ ∀ i : Fin 64, s.lrn.table[i].mean.natAbs ≤ 2000000000

theorem natAbs_clampAbs_le {l : Int} (hl : 0 ≤ l) (x : Int) : (clampAbs l x).natAbs ≤ l.toNat := by
  have := clamp_mem_range (show -l ≤ l by omega) x
  unfold clampAbs
  omega

theorem natAbs_roundDiv_le {n : Int} {d g : Nat} (hd : 0 < d) (h : n.natAbs ≤ g * d) :
    (roundDiv n d).natAbs ≤ g := by
  have bound : (n.natAbs : Int) ≤ g * d := by exact_mod_cast h
  have high : n ≤ g * d := by omega
  have low : -((g : Int) * d) ≤ n := by omega
  have := roundDiv_le hd high
  have : -(g : Int) ≤ roundDiv n d := le_roundDiv hd (by rwa [Int.neg_mul])
  omega

theorem pushBounded_length_le {α : Type} {cap : Nat} {xs : List α} (x : α) (h : xs.length ≤ cap) (hc : 0 < cap) :
    (pushBounded cap xs x).length ≤ cap := by
  unfold pushBounded
  split <;> simp <;> omega

/-- A bin that is populated anywhere is one of the table. -/
theorem populatedAt_mem {table : Vector Bin 64} {n : Nat} {b : Bin} (h : populatedAt table n = some b) :
    ∃ i : Fin 64, table[i] = b := by
  unfold populatedAt at h
  split at h
  · next x hx =>
    obtain ⟨hn, rfl⟩ := Vector.getElem?_eq_some_iff.mp hx
    split at h
    · cases h
      exact ⟨⟨n, hn⟩, rfl⟩
    · cases h
  · cases h

theorem nearestFrom_mem {table : Vector Bin 64} {b n : Nat} {x : Bin} (h : nearestFrom table b n = some x) :
    ∃ i : Fin 64, table[i] = x := by
  induction n with
  | zero => cases h
  | succ n ih =>
    unfold nearestFrom at h
    dsimp only at h
    split at h
    · next y hy =>
      cases h
      split at hy
      · exact populatedAt_mem hy
      · cases hy
    · split at h
      · next y hy =>
        cases h
        exact populatedAt_mem hy
      · exact ih h

/-- The table's value is within the limit of the means (R124, R142). -/
theorem Learning.tab_le {l : Learning} (h : ∀ i : Fin 64, l.table[i].mean.natAbs ≤ 2000000000) (b : Fin 64) :
    (l.tab b).natAbs ≤ 2000000000 := by
  unfold Learning.tab
  split
  · next x hx =>
    obtain ⟨i, rfl⟩ := nearestFrom_mem hx
    exact h i
  · decide

theorem State.SoundF.integralF {s : State} (h : s.SoundF) : s.eng.integralF.natAbs ≤ 2000000 :=
  natAbs_roundDiv_le (d := 1000000) (by decide) h.1

theorem State.SoundF.freeRunF {s : State} (h : s.SoundF) : (freeRunF s).natAbs ≤ 2000000 := by
  unfold Machine.freeRunF
  split
  · exact natAbs_roundDiv_le (d := 1000) (by decide) (Learning.tab_le h.2 _)
  · decide

theorem State.uncertainty_le (s : State) : s.uncertainty ≤ 2097151 := Nat.min_le_left ..

/-- The disagreement check moves its counter, and raises REF_DISAGREE when the count is reached (R97, R98). -/
theorem disagreementCheck_cases (s : State) :
    (disagreementCheck s).1 = s ∨ s.eng.state = .locked ∧
      ((∃ n, (disagreementCheck s).1 = s.withEng { s.eng with disagree := n }) ∨
        (disagreementCheck s).1 = raise .refDisagree (s.withEng { s.eng with disagree := 0 })) := by
  unfold disagreementCheck
  dsimp only
  generalize (if disagreeing s.ptu.tier1.consensus s.cfg.disagreeThreshold then s.eng.disagree + 1 else 0) = n
  split
  · next hl =>
    split
    · exact .inr ⟨hl, .inr rfl⟩
    · exact .inr ⟨hl, .inl ⟨n, rfl⟩⟩
  · exact .inl rfl

/-! ### The parts -/

/-- The parts of an input and of a selection keep `P`, with an entry and a lock achieved as parts. -/
structure InputCourse (P : State → Prop) : Prop where
  eng : ∀ (e : Engine) (s : State), s.eng.Stays e → P s → P (s.withEng e) := by simp +contextual
  mon : ∀ (m : Monitor) (s : State), (s.mon.Counters → m.Counters) → P s → P (s.withMon m) := by simp +contextual
  setF : ∀ (f : Int) (s : State), (s.SoundF → f.natAbs ≤ 2000000) → P s → P (setF f s) := by simp +contextual
  raise : ∀ (f : Flag) (s : State), P s → P (raise f s) := by simp +contextual
  offerStatus : ∀ s, P s → P (offerStatus s) := by simp +contextual
  requestStep : ∀ (y : Int) (s : State), y ≠ 0 → P s → P (requestStep y s) := by simp +contextual
  learnOffer : ∀ (v : Int) (s : State), v.natAbs ≤ 2000000000 → P s → P (learnOffer v s) := by simp +contextual
  exhaustionTest : ∀ s, P s → P (exhaustionTest s)
  enterState : ∀ (st : EngineState) (src : Option Source) (atEntry : State → State), st ≠ .warmup ∧ st ≠ .fault →
    (∀ s, P s → P (atEntry s)) → ∀ s, P s → P (enterState st src atEntry s)
  lockAchieved : ∀ s, P s → P (lockAchieved s)

/-- The parts of the engine's operations keep `P`, those of FAULT, of a loss and of RESTART among them. -/
structure Course (P : State → Prop) : Prop extends InputCourse P where
  abortSlot : ∀ s, P s → P (abortSlot s) := by simp +contextual
  loss : ∀ s : State, P s → P (s.withTsg { s.tsg.discardCommitted.schedule with osc := .lost }) := by simp +contextual
  enterFault : ∀ s, P s → P (enterFault s)
  restartEngine : ∀ s, P s → P (restartEngine s)

section
variable {P : State → Prop} (w : InputCourse P)
include w

theorem InputCourse.recomputeU (s : State) (h : P s) : P (recomputeU s) :=
  w.eng _ s { u := fun _ => s.uncertainty_le } h

theorem InputCourse.setIntegralF (s : State) (h : P s) : P (setIntegralF s) := w.setF _ s State.SoundF.integralF h

theorem InputCourse.predict (s : State) (h : P s) : P (predict s) := by
  unfold Machine.predict
  split
  · exact w.setF _ _ (fun _ => natAbs_clampAbs_le (by decide) _) (w.eng _ s {} h)
  · exact h

theorem InputCourse.loopUpdate (y : Int) (period tau : Nat) (s : State) (h : P s) : P (loopUpdate y period tau s) :=
  w.learnOffer _ _ (natAbs_roundDiv_le (d := 1000) (by decide) (natAbs_clampAbs_le (by decide) _))
    (w.setF _ _ (fun _ => natAbs_clampAbs_le (by decide) _)
      (w.eng _ s { integral := fun _ => natAbs_clampAbs_le (by decide) _ } h))

omit w in
/-- The lock counter that reaches 4 does not stand in the record that LOCKED or FOLLOW is entered with. -/
theorem lockAchieved_withEng_lockCount (n : Nat) (s : State) :
    lockAchieved (s.withEng { s.eng with lockCount := n }) = lockAchieved s := rfl

theorem InputCourse.acquireInput (y : Int) (period : Nat) (s : State) (h : P s) : P (acquireInput y period s) := by
  refine keeps_ite (fun hy => ?_) fun _ => ?_
  · exact w.requestStep y _ (fun h0 => by simp [h0] at hy) (w.eng _ s { lock := fun _ => Nat.zero_lt_succ 3 } h)
  · have updated := w.loopUpdate y period Config.tauAcq s h
    refine keeps_ite (fun _ => ?_) fun hn => w.eng _ _ { lock := fun _ => Nat.lt_of_not_le hn } updated
    rw [lockAchieved_withEng_lockCount _ _]
    exact w.lockAchieved _ updated

theorem InputCourse.pushRing (s : State) (h : P s) : P (pushRing s) :=
  w.eng _ s { ring := fun hr => pushBounded_length_le _ hr (by decide) } h

theorem InputCourse.recordY (y : Int) (s : State) (h : P s) : P (recordY y s) := w.recomputeU _ (w.eng _ s {} h)

theorem InputCourse.recordC (c : Consensus) (t : Tier) (s : State) (h : P s) : P (recordC c t s) :=
  w.recomputeU _ (w.eng _ s {} h)

theorem InputCourse.enterFreerun (s : State) (h : P s) : P (enterFreerun s) :=
  w.enterState _ _ _ (by decide) (fun s => w.setF _ s State.SoundF.freeRunF) s h

theorem InputCourse.trackInput (y : Int) (period tau : Nat) (s : State) (h : P s) : P (trackInput y period tau s) := by
  refine keeps_ite (fun _ => w.acquireInput _ _ _ (w.enterState _ _ _ (by decide) w.setIntegralF s h)) fun _ => ?_
  have updated := fun n => w.loopUpdate y period tau _ (w.eng { s.eng with largeCount := n } s {} h)
  exact keeps_ite (fun _ => w.pushRing _ (updated _)) fun _ => updated _

theorem InputCourse.applySelection (s : State) (h : P s) : P (applySelection s) := by
  unfold Machine.applySelection
  split
  · exact keeps_ite (fun _ => h) fun _ => w.enterState _ _ _ (by decide) w.setIntegralF s h
  · refine keeps_ite (fun _ => h) fun _ => ?_
    split
    · exact keeps_ite
        (fun _ => w.enterState _ _ _ (by decide) (fun s h => w.recordC _ _ _ (w.setIntegralF s h)) s h)
        fun _ => w.enterState _ _ _ (by decide) (fun s h => w.acquireInput _ _ _ (w.recordC _ _ _ (w.setIntegralF s h))) s h
    · exact h
  · exact keeps_ite (fun _ => h) fun _ => w.enterState _ _ _ (by decide)
      (fun s' h => w.predict _ (w.eng { s'.eng with record := some s.newRecord } s' {} h)) s h
  · exact keeps_ite (fun _ => h) fun _ => w.enterFreerun s h

theorem InputCourse.selectSource (s : State) (h : P s) : P (selectSource s) :=
  keeps_ite (fun _ => h) fun _ => w.applySelection s h

theorem InputCourse.takeObservation (y : Int) (s : State) (h : P s) : P (takeObservation y s) :=
  w.selectSource _ (keeps_ite (fun _ => h) fun _ =>
    keeps_ite (fun _ => w.trackInput _ _ _ _ (w.recordY y s h)) fun _ =>
      keeps_ite (fun _ => w.acquireInput _ _ _ (w.recordY y s h)) fun _ => h)

theorem InputCourse.disagreementCheck (s : State) (h : P s) : P (disagreementCheck s).1 := by
  obtain e | ⟨-, ⟨n, e⟩ | e⟩ := disagreementCheck_cases s <;> rw [e]
  · exact h
  · exact w.eng _ s {} h
  · exact w.raise _ _ (w.eng _ s {} h)

theorem InputCourse.consensusInput (s : State) (h : P s) : P (consensusInput s) := by
  unfold Machine.consensusInput
  split
  · split
    · exact keeps_ite (fun _ => w.acquireInput _ _ _ (w.recordC _ _ s h)) fun _ =>
        keeps_ite (fun _ => w.trackInput _ _ _ _ (w.recordC _ _ s h)) fun _ => h
    · exact h
  · exact h

theorem InputCourse.takeNudge (s : State) (h : P s) : P (takeNudge s) := by
  refine keeps_ite (fun _ => ?_) fun _ => h
  refine w.setF _ _ (fun _ => natAbs_clampAbs_le (by decide) _) (w.eng _ _ {} ?_)
  split
  · exact w.recordC _ _ s h
  · exact h

theorem InputCourse.takePoint (s : State) (h : P s) : P (takePoint s).1 := by
  unfold Machine.takePoint
  split
  · exact h
  · exact w.selectSource _ (w.takeNudge _ (w.consensusInput _ (w.disagreementCheck s h)))

theorem InputCourse.engineBoundary (s : State) (h : P s) : P (engineBoundary s) := by
  refine w.exhaustionTest _ (w.recomputeU _ ?_)
  have counted := fun n c => w.eng { s.eng with warmupLeft := n, steerCount := c } s {} h
  split
  · exact w.predict _ (counted _ _)
  · exact w.setF _ _ State.SoundF.freeRunF (counted _ _)
  · exact counted _ _

theorem InputCourse.enterQual (q : Qualification) (s : State) (h : P s) : P (enterQual q s) := by
  refine w.selectSource _ (w.mon _ s (fun c => ?_) h)
  cases q <;> exact ⟨c.extra, c.missing, c.history⟩

/-- What the monitor and the peers bring the engine, it takes so (R109, R110). -/
theorem InputCourse.dueKept
    (ptu : ∀ (p : PeerUnit) (s : State), s.ptu.Moves s.pwr.address p → P s → P (s.withPtu p) := by simp +contextual) :
    DueKept P where
  raise := w.raise
  enterQual := w.enterQual
  takeObservation _ := w.takeObservation
  takePoint _ := w.takePoint
  mon m s h := w.mon m s h.counters
  ptu := ptu

end

section
variable {P : State → Prop} (w : Course P)
include w

theorem Course.engineKept : EngineKept P where
  declareLoss s _ h := keeps_ite (fun _ => h) fun _ => w.enterFault _ (w.raise _ _ (w.loss s h))
  abortSlot := w.abortSlot
  raise := w.raise
  offerStatus := w.offerStatus
  applySelection s _ := w.applySelection s
  takeObservation _ := w.takeObservation
  takePoint _ := w.takePoint
  enterFault := w.enterFault
  engineBoundary := w.engineBoundary
  setInhibit b s h := w.selectSource _ (w.eng _ s {} h)
  enterQual := w.enterQual

/-- RESTART (R164), where the other blocks' RESTART values keep `P`. -/
theorem Course.restart (scu : ∀ (u : StatusUnit) (s : State), P s → P (s.withScu u))
    (bus : ∀ (b : Bus) (s : State), s.bus.Moves b → P s → P (s.withBus b))
    (ptu : ∀ s : State, P s → P (s.withPtu PeerUnit.reset))
    (lrn : ∀ s : State, P s → P (s.withLrn s.lrn.restarted)) (s : State) (h : P s) : P (restart s) :=
  lrn _ (w.restartEngine _ (ptu _ (w.mon _ _ (fun _ => ⟨Nat.zero_le _, Nat.zero_le _, Nat.zero_le _⟩)
    (w.abortSlot _ (bus _ _ (Bus.Moves.emptied_of_restart _) (scu _ s h))))))

end

/-! ### Predicates that do not see the engine's state -/

/-- The smaller parts, of which entries are made, keep `P`, whatever the engine's state. -/
structure InputWalk (P : State → Prop) : Prop where
  eng : ∀ (e : Engine) (s : State), s.eng.Moves e → P s → P (s.withEng e) := by simp +contextual
  mon : ∀ (m : Monitor) (s : State), (s.mon.Counters → m.Counters) → P s → P (s.withMon m) := by simp +contextual
  setF : ∀ (f : Int) (s : State), (s.SoundF → f.natAbs ≤ 2000000) → P s → P (setF f s) := by simp +contextual
  refresh : ∀ s, P s → P (refreshOutputs s) := by simp +contextual
  raise : ∀ (f : Flag) (s : State), P s → P (raise f s) := by simp +contextual
  offerStatus : ∀ s, P s → P (offerStatus s) := by simp +contextual
  requestStep : ∀ (y : Int) (s : State), y ≠ 0 → P s → P (requestStep y s) := by simp +contextual
  learnOffer : ∀ (v : Int) (s : State), v.natAbs ≤ 2000000000 → P s → P (learnOffer v s) := by simp +contextual

/-- With them the smaller parts of FAULT and of a loss. -/
structure Walk (P : State → Prop) : Prop extends InputWalk P where
  abortSlot : ∀ s, P s → P (abortSlot s) := by simp +contextual
  emptyMarkSlots : ∀ s, P s → P (emptyMarkSlots s) := by simp +contextual
  loss : ∀ s : State, P s → P (s.withTsg { s.tsg.discardCommitted.schedule with osc := .lost }) := by simp +contextual

section
variable {P : State → Prop} (w : InputWalk P)
include w

theorem InputWalk.exhaustionTest (s : State) (h : P s) : P (exhaustionTest s) := by
  refine keeps_ite (fun _ => ?_) fun _ => h
  have raised := w.raise .holdExhausted s h
  exact keeps_ite (fun _ => w.refresh _ (w.eng _ _ {} raised)) fun _ => raised

theorem InputWalk.announce (old : EngineState) (s : State) (h : P s) : P (announce old s) := by
  have h1 := keeps_ite (c := classOf old ≠ (refreshOutputs s).cls)
    (fun _ => w.raise .sourceChange _ (w.refresh s h)) fun _ => w.refresh s h
  exact keeps_ite (fun _ => w.offerStatus _ h1) fun _ => h1

theorem InputWalk.recomputeU (s : State) (h : P s) : P (recomputeU s) := w.eng _ s { u := fun _ => s.uncertainty_le } h

theorem InputWalk.enterState (st : EngineState) (src : Option Source) (atEntry : State → State)
    (ha : ∀ s, P s → P (atEntry s)) (s : State) (h : P s) : P (enterState st src atEntry s) :=
  w.announce _ _ (w.exhaustionTest _ (w.recomputeU _ (ha _ (w.eng _ s { lock := fun _ => Nat.zero_lt_succ 3 } h))))

theorem InputWalk.course : InputCourse P where
  eng e s m := w.eng e s m.toMoves
  mon := w.mon
  setF := w.setF
  raise := w.raise
  offerStatus := w.offerStatus
  requestStep := w.requestStep
  learnOffer := w.learnOffer
  exhaustionTest := w.exhaustionTest
  enterState st src f _ := w.enterState st src f
  lockAchieved s h := w.announce _ _ (w.recomputeU _ (w.eng _ s { lock := fun _ => Nat.zero_lt_succ 3 } h))

end

section
variable {P : State → Prop} (w : Walk P)
include w

theorem Walk.course : Course P where
  toInputCourse := w.toInputWalk.course
  abortSlot := w.abortSlot
  loss := w.loss
  enterFault s h := by
    refine keeps_ite (fun _ => h) fun _ => w.announce _ _ (w.emptyMarkSlots _ (w.eng _ _ ?_ (w.abortSlot s h)))
    exact { u := fun _ => Nat.le_refl _, ring := fun _ => Nat.zero_le _, lock := fun _ => Nat.zero_lt_succ 3 }
  restartEngine s h := by
    have reset := w.eng { s.eng with
      ring := [], lastY := none, lastC := none, inhibit := false, followedU := none, u := Config.saturatedU
      exhaustionOrder := false } s { u := fun _ => Nat.le_refl _, ring := fun _ => Nat.zero_le _ } h
    exact keeps_ite (fun _ => w.enterState _ _ _ (fun _ => id) _ reset) fun _ =>
      w.enterState _ _ _ (fun s => w.setF _ s State.SoundF.freeRunF) _ reset

theorem Walk.engineKept : EngineKept P := w.course.engineKept

end

end Sys2Proof.Machine
end

section
/-! PROOF. The invariants that do not see the engine's state: the queue in listen-only, the counters and capacities, the
limits of what steers, the schedule and the slot, the station's own entry, the raised flags. -/

namespace Sys2Proof.Machine

/-! ### Offers and the bus record -/

/-- In listen-only a flag is raised without an ALERT (R55). -/
theorem raise_bus_of_listenOnly (f : Flag) {s : State} (h : s.bus.listenOnly = true) : (raise f s).bus = s.bus := by
  unfold raise offerAlert
  split
  · rfl
  · dsimp only
    split <;> simp [h]

theorem offerStatus_of_listenOnly {s : State} (h : s.bus.listenOnly = true) : offerStatus s = s := by
  simp [offerStatus, h]

theorem raise_moves (f : Flag) (s : State) : s.bus.Moves (raise f s).bus where
  quiet q hl := by
    have hl' : s.bus.listenOnly = true := by rwa [raise_bus] at hl
    rw [raise_bus_of_listenOnly f hl']
    exact q hl'
  counters c := by
    rw [raise_bus]
    exact { c with }

theorem offerStatus_moves (s : State) : s.bus.Moves (offerStatus s).bus where
  quiet q hl := by
    have hl' : s.bus.listenOnly = true := by rwa [offerStatus_bus] at hl
    rw [offerStatus_of_listenOnly hl']
    exact q hl'
  counters c := by
    rw [offerStatus_bus]
    exact { c with }

/-- An attempt that loses its slot is no other attempt. -/
theorem Bus.orphanAttempt_inSlot {b : Bus} {k : SlotKind} {a : Attempt} (h : b.orphanAttempt k = some a) :
    ∃ a', b.attempt = some a' ∧ (a'.inSlot = false → a.inSlot = false) := by
  unfold orphanAttempt at h
  split at h
  · next x hx =>
    refine ⟨x, hx, fun hs => ?_⟩
    split at h <;> cases h
    · rfl
    · exact hs
  · cases h

theorem emptyMarkSlots_moves (s : State) : s.bus.Moves (emptyMarkSlots s).bus where
  quiet q hl := by
    have silent := q hl
    refine { silent with mark := rfl, follow := rfl, attempt := fun a ha => ?_ }
    obtain ⟨a', ha', h'⟩ := Bus.orphanAttempt_inSlot ha
    obtain ⟨a'', ha'', h''⟩ := Bus.orphanAttempt_inSlot ha'
    exact h' (h'' (silent.attempt a'' ha''))
  counters c := { c with }

/-- A predicate of the bus record that its changes keep. -/
theorem busWalk {Q : Bus → Prop} (h : ∀ b c : Bus, b.Moves c → Q b → Q c) : Walk fun s => Q s.bus where
  raise f s := h _ _ (raise_moves f s)
  offerStatus s := h _ _ (offerStatus_moves s)
  emptyMarkSlots s := h _ _ (emptyMarkSlots_moves s)

/-! ### Listen-only -/

theorem State.listenOnlyQuiet_iff (s : State) : s.ListenOnlyQuiet ↔ s.bus.Quiet := by
  constructor
  · intro h hl
    exact ⟨h.mark hl, h.follow hl, (h.status0 hl).1, (h.status0 hl).2, (h.status1 hl).1, (h.status1 hl).2,
      (h.alert hl).1, (h.alert hl).2, h.pages hl, h.attempt hl⟩
  · intro h
    exact ⟨fun hl => (h hl).mark, fun hl => (h hl).follow, fun hl => ⟨(h hl).status0, (h hl).wait0⟩,
      fun hl => ⟨(h hl).status1, (h hl).wait1⟩, fun hl => ⟨(h hl).alert, (h hl).aside⟩, fun hl => (h hl).pages,
      fun hl => (h hl).attempt⟩

/-- What a bad first window brings besides (R9). -/
theorem openSecond0_eq (n : Nat) (b : BitVec 4) (p : Bool) (s : State) :
    ∃ t : State, (openSecond0 n b p s = t ∨ openSecond0 n b p s = reportLoss t) ∧
      t.tsg = { Timescale.reset with osc := if windowGood n s.tsg.windowGap then .present else .lost } ∧
      t.mon = s.mon ∧ t.bus = s.bus ∧ t.ptu = s.ptu ∧ t.eng = s.eng ∧
      t.lrn = { s.lrn with converting := true, sampling := .waiting, staleDue := 4000000000 } ∧
      t.scu = { s.scu with raised := 0 } ∧
      t.pwr = { s.pwr with
        opened := true, state := .load, stage := .configuration, address := b.toFin, sitePwr := p, filtered := p
        filterDue := none } ∧
      t.cfg = s.cfg ∧ t.eeprom = s.eeprom := by
  unfold openSecond0
  dsimp only
  split
  · exact ⟨_, .inl rfl, by simp [*]⟩
  · exact ⟨_, .inr rfl, by simp [*]⟩

/-- The opening of second 0 keeps what a report of the loss keeps and what its own updates keep. -/
theorem openSecond0_keeps_of {P : State → Prop} {o : Prop} (k : EngineKept P o) (n : Nat) (b : BitVec 4) (p : Bool)
    {s : State} (h : ∀ t : State, t.tsg = { Timescale.reset with osc := if windowGood n s.tsg.windowGap then .present else .lost } →
      t.mon = s.mon → t.bus = s.bus → t.ptu = s.ptu → t.eng = s.eng → t.lrn.table = s.lrn.table →
      t.lrn.aging = s.lrn.aging → t.lrn.rate = s.lrn.rate → P t) : P (openSecond0 n b p s) := by
  obtain ⟨t, ht, htsg, hmon, hbus, hptu, heng, hlrn, -⟩ := openSecond0_eq n b p s
  have base := h t htsg hmon hbus hptu heng (by rw [hlrn]) (by rw [hlrn]) (by rw [hlrn])
  obtain e | e := ht <;> rw [e]
  · exact base
  · exact k.enterFault _ (k.raise _ _ base)

theorem quiet_steady : Steady fun s => s.bus.Quiet := by
  have w : Walk fun s => s.bus.Quiet := busWalk fun _ _ m => m.quiet
  exact {
    kept := fun i => { toEngineKept := w.engineKept
                       bus := fun b s m => m.quiet
                       restart := fun _ => w.course.restart (fun _ _ h => h) (fun _ _ m => m.quiet) (fun _ h => h) fun _ h => h }
    pending := fun q s h => h
    reset := fun b g r s h hl => by cases hl
    openSecond0 := fun n b p s _ h => openSecond0_keeps_of w.engineKept n b p fun t _ _ hb _ _ _ _ _ => hb ▸ h }

/-! ### Counters and capacities -/

theorem busCounters_steady : Steady fun s => s.bus.Counters := by
  have w : Walk fun s => s.bus.Counters := busWalk fun _ _ m => m.counters
  exact {
    kept := fun i => { toEngineKept := w.engineKept
                       bus := fun b s m => m.counters
                       restart := fun _ => w.course.restart (fun _ _ h => h) (fun _ _ m => m.counters) (fun _ h => h)
                         fun _ h => h }
    pending := fun q s h => h
    reset := fun b g r s h => ⟨Nat.zero_le _, Nat.zero_le _, Nat.zero_le _, Nat.zero_le _⟩
    openSecond0 := fun n b p s _ h => openSecond0_keeps_of w.engineKept n b p fun t _ _ hb _ _ _ _ _ => hb ▸ h }

theorem openBoundary_monCounters (s : State) (h : s.mon.Counters) : (openBoundary s).mon.Counters := by
  unfold openBoundary reachBoundary
  dsimp only
  split <;> simp only [State.withTsg_mon, commitDue_keeps, boundaryOutputs_keeps, State.withMon_mon]
  · exact h
  · exact h
  · exact ⟨h.extra, h.missing, h.history⟩

theorem monCounters_steady : Steady fun s => s.mon.Counters := by
  have w : Walk fun s => s.mon.Counters := { mon := fun m s c => c }
  exact {
    kept := fun i => { toEngineKept := w.engineKept
                       openBoundary := fun _ => openBoundary_monCounters
                       mon := fun m s h => h.counters
                       restart := fun _ => w.course.restart (fun _ _ h => h) (fun _ _ _ h => h) (fun _ h => h) fun _ h => h }
    pending := fun q s h => h
    reset := fun b g r s h => ⟨Nat.zero_le _, Nat.zero_le _, Nat.zero_le _⟩
    openSecond0 := fun n b p s _ h => by simpa using h }

theorem ptuCounters_reset : PeerUnit.reset.Counters := ⟨Nat.zero_le _, Nat.zero_le _⟩

theorem ptuCounters_steady : Steady fun s => s.ptu.Counters := by
  have w : Walk fun s => s.ptu.Counters := {}
  exact {
    kept := fun i => { toEngineKept := w.engineKept
                       ptu := fun p s h => h.counters
                       restart := fun _ => w.course.restart (fun _ _ h => h) (fun _ _ _ h => h)
                         (fun _ _ => ptuCounters_reset) fun _ h => h }
    pending := fun q s h => h
    reset := fun b g r s h => ptuCounters_reset
    openSecond0 := fun n b p s _ h => by simpa using h }

/-- The frequency history ring holds 16, and the lock counter does not reach 4 (R115, R117). -/
theorem engineFill_steady : Steady fun s => s.eng.ring.length ≤ 16 ∧ s.eng.lockCount < 4 := by
  have w : Walk fun s => s.eng.ring.length ≤ 16 ∧ s.eng.lockCount < 4 :=
    { eng := fun e s m h => ⟨m.ring h.1, m.lock h.2⟩ }
  exact {
    kept := fun i => { toEngineKept := w.engineKept
                       restart := fun _ => w.course.restart (fun _ _ h => h) (fun _ _ _ h => h) (fun _ h => h) fun _ h => h }
    pending := fun q s h => h
    reset := fun b g r s h => ⟨Nat.zero_le _, Nat.zero_lt_succ 3⟩
    openSecond0 := fun n b p s _ h => openSecond0_keeps_of w.engineKept n b p fun t _ _ _ _ he _ _ _ => he ▸ h }

/-! ### What is learned -/

/-- A learning update stays between the old mean and the value (R144). -/
theorem Bin.update_mean_le {b : Bin} {v : Int} {l : Nat} (hm : b.mean.natAbs ≤ l) (hv : v.natAbs ≤ l) :
    (b.update v).mean.natAbs ≤ l := by
  unfold Bin.update
  split
  · exact hv
  · generalize hn : min (b.count + 1) 64 = n
    have hpos : 0 < n := by omega
    have scaled : ∀ x : Int, 0 ≤ x → x ≤ x * (n : Int) := fun x hx => by
      simpa using Int.mul_le_mul_of_nonneg_left (show (1 : Int) ≤ n by omega) hx
    obtain h | h := Int.le_total 0 (v - b.mean)
    · have := roundDiv_le hpos (scaled _ h)
      have := le_roundDiv (l := 0) hpos (n := v - b.mean) (by omega)
      dsimp only
      omega
    · have below := scaled (-(v - b.mean)) (by omega)
      rw [Int.neg_mul] at below
      have := le_roundDiv (l := v - b.mean) hpos (n := v - b.mean) (by omega)
      have := roundDiv_le (g := 0) hpos (n := v - b.mean) (by omega)
      dsimp only
      omega

theorem Bin.update_count_le {b : Bin} (v : Int) (h : b.count ≤ 65535) : (b.update v).count ≤ 65535 := by
  unfold Bin.update
  split
  · exact Nat.succ_le_of_lt (by decide)
  · exact countUp_le h

/-- A learning update files under the current bin, or is discarded (R143, R144). -/
theorem learnOffer_cases (v : Int) (s : State) :
    learnOffer v s = s ∨ s.learningAllowed = true ∧ ∃ b, s.lrn.currentBin = some b ∧
      learnOffer v s = s.withLrn { s.lrn with table := s.lrn.table.set b (s.lrn.table[b].update v) } := by
  unfold learnOffer
  split
  · next ha =>
    split
    · next b hb => exact .inr ⟨ha, b, hb, rfl⟩
    · exact .inl rfl
  · exact .inl rfl

/-- What holds of every bin holds after one is replaced by another of which it holds. -/
theorem forall_set {p : Bin → Prop} {table : Vector Bin 64} (b : Fin 64) {x : Bin} (h : ∀ i : Fin 64, p table[i])
    (hx : p x) (i : Fin 64) : p (table.set b x)[i] := by
  by_cases hi : i = b
  · subst hi
    simpa using hx
  · have e : (table.set b x)[i] = table[i] := Vector.getElem_set_ne b.isLt i.isLt (Fin.val_ne_of_ne (Ne.symm hi))
    rw [e]
    exact h i

/-- An aging sample moves the aging ring and A alone (R147, R148). -/
theorem takeAgingSample_eq (s : State) : ∃ (a : List AgingSample) (r : Int),
    takeAgingSample s = s.withLrn { s.lrn with agingClock := 0, aging := a, rate := r } ∧
      (s.lrn.aging.length ≤ 8 → a.length ≤ 8) ∧ (s.lrn.rate.natAbs ≤ 1000 → r.natAbs ≤ 1000) := by
  unfold takeAgingSample
  dsimp only
  split
  · exact ⟨_, _, rfl, id, id⟩
  · refine ⟨_, _, rfl, fun h => pushBounded_length_le _ h (by decide), fun h => ?_⟩
    unfold agingRate
    dsimp only
    repeat' split
    · exact natAbs_clampAbs_le (l := 1000) (by decide) _
    all_goals exact h

theorem tableCounts_steady :
    Steady fun s => (∀ i : Fin 64, s.lrn.table[i].count ≤ 65535) ∧ s.lrn.aging.length ≤ 8 := by
  have w : Walk fun s => (∀ i : Fin 64, s.lrn.table[i].count ≤ 65535) ∧ s.lrn.aging.length ≤ 8 :=
    { learnOffer := fun v s _ h => by
        obtain e | ⟨-, b, -, e⟩ := learnOffer_cases v s <;> rw [e]
        · exact h
        · exact ⟨forall_set (p := fun b => b.count ≤ 65535) b h.1 (Bin.update_count_le v (h.1 b)), h.2⟩ }
  exact {
    kept := fun i => { toEngineKept := w.engineKept
                       restart := fun _ => w.course.restart (fun _ _ h => h) (fun _ _ _ h => h) (fun _ h => h) fun _ h => h
                       lrn := fun l s m h => by rwa [State.withLrn_lrn, m.table, m.aging]
                       sample := fun _ l s t a _ h => by rwa [State.withLrn_lrn, t, a]
                       takeAgingSample := fun s h => by
                         obtain ⟨a, r, e, ha, -⟩ := takeAgingSample_eq s
                         rw [e]
                         exact ⟨h.1, ha h.2⟩
                       clearLearning := fun _ s _ => ⟨Learning.limits_reset.counts, Nat.zero_le _⟩
                       putLearning := fun _ l s hl _ => ⟨hl.counts, hl.aging⟩ }
    pending := fun q s h => h
    reset := fun b g r s h => ⟨Learning.limits_reset.counts, Nat.zero_le _⟩
    openSecond0 := fun n b p s _ h =>
      openSecond0_keeps_of w.engineKept n b p fun t _ _ _ _ _ ht ha _ => by rwa [ht, ha] }

/-! ### What steers -/

theorem learnedRate_steady : Steady fun s => s.lrn.rate.natAbs ≤ 1000 := by
  have w : Walk fun s => s.lrn.rate.natAbs ≤ 1000 :=
    { learnOffer := fun v s _ h => by
        obtain e | ⟨-, b, -, e⟩ := learnOffer_cases v s <;> rw [e] <;> exact h }
  exact {
    kept := fun i => { toEngineKept := w.engineKept
                       restart := fun _ => w.course.restart (fun _ _ h => h) (fun _ _ _ h => h) (fun _ h => h) fun _ h => h
                       lrn := fun l s m h => by rwa [State.withLrn_lrn, m.rate]
                       sample := fun _ l s _ _ r h => by rwa [State.withLrn_lrn, r]
                       takeAgingSample := fun s h => by
                         obtain ⟨a, r, e, -, hr⟩ := takeAgingSample_eq s
                         rw [e]
                         exact hr h
                       clearLearning := fun _ s _ => Nat.zero_le _
                       putLearning := fun _ l s hl _ => hl.rate }
    pending := fun q s h => h
    reset := fun b g r s h => Nat.zero_le _
    openSecond0 := fun n b p s _ h =>
      openSecond0_keeps_of w.engineKept n b p fun t _ _ _ _ _ _ _ hr => by rwa [hr] }

theorem uncertainty_steady : Steady fun s => s.eng.u ≤ 2097151 := by
  have w : Walk fun s => s.eng.u ≤ 2097151 := { eng := fun e s m h => m.u h }
  exact {
    kept := fun i => { toEngineKept := w.engineKept
                       restart := fun _ => w.course.restart (fun _ _ h => h) (fun _ _ _ h => h) (fun _ h => h) fun _ h => h }
    pending := fun q s h => h
    reset := fun b g r s h => Nat.le_refl _
    openSecond0 := fun n b p s _ h => openSecond0_keeps_of w.engineKept n b p fun t _ _ _ _ he _ _ _ => he ▸ h }

end Sys2Proof.Machine

open Sys2Proof.Machine

/-- Settles O49: an offer in listen-only is discarded, and what leaves a slot leaves no attempt in it. -/
theorem listenOnlyStaysQuiet : Obligations.ListenOnlyStaysQuiet := by
  intro s t h e
  rw [State.listenOnlyQuiet_iff] at h ⊢
  exact quiet_steady.step h e

/-- Settles O51: each counter and each ring is kept by the block that holds it. -/
theorem countersAndCapacitiesKept : Obligations.CountersAndCapacitiesKept := by
  intro s t c w e
  obtain ⟨extra, missing, history⟩ := monCounters_steady.step ⟨c.extra, c.missing, w.history⟩ e
  obtain ⟨badFrames, marksLate, receive, pages⟩ :=
    busCounters_steady.step ⟨c.badFrames, c.marksLate, c.receive, w.pages⟩ e
  obtain ⟨unpaired, orphan⟩ := ptuCounters_steady.step ⟨c.unpaired, c.orphan⟩ e
  obtain ⟨ring, lock⟩ := engineFill_steady.step ⟨w.frequency, w.lock⟩ e
  obtain ⟨updates, aging⟩ := tableCounts_steady.step ⟨c.updates, w.aging⟩ e
  exact ⟨⟨extra, missing, badFrames, marksLate, unpaired, orphan, receive, updates⟩,
    ⟨ring, aging, history, pages, lock⟩⟩

end

section
/-! PROOF. The Timescale Generator: what its operations leave of the schedule and of F, the limits of what steers, the
schedule of the next boundary, and the slot. -/

namespace Sys2Proof.Machine

/-! ### What the outputs leave -/

@[simp] theorem refreshOutputs_schedule (s : State) :
    (refreshOutputs s).tsg.nextBoundary = s.tsg.nextBoundary ∧ (refreshOutputs s).tsg.phiNext = s.tsg.phiNext ∧
    (refreshOutputs s).tsg.fSet = s.tsg.fSet ∧ (refreshOutputs s).tsg.slot = s.tsg.slot ∧
    (refreshOutputs s).tsg.committed = s.tsg.committed ∧ (refreshOutputs s).tsg.stepCount = s.tsg.stepCount ∧
    (refreshOutputs s).tsg.slewing = s.tsg.slewing ∧ (refreshOutputs s).tsg.freqSteps = s.tsg.freqSteps ∧
    (refreshOutputs s).tsg.freqMade = s.tsg.freqMade ∧ (refreshOutputs s).tsg.freqFrom = s.tsg.freqFrom := by
  simp [refreshOutputs]

@[simp] theorem boundaryOutputs_schedule (s : State) :
    (boundaryOutputs s).tsg.nextBoundary = s.tsg.nextBoundary ∧ (boundaryOutputs s).tsg.phiNext = s.tsg.phiNext ∧
    (boundaryOutputs s).tsg.fSet = s.tsg.fSet ∧ (boundaryOutputs s).tsg.slot = s.tsg.slot ∧
    (boundaryOutputs s).tsg.committed = s.tsg.committed ∧ (boundaryOutputs s).tsg.stepCount = s.tsg.stepCount ∧
    (boundaryOutputs s).tsg.slewing = s.tsg.slewing ∧ (boundaryOutputs s).tsg.freqSteps = s.tsg.freqSteps ∧
    (boundaryOutputs s).tsg.freqMade = s.tsg.freqMade ∧ (boundaryOutputs s).tsg.freqFrom = s.tsg.freqFrom := by
  simp [boundaryOutputs]

@[simp] theorem endPulse_schedule (s : State) :
    (endPulse s).tsg.nextBoundary = s.tsg.nextBoundary ∧ (endPulse s).tsg.phiNext = s.tsg.phiNext ∧
    (endPulse s).tsg.fSet = s.tsg.fSet ∧ (endPulse s).tsg.slot = s.tsg.slot ∧
    (endPulse s).tsg.committed = s.tsg.committed ∧ (endPulse s).tsg.stepCount = s.tsg.stepCount ∧
    (endPulse s).tsg.slewing = s.tsg.slewing ∧ (endPulse s).tsg.freqSteps = s.tsg.freqSteps ∧
    (endPulse s).tsg.freqMade = s.tsg.freqMade ∧ (endPulse s).tsg.freqFrom = s.tsg.freqFrom := by
  simp [endPulse]

@[simp] theorem setF_schedule (f : Int) (s : State) : (setF f s).tsg = { s.tsg with fSet := f } := rfl

@[simp] theorem reconfigured_schedule (p : Power) (c : Settings) (u : StatusUnit) (w : Nat) (s : State) :
    (reconfigured p c u w s).tsg.nextBoundary = s.tsg.nextBoundary ∧
    (reconfigured p c u w s).tsg.phiNext = s.tsg.phiNext ∧ (reconfigured p c u w s).tsg.fSet = s.tsg.fSet ∧
    (reconfigured p c u w s).tsg.slot = s.tsg.slot ∧ (reconfigured p c u w s).tsg.committed = s.tsg.committed ∧
    (reconfigured p c u w s).tsg.freqSteps = s.tsg.freqSteps ∧
    (reconfigured p c u w s).tsg.boundaryIndex = s.tsg.boundaryIndex ∧
    (reconfigured p c u w s).tsg.lastBoundary = s.tsg.lastBoundary ∧
    (reconfigured p c u w s).tsg.phi = s.tsg.phi ∧ (reconfigured p c u w s).tsg.fInForce = s.tsg.fInForce ∧
    (reconfigured p c u w s).tsg.trim = s.tsg.trim ∧ (reconfigured p c u w s).tsg.osc = s.tsg.osc := by
  simp [reconfigured]

/-! ### The slot's operations -/

/-- An engine step is refused while the slot is occupied, and otherwise commits at once or waits (R11). -/
theorem requestStep_cases (y : Int) (s : State) : requestStep y s = s ∨ s.tsg.slot = none ∧
    ((∃ d, s.tsg.committed = none ∧ requestStep y s = takeCommitted ⟨.engine, .step, y, y, d, false⟩ s) ∨
      ∃ d, requestStep y s = s.withTsg { s.tsg with slot := some ⟨.engine, .step, y, y, d, false⟩ }) := by
  unfold requestStep
  dsimp only
  split
  · exact .inl rfl
  · next h =>
    split
    · next hc => exact .inr ⟨h, .inl ⟨_, hc.1, rfl⟩⟩
    · exact .inr ⟨h, .inr ⟨_, rfl⟩⟩

@[simp] theorem takeCommitted_fSet (r : AdjustRecord) (s : State) : (takeCommitted r s).tsg.fSet = s.tsg.fSet := by
  simp [takeCommitted]

@[simp] theorem requestStep_fSet (y : Int) (s : State) : (requestStep y s).tsg.fSet = s.tsg.fSet := by
  obtain e | ⟨-, ⟨d, -, e⟩ | ⟨d, e⟩⟩ := requestStep_cases y s <;> rw [e]
  · exact takeCommitted_fSet ..
  · rfl

@[simp] theorem acceptAdjust_fSet (k : AdjustKind) (a : Int) (d : Nat) (st : Stamp) (s : State) :
    (acceptAdjust k a d st s).tsg.fSet = s.tsg.fSet := by
  unfold acceptAdjust
  dsimp only
  split <;> simp

@[simp] theorem abortSlot_fSet (s : State) : (abortSlot s).tsg.fSet = s.tsg.fSet := by
  unfold abortSlot
  dsimp only
  split
  · rfl
  · split <;> simp

/-- A commitment comes from the slot's record, and nothing else changes (R13). -/
theorem commitDue_cases (s : State) : commitDue s = s ∨ ∃ r, s.tsg.slot = some r ∧
    commitDue s = s.withTsg { s.tsg with committed := some (commitmentOf r s.cfg.slewRate) } := by
  unfold commitDue
  dsimp only
  split
  · next r hr =>
    split
    · exact .inr ⟨r, hr, rfl⟩
    · exact .inl rfl
  · exact .inl rfl

@[simp] theorem commitDue_fSet (s : State) : (commitDue s).tsg.fSet = s.tsg.fSet := by
  obtain e | ⟨r, -, e⟩ := commitDue_cases s <;> rw [e]
  rfl

/-! ### The boundary -/

theorem reachBoundary_of_present {s : State} (h : s.tsg.osc = .present) :
    reachBoundary s = s.withTsg s.tsg.reach := by simp only [reachBoundary, h]

theorem reachBoundary_of_lost {s : State} (h : s.tsg.osc = .lost) :
    reachBoundary s = s.withTsg s.tsg.reachLost := by simp only [reachBoundary, h]

theorem reachBoundary_tsg_of_returning {s : State} (h : s.tsg.osc = .returning) :
    (reachBoundary s).tsg = s.tsg.reachReturned := by simp only [reachBoundary, h, State.withMon_tsg, State.withTsg_tsg]

/-- What the clock of a boundary is, whatever the oscillator state. -/
theorem reachBoundary_tsg_cases (s : State) :
    (reachBoundary s).tsg = s.tsg.reach ∨ (reachBoundary s).tsg = s.tsg.reachLost ∨
      (reachBoundary s).tsg = s.tsg.reachReturned := by
  cases h : s.tsg.osc with
  | present => exact .inl (by rw [reachBoundary_of_present h, State.withTsg_tsg])
  | lost => exact .inr (.inl (by rw [reachBoundary_of_lost h, State.withTsg_tsg]))
  | returning => exact .inr (.inr (reachBoundary_tsg_of_returning h))

@[simp] theorem Timescale.applyCommitted_keeps (x : Timescale) (c : Committed) :
    (x.applyCommitted c).now = x.now ∧ (x.applyCommitted c).boundaryIndex = x.boundaryIndex ∧
    (x.applyCommitted c).lastBoundary = x.lastBoundary ∧ (x.applyCommitted c).nextBoundary = x.nextBoundary ∧
    (x.applyCommitted c).phi = x.phi ∧ (x.applyCommitted c).phiNext = x.phiNext ∧
    (x.applyCommitted c).fInForce = x.fInForce ∧ (x.applyCommitted c).fSet = x.fSet ∧
    (x.applyCommitted c).committed = none ∧ (x.applyCommitted c).outputsRunning = x.outputsRunning ∧
    (x.applyCommitted c).ppsOut = x.ppsOut ∧ (x.applyCommitted c).auxOut = x.auxOut ∧
    (x.applyCommitted c).osc = x.osc ∧ (x.applyCommitted c).windowGap = x.windowGap ∧
    (x.applyCommitted c).freqSteps = x.freqSteps ∧ (x.applyCommitted c).freqMade = x.freqMade ∧
    (x.applyCommitted c).freqFrom = x.freqFrom := by
  simp [Timescale.applyCommitted]

@[simp] theorem Timescale.discardAtBoundary_keeps (x : Timescale) :
    x.discardAtBoundary.boundaryIndex = x.boundaryIndex ∧ x.discardAtBoundary.phi = x.phi ∧
    x.discardAtBoundary.phiNext = x.phiNext ∧ x.discardAtBoundary.nextBoundary = x.nextBoundary ∧
    x.discardAtBoundary.fInForce = x.fInForce ∧ x.discardAtBoundary.fSet = x.fSet ∧
    x.discardAtBoundary.trim = x.trim ∧ x.discardAtBoundary.committed = none ∧ x.discardAtBoundary.osc = x.osc ∧
    x.discardAtBoundary.windowGap = x.windowGap ∧ x.discardAtBoundary.outputsRunning = x.outputsRunning ∧
    x.discardAtBoundary.ppsOut = x.ppsOut ∧ x.discardAtBoundary.auxOut = x.auxOut := by
  unfold Timescale.discardAtBoundary
  split
  · dsimp only
    split <;> simp
  · simp [*]

/-- F set, F in force and the trim after a boundary (R3, R13). -/
theorem openBoundary_steering (s : State) :
    (openBoundary s).tsg.fSet = s.tsg.fSet ∧ (openBoundary s).tsg.fInForce = s.tsg.fInForce ∧
      ((openBoundary s).tsg.trim = s.tsg.trim ∨ ∃ x, (openBoundary s).tsg.trim = clampAbs 1000000 x) := by
  have reached : (reachBoundary s).tsg.fSet = s.tsg.fSet ∧ (reachBoundary s).tsg.fInForce = s.tsg.fInForce ∧
      ((reachBoundary s).tsg.trim = s.tsg.trim ∨ ∃ x, (reachBoundary s).tsg.trim = clampAbs 1000000 x) := by
    obtain e | e | e := reachBoundary_tsg_cases s <;> rw [e]
    · unfold Timescale.reach
      dsimp only
      split
      · simp only [true_and, Timescale.applyCommitted]
        split
        · exact .inr ⟨_, rfl⟩
        · exact .inl rfl
      · exact ⟨rfl, rfl, .inl rfl⟩
    · simp [Timescale.reachLost]
    · simp [Timescale.reachReturned]
  simpa [openBoundary] using reached

/-! ### What steers -/

theorem trim_steady : Steady fun s => s.tsg.trim.natAbs ≤ 1000000 := by
  have w : Walk fun s => s.tsg.trim.natAbs ≤ 1000000 := {}
  exact {
    kept := fun i => { toEngineKept := w.engineKept
                       openBoundary := fun _ s h => by
                         obtain ⟨-, -, e | ⟨x, e⟩⟩ := openBoundary_steering s <;> rw [e]
                         · exact h
                         · exact natAbs_clampAbs_le (by decide) x
                       restart := fun _ => w.course.restart (fun _ _ h => h) (fun _ _ _ h => h) (fun _ h => h) fun _ h => h }
    pending := fun q s h => h
    reset := fun b g r s h => Nat.zero_le _
    openSecond0 := fun n b p s _ h =>
      openSecond0_keeps_of w.engineKept n b p fun t ht _ _ _ _ _ _ _ => by simp [ht, Timescale.reset] }

/-- I and the learned means bound each F that is set, and so F in force. -/
theorem steering_steady :
    Steady fun s => s.SoundF ∧ s.tsg.fSet.natAbs ≤ 2000000 ∧ s.tsg.fInForce.natAbs ≤ 2000000 := by
  unfold State.SoundF
  have w : Walk fun s => (s.eng.integral.natAbs ≤ 2000000000000 ∧
      ∀ i : Fin 64, s.lrn.table[i].mean.natAbs ≤ 2000000000) ∧
        s.tsg.fSet.natAbs ≤ 2000000 ∧ s.tsg.fInForce.natAbs ≤ 2000000 :=
    { eng := fun e s m h => ⟨⟨m.integral h.1.1, h.1.2⟩, h.2⟩
      setF := fun f s hf h => ⟨h.1, hf h.1, h.2.2⟩
      learnOffer := fun v s hv h => by
        obtain e | ⟨-, b, -, e⟩ := learnOffer_cases v s <;> rw [e]
        · exact h
        · exact ⟨⟨h.1.1, forall_set (p := fun b => b.mean.natAbs ≤ 2000000000) b h.1.2
            (Bin.update_mean_le (h.1.2 b) hv)⟩, h.2⟩ }
  exact {
    kept := fun i => { toEngineKept := w.engineKept
                       openBoundary := fun _ s h => by
                         obtain ⟨eset, eforce, -⟩ := openBoundary_steering s
                         simpa [eset, eforce] using h
                       latch := fun _ s h => by simpa [latch] using ⟨h.1, h.2.1⟩
                       lrn := fun l s m h => by
                         rw [← m.table] at h
                         exact h
                       sample := fun _ l s t _ _ h => by
                         rw [← t] at h
                         exact h
                       takeAgingSample := fun s h => by
                         obtain ⟨a, r, e, -⟩ := takeAgingSample_eq s
                         rw [e]
                         exact h
                       clearLearning := fun _ s h => ⟨⟨h.1.1, Learning.limits_reset.means⟩, h.2⟩
                       putLearning := fun _ l s hl h => ⟨⟨h.1.1, hl.means⟩, h.2⟩
                       restart := fun _ => w.course.restart (fun _ _ h => h) (fun _ _ _ h => h) (fun _ h => h) fun _ h => h }
    pending := fun q s h => h
    reset := fun b g r s h => ⟨⟨Nat.zero_le _, Learning.limits_reset.means⟩, Nat.zero_le _, Nat.zero_le _⟩
    openSecond0 := fun n b p s _ h =>
      openSecond0_keeps_of w.engineKept n b p fun t ht _ _ _ he htab _ _ => by
        rw [he, htab, ht]
        exact ⟨h.1, Nat.zero_le _, Nat.zero_le _⟩ }

end Sys2Proof.Machine

open Sys2Proof.Machine

/-- Settles O52: F is set from I, from the table and within its own limit alone. -/
theorem steeringStaysBounded : Obligations.SteeringStaysBounded := by
  intro s t h e
  obtain ⟨⟨integral, means⟩, set, inForce⟩ := steering_steady.step ⟨⟨h.integral, h.means⟩, h.set, h.inForce⟩ e
  exact ⟨set, inForce, integral, trim_steady.step h.trim e, means, learnedRate_steady.step h.aging e,
    uncertainty_steady.step h.uncertainty e⟩

end

section
/-! PROOF. The schedule of the next boundary, the slot, the station's own entry, the raised flags, and FAULT. -/

namespace Sys2Proof.Machine

/-! ### The schedule -/

/-- The amount of a commitment, 0 with none (R2). -/
def amountOf (c : Option Committed) : Int := (c.map (·.amount)).getD 0

theorem Timescale.committedAmount_eq (x : Timescale) : x.committedAmount = amountOf x.committed := by
  unfold committedAmount amountOf
  cases x.committed <;> rfl

theorem Timescale.scheduled_iff (x : Timescale) : x.Scheduled ↔ (x.osc = .present →
    x.phiNext = narrowPhi (x.phi + x.fInForce + 1000 * amountOf x.committed) ∧
      x.nextBoundary = place (x.boundaryIndex + 1) x.phiNext ∧
      x.freqSteps = x.lastBoundary + 1000000000 - place (x.boundaryIndex + 1) (narrowPhi (x.phi + x.fInForce))) :=
  ⟨fun h ho => ⟨x.committedAmount_eq ▸ h.phi ho, h.next ho, h.steps ho⟩,
    fun h => ⟨fun ho => x.committedAmount_eq ▸ (h ho).1, fun ho => (h ho).2.1, fun ho => (h ho).2.2⟩⟩

/-- Scheduling puts the boundary at its place (R2, R6). -/
theorem Timescale.schedule_scheduled (x : Timescale) : x.schedule.Scheduled := by
  rw [scheduled_iff]
  intro ho
  have hx : x.osc = .present := by simpa using ho
  simp [schedule, hx, phiWith, nextWith, committedAmount_eq]

/-- Scheduled or not is seen by the place of the boundary, F and the amount alone. -/
theorem Timescale.Scheduled.congr {x y : Timescale} (h : x.Scheduled)
    (osc : y.osc = .present → x.osc = .present) (phi : y.phi = x.phi) (force : y.fInForce = x.fInForce)
    (amount : amountOf y.committed = amountOf x.committed) (index : y.boundaryIndex = x.boundaryIndex)
    (last : y.lastBoundary = x.lastBoundary) (phiNext : y.phiNext = x.phiNext)
    (next : y.nextBoundary = x.nextBoundary) (steps : y.freqSteps = x.freqSteps) : y.Scheduled := by
  rw [scheduled_iff] at h ⊢
  rw [phi, force, amount, index, last, phiNext, next, steps]
  exact fun ho => h (osc ho)

theorem Timescale.scheduled_of_not_present {x : Timescale} (h : x.osc ≠ .present) : x.Scheduled :=
  ⟨fun ho => absurd ho h, fun ho => absurd ho h, fun ho => absurd ho h⟩

theorem Timescale.scheduled_reset : Timescale.reset.Scheduled := ⟨by decide, by decide, by decide⟩

theorem abortSlot_scheduled {s : State} (h : s.tsg.Scheduled) : (abortSlot s).tsg.Scheduled := by
  unfold abortSlot
  dsimp only
  split
  · next c hc =>
    exact h.congr id rfl rfl (by simp [hc, amountOf]) rfl rfl rfl rfl rfl
  · split <;> exact h.congr id rfl rfl rfl rfl rfl rfl rfl rfl

theorem scheduled_walk : Walk fun s => s.tsg.Scheduled where
  setF f s _ h := h.congr id rfl rfl rfl rfl rfl rfl rfl rfl
  refresh s h := h.congr id rfl rfl rfl rfl rfl rfl rfl rfl
  requestStep y s _ h := by
    obtain e | ⟨-, ⟨d, -, e⟩ | ⟨d, e⟩⟩ := requestStep_cases y s <;> rw [e]
    · exact h
    · exact Timescale.schedule_scheduled _
    · exact h.congr id rfl rfl rfl rfl rfl rfl rfl rfl
  abortSlot s h := abortSlot_scheduled h
  loss s _ := Timescale.scheduled_of_not_present (by simp)

theorem scheduled_steady : Steady fun s => s.tsg.Scheduled where
  kept i := {
    toEngineKept := scheduled_walk.engineKept
    clock := fun t g s h => h.congr id rfl rfl rfl rfl rfl rfl rfl rfl
    returning := fun s _ _ => Timescale.scheduled_of_not_present (by simp)
    openBoundary := fun _ s _ => Timescale.schedule_scheduled _
    latch := fun _ s _ => Timescale.schedule_scheduled _
    endPulse := fun s h => h.congr id rfl rfl rfl rfl rfl rfl rfl rfl
    acceptAdjust := fun k a d st s _ _ _ h => by
      unfold acceptAdjust
      dsimp only
      split
      · exact Timescale.schedule_scheduled _
      · exact h.congr id rfl rfl rfl rfl rfl rfl rfl rfl
    restart := fun _ => scheduled_walk.course.restart (fun _ _ h => h) (fun _ _ _ h => h) (fun _ h => h) fun _ h => h
    reconfigured := fun p c e w s _ _ _ h => h.congr id rfl rfl rfl rfl rfl rfl rfl rfl }
  pending q s h := h
  reset b g r s h := Timescale.scheduled_reset
  openSecond0 n b p s _ h := openSecond0_keeps_of scheduled_walk.engineKept n b p fun t ht _ _ _ _ _ _ _ => by
    rw [ht]
    exact Timescale.scheduled_reset.congr (fun _ => rfl) rfl rfl rfl rfl rfl rfl rfl rfl

/-! ### The slot -/

/-- What remains of a record has the sign of what was requested, and no more magnitude (R11). -/
def AdjustRecord.Sound (r : AdjustRecord) : Prop :=
  (0 < r.requested ∧ 0 < r.remaining ∧ r.remaining ≤ r.requested) ∨
  (r.requested < 0 ∧ r.requested ≤ r.remaining ∧ r.remaining < 0)

/-- An amount takes no more than what remains of a record (R13). -/
def AdjustRecord.Covers (r : AdjustRecord) (a : Int) : Prop :=
  (0 < r.remaining ∧ 0 ≤ a ∧ a ≤ r.remaining) ∨ (r.remaining < 0 ∧ r.remaining ≤ a ∧ a ≤ 0)

/-- The two parts of the slot fit each other (R11, R13). -/
def SlotFits (slot : Option AdjustRecord) (committed : Option Committed) : Prop :=
  (∀ r, slot = some r → r.Sound) ∧
    ∀ c, committed = some c → c.detached = false → ∃ r, slot = some r ∧ r.Covers c.amount

theorem Timescale.slotSound_iff (x : Timescale) : x.SlotSound ↔ SlotFits x.slot x.committed :=
  ⟨fun h => ⟨h.remaining, h.committed⟩, fun h => ⟨h.1, h.2⟩⟩

/-- A new record asks for what remains. -/
theorem AdjustRecord.Sound.of_new {r : AdjustRecord} (h : r.requested = r.remaining) (h0 : r.remaining ≠ 0) :
    r.Sound := by
  unfold Sound
  omega

theorem AdjustRecord.Sound.covers_portion {r : AdjustRecord} (h : r.Sound) (rate : Nat) :
    r.Covers (portionOf r.kind r.remaining rate) := by
  unfold Sound at h
  unfold Covers portionOf
  cases r.kind with
  | step => dsimp only; omega
  | slew =>
    dsimp only [slewPortion]
    split <;> omega

theorem SlotFits.none_committed (slot : Option AdjustRecord) (h : ∀ r, slot = some r → r.Sound) :
    SlotFits slot none := ⟨h, by simp⟩

theorem slotFits_commitment {r : AdjustRecord} (h : r.Sound) (rate : Nat) :
    SlotFits (some r) (some (commitmentOf r rate)) :=
  ⟨by rintro _ ⟨⟩; exact h, by rintro _ ⟨⟩ _; exact ⟨r, rfl, h.covers_portion rate⟩⟩

/-- A record in a free slot: a commitment that still has its record would be another's (R11). -/
theorem SlotFits.fill {c : Option Committed} {r : AdjustRecord} (h : SlotFits none c) (hr : r.Sound) :
    SlotFits (some r) c := by
  refine ⟨by rintro _ ⟨⟩; exact hr, fun c hc hd => ?_⟩
  obtain ⟨_, hn, -⟩ := h.2 c hc hd
  cases hn

theorem slotFits_of_detached {c : Committed} (h : c.detached = true) : SlotFits none (some c) :=
  ⟨by simp, by rintro _ ⟨⟩ hd; simp [h] at hd⟩

theorem abortSlot_slotFits (s : State) : SlotFits (abortSlot s).tsg.slot (abortSlot s).tsg.committed := by
  unfold abortSlot
  dsimp only
  split
  · exact slotFits_of_detached rfl
  · next hc =>
    have empty : SlotFits none s.tsg.committed := by rw [hc]; exact .none_committed _ (by simp)
    split
    · exact empty
    · exact empty

theorem takeCommitted_slotFits {r : AdjustRecord} (h : r.Sound) (s : State) :
    SlotFits (takeCommitted r s).tsg.slot (takeCommitted r s).tsg.committed := by
  simpa [takeCommitted] using slotFits_commitment h s.cfg.slewRate

theorem Timescale.discardCommitted_committed (x : Timescale) : x.discardCommitted.committed = none := by
  unfold discardCommitted
  split
  · split <;> rfl
  · assumption

/-- A boundary applies or discards what was committed, and the record keeps what remains (R13). -/
theorem Timescale.applyCommitted_slot {x : Timescale} {c : Committed} (h : SlotFits x.slot (some c))
    {r : AdjustRecord} (hr : (x.applyCommitted c).slot = some r) : r.Sound := by
  simp only [applyCommitted] at hr
  cases hd : c.detached with
  | true =>
    rw [hd, if_pos rfl] at hr
    exact h.1 r hr
  | false =>
    obtain ⟨q, hq, covers⟩ := h.2 c rfl hd
    have sound := h.1 q hq
    simp only [hd, Bool.false_eq_true, if_false, hq, Option.map_some, Bool.false_or] at hr
    split at hr
    · cases hr
    · next hlast =>
      cases hr
      simp only [Bool.or_eq_true, decide_eq_true_eq, not_or] at hlast
      unfold AdjustRecord.Sound at sound ⊢
      unfold AdjustRecord.Covers at covers
      dsimp only
      omega

theorem Timescale.discardAtBoundary_slot {x : Timescale} {r : AdjustRecord}
    (hr : x.discardAtBoundary.slot = some r) : x.slot = some r := by
  unfold discardAtBoundary at hr
  split at hr
  · dsimp only at hr
    split at hr
    · split at hr <;> exact hr
    · cases hr
  · exact hr

theorem openBoundary_slotFits {s : State} (h : SlotFits s.tsg.slot s.tsg.committed) :
    SlotFits (openBoundary s).tsg.slot (openBoundary s).tsg.committed := by
  have reached : (reachBoundary s).tsg.committed = none ∧ ∀ r, (reachBoundary s).tsg.slot = some r → r.Sound := by
    obtain e | e | e := reachBoundary_tsg_cases s <;> rw [e]
    · unfold Timescale.reach
      dsimp only
      split
      · next c hc =>
        rw [hc] at h
        exact ⟨by simp, fun r => Timescale.applyCommitted_slot h⟩
      · next hc => exact ⟨hc, h.1⟩
    · exact ⟨by simp [Timescale.reachLost], fun r hr => h.1 r (Timescale.discardAtBoundary_slot hr)⟩
    · exact ⟨by simp [Timescale.reachReturned], fun r hr => h.1 r (Timescale.discardAtBoundary_slot hr)⟩
  obtain ⟨none_, sound⟩ := reached
  have outputs : SlotFits (boundaryOutputs (reachBoundary s)).tsg.slot
      (boundaryOutputs (reachBoundary s)).tsg.committed := by
    simpa [none_] using SlotFits.none_committed _ sound
  obtain e | ⟨r, hr, e⟩ := commitDue_cases (boundaryOutputs (reachBoundary s))
  · simpa [openBoundary, e] using outputs
  · have hr' : (reachBoundary s).tsg.slot = some r := by simpa using hr
    simpa [openBoundary, e, hr'] using slotFits_commitment (sound r hr') (boundaryOutputs (reachBoundary s)).cfg.slewRate

theorem slotFits_walk : Walk fun s => SlotFits s.tsg.slot s.tsg.committed where
  requestStep y s hy h := by
    have sound : ∀ d, (⟨.engine, .step, y, y, d, false⟩ : AdjustRecord).Sound := fun d => .of_new rfl hy
    obtain e | ⟨hs, ⟨d, -, e⟩ | ⟨d, e⟩⟩ := requestStep_cases y s <;> rw [e]
    · exact h
    · exact takeCommitted_slotFits (sound d) s
    · rw [hs] at h
      exact h.fill (sound d)
  abortSlot s _ := abortSlot_slotFits s
  loss s h := by simpa [Timescale.discardCommitted_committed] using SlotFits.none_committed _ h.1

theorem slotFits_steady : Steady fun s => SlotFits s.tsg.slot s.tsg.committed where
  kept i := {
    toEngineKept := slotFits_walk.engineKept
    openBoundary := fun _ s h => openBoundary_slotFits h
    latch := fun _ s h => by simpa [latch] using h
    acceptAdjust := fun k a d st s ha hs hc h => by
      have sound : (⟨.command, k, a, a, secondAfter st.second d, false⟩ : AdjustRecord).Sound := .of_new rfl ha
      unfold acceptAdjust
      dsimp only
      split
      · exact takeCommitted_slotFits sound s
      · rw [hs] at h
        exact h.fill sound
    restart := fun _ => slotFits_walk.course.restart (fun _ _ h => h) (fun _ _ _ h => h) (fun _ h => h) fun _ h => h }
  pending q s h := h
  reset b g r s h := ⟨by rintro _ ⟨⟩, by rintro _ ⟨⟩⟩
  openSecond0 n b p s _ h := openSecond0_keeps_of slotFits_walk.engineKept n b p fun t ht _ _ _ _ _ _ _ => by
    rw [ht]
    exact ⟨by rintro _ ⟨⟩, by rintro _ ⟨⟩⟩

end Sys2Proof.Machine

open Sys2Proof.Machine

/-- Settles O50: what moves a boundary schedules it, and a commitment comes from the record in the slot. -/
theorem boundaryStaysScheduled : Obligations.BoundaryStaysScheduled := by
  refine ⟨fun s t => scheduled_steady.step, fun s t h e => ?_⟩
  rw [Timescale.slotSound_iff] at h ⊢
  exact slotFits_steady.step h e

end

section
/-! PROOF. The station's own peer entry, the raised flags, and FAULT. -/

namespace Sys2Proof.Machine

/-! ### The own entry -/

theorem openSecond0_pwr (n : Nat) (b : BitVec 4) (p : Bool) (s : State) : (openSecond0 n b p s).pwr = { s.pwr with
    opened := true, state := .load, stage := .configuration, address := b.toFin, sitePwr := p, filtered := p
    filterDue := none } := by
  obtain ⟨u, e | e, -, -, -, -, -, -, -, hp, -⟩ := openSecond0_eq n b p s <;> rw [e]
  · exact hp
  · simpa using hp

/-- Of a part whose second 0 has opened: its own entry and mark are empty. -/
theorem ownEntry_kept (i : Instr) : Kept i fun s => s.pwr.opened = true ∧ s.ptu.EmptyAt s.pwr.address where
  ptu p s m h := ⟨h.1, m.own h.2⟩
  pwr p s m h := by
    rw [State.withPwr_pwr, m.opened, m.address]
    exact h
  restart _ s h := by
    have w : Walk fun s => s.pwr.opened = true ∧ s.ptu.EmptyAt s.pwr.address := {}
    refine w.course.restart (fun _ _ h => h) (fun _ _ _ h => h) (fun s h => ⟨h.1, ?_⟩) (fun _ h => h) s h
    constructor <;> simp [PeerUnit.reset]
  reconfigured p c e w s a o _ h := by simpa [a, o] using h

theorem State.ownEntryEmpty_of_reset {s : State} (h : s.ptu = PeerUnit.reset) : s.OwnEntryEmpty := by
  constructor <;> simp [h, PeerUnit.reset]

theorem exec_ownEntryEmpty {i : Instr} {s t : State} (h : s.OwnEntryEmpty) (e : exec i s = .next t) :
    t.OwnEntryEmpty := by
  have closed : ∀ {u : State}, u.ptu = s.ptu → u.pwr.opened = s.pwr.opened → u.pwr.address = s.pwr.address →
      u.OwnEntryEmpty := fun {u} hp ho ha => by
    refine ⟨fun hu => ?_, ?_⟩
    · rw [hp]
      exact h.before (ho ▸ hu)
    · have own : u.ptu.EmptyAt u.pwr.address := by
        rw [hp, ha]
        exact ⟨h.own.1, h.own.2⟩
      exact ⟨own.peer, own.mark⟩
  obtain rfl | ⟨n, b, p, -, hopened, rfl⟩ | ⟨b, g, r, -, rfl⟩ | ⟨hr, ho⟩ := exec_cases e
  · exact h
  · refine ⟨fun hc => ?_, ?_⟩
    · simp [openSecond0_pwr] at hc
    · rw [(openSecond0_keeps n b p s).2.1]
      exact h.before hopened _
  · exact State.ownEntryEmpty_of_reset rfl
  · by_cases running : s.running = true
    · have hopened : s.pwr.opened = true := by
        simp only [State.running, Bool.and_eq_true] at running
        exact running.1
      obtain ⟨opened, own⟩ := (ownEntry_kept i).exec hr ho ⟨hopened, ⟨h.own.1, h.own.2⟩⟩ e
      exact ⟨fun hc => by simp [opened] at hc, own.peer, own.mark⟩
    · obtain ⟨x, rfl⟩ | ⟨p, m, rfl⟩ := exec_of_not_running (by simpa using running) hr ho e
      · exact closed rfl rfl rfl
      · exact closed rfl m.opened m.address

/-! ### Raised flags -/

theorem raised_kept {i : Instr} (f : Flag) (hc : carries i 2 = false) (hr : carries i 15 = false) :
    Kept i fun s => hasFlag s.scu.raised f = true where
  clearFlags h := absurd h (by rw [hc]; decide)
  restart h := absurd h (by rw [hr]; decide)
  toEngineKept := by
    have w : Walk fun s => hasFlag s.scu.raised f = true := {}
    exact w.engineKept

/-! ### FAULT -/

theorem recomputeU_eng (s : State) : (recomputeU s).eng = { s.eng with u := s.uncertainty } := rfl

/-- The exhaustion test moves the order alone (R134). -/
theorem exhaustionTest_eng (s : State) : ∃ o, (exhaustionTest s).eng = { s.eng with exhaustionOrder := o } ∧
    (o = s.eng.exhaustionOrder ∨ s.eng.state = .holdover ∨ s.eng.state = .freerun) := by
  unfold exhaustionTest
  split
  · next h =>
    dsimp only
    split
    · exact ⟨true, by simp, .inr h.1⟩
    · exact ⟨s.eng.exhaustionOrder, by simp, .inl rfl⟩
  · exact ⟨_, rfl, .inl rfl⟩

theorem predict_eng (s : State) : ∃ p, (predict s).eng = { s.eng with lastPrediction := p } ∧
    (s.eng.record = none → p = s.eng.lastPrediction) := by
  unfold predict
  split
  · next r hr => exact ⟨_, rfl, fun h => by simp [h] at hr⟩
  · exact ⟨_, rfl, fun _ => rfl⟩

/-- The counters of an own boundary (R104, R119). -/
def State.engineCounted (s : State) : State :=
  s.withEng { s.eng with
    warmupLeft := s.eng.warmupLeft - 1
    steerCount := if (s.eng.state = .locked ∨ s.eng.state = .follow) ∧ s.tsg.fSet.natAbs = 2000000 then
      s.eng.steerCount + 1 else 0 }

theorem engineBoundary_eq (s : State) : engineBoundary s = exhaustionTest (recomputeU
    (if s.eng.state = .holdover then predict s.engineCounted
      else if s.eng.state = .freerun then setF (freeRunF s.engineCounted) s.engineCounted else s.engineCounted)) := by
  have limit : (s.tsg.fSet = Config.limitF ∨ s.tsg.fSet = -Config.limitF) ↔ s.tsg.fSet.natAbs = 2000000 := by
    have : Config.limitF = 2000000 := rfl
    omega
  unfold engineBoundary State.engineCounted
  simp only [Bool.and_eq_true, Bool.or_eq_true, decide_eq_true_eq, limit]
  cases s.eng.state <;> rfl

@[simp] theorem engineBoundary_state (s : State) : (engineBoundary s).eng.state = s.eng.state := by
  obtain ⟨o, ho, -⟩ := exhaustionTest_eng (recomputeU (if s.eng.state = .holdover then predict s.engineCounted
      else if s.eng.state = .freerun then setF (freeRunF s.engineCounted) s.engineCounted else s.engineCounted))
  rw [engineBoundary_eq, ho, recomputeU_eng]
  dsimp only
  repeat' split
  · obtain ⟨p, hp, -⟩ := predict_eng s.engineCounted
    rw [hp, State.engineCounted]
    rfl
  · rfl
  · rfl

theorem selectSource_of_fault {s : State} (h : s.eng.state = .fault) : selectSource s = s := by
  simp [selectSource, State.silent, h]

theorem takeObservation_of_fault {s : State} (y : Int) (h : s.eng.state = .fault) : takeObservation y s = s := by
  simp [takeObservation, h, selectSource_of_fault]

theorem takePoint_of_fault {s : State} (h : s.eng.state = .fault) : takePoint s = (s, false) := by
  simp [takePoint, State.silent, h]

theorem fault_kept {i : Instr} (hr : carries i 15 = false) : Kept i fun s => s.eng.state = .fault where
  declareLoss s _ h := keeps_ite (P := fun s => s.eng.state = .fault) (fun _ => h) fun _ => enterFault_state _
  applySelection s hn h := absurd h hn
  takeObservation _ y s h := by rw [takeObservation_of_fault y h, h]
  takePoint _ s h := by rw [takePoint_of_fault h, h]
  setInhibit b s h := by rw [setInhibit, selectSource_of_fault (by exact h)]; exact h
  enterQual q s h := by rw [enterQual, selectSource_of_fault (by exact h)]; exact h
  restart h := absurd h (by rw [hr]; decide)

end Sys2Proof.Machine

open Sys2Proof.Machine

/-- Settles O55: before second 0 nothing is heard, and after it a frame of the own address reaches no entry. -/
theorem ownEntryStaysEmpty : Obligations.OwnEntryStaysEmpty :=
  fun _ _ => step_of_exec (fun _ _ h => ⟨h.before, h.own⟩) fun _ _ _ => exec_ownEntryEmpty

/-- Settles O58: CLEAR_ERRORS and RESTART are the operations of the running part that lower a flag. -/
theorem raisedFlagsStay : Obligations.RaisedFlagsStay :=
  fun _ _ _ f h hr hclear hrestart ho => (raised_kept f hclear hrestart).exec hr ho h

/-- Settles O57: RESTART alone, of the operations of the running part, takes the engine out of FAULT. -/
theorem faultLeftOnlyByReset : Obligations.FaultLeftOnlyByReset := by
  intro i s t h hr hrestart e
  obtain rfl | ⟨n, b, p, -, -, rfl⟩ | ⟨b, g, r, hreset, -⟩ | ⟨-, ho⟩ := exec_cases e
  · exact h
  · obtain ⟨u, e | e, -, -, -, -, heng, -⟩ := openSecond0_eq n b p s <;> rw [e]
    · rw [heng, h]
    · exact enterFault_state _
  · simp [hreset] at hr
  · exact (fault_kept hrestart).exec hr ho h e

end

section
/-! PROOF. The engine's record: what each operation makes of it, the invariant of R99 to R135 (`Engine.RecordFits`), and
LOCKED and ACQUIRE on a trusted reference alone (R106, R116). -/

namespace Sys2Proof.Machine

/-! ### Entries -/

/-- The record with which an entry begins (R107, R129, R135). -/
def Engine.entering (e : Engine) (st : EngineState) (src : Option Source) : Engine :=
  { e with
    state := st, source := src, pt := 0, lockCount := 0, largeCount := 0
    steerCount := if st = .follow ∧ e.state = .locked then e.steerCount else 0
    disagree := 0, record := none, nudge := 0, lastPrediction := none
    exhaustionOrder := e.exhaustionOrder && (st = .holdover || st = .freerun) }

theorem enterState_eq (st : EngineState) (src : Option Source) (f : State → State) (s : State) :
    enterState st src f s =
      announce s.eng.state (exhaustionTest (recomputeU (f (s.withEng (s.eng.entering st src))))) := rfl

/-- An entry whose own acts leave the state ends in it. -/
theorem enterState_state {f : State → State} (hf : ∀ s, (f s).eng.state = s.eng.state) (st : EngineState)
    (src : Option Source) (s : State) : (enterState st src f s).eng.state = st := by
  obtain ⟨o, e, -⟩ := exhaustionTest_eng (recomputeU (f (s.withEng (s.eng.entering st src))))
  rw [enterState_eq, announce_eng, e, recomputeU_eng]
  exact hf _

/-- The input that an observation is, before the selection that follows it (R109). -/
def State.observationInput (y : Int) (s : State) : State :=
  if s.eng.inhibit = true then s
  else if s.eng.state = .locked then trackInput y s.cfg.decimation s.cfg.tauRef (recordY y s)
  else if s.eng.state = .acquire ∧ s.eng.source = some .reference then
    acquireInput y s.cfg.decimation (recordY y s)
  else s

theorem takeObservation_eq (y : Int) (s : State) : takeObservation y s = selectSource (s.observationInput y) := rfl

/-- The engine's work on a point before the selection (R110). -/
def State.pointInput (s : State) : State := takeNudge (consensusInput (disagreementCheck s).1)

theorem takePoint_of_silent {s : State} (h : s.silent = true) : takePoint s = (s, false) := by
  simp [takePoint, h]

theorem takePoint_of_not_silent {s : State} (h : s.silent = false) :
    takePoint s = (selectSource s.pointInput, (disagreementCheck s).2) := by
  simp [takePoint, h, State.pointInput]

/-- What the entry to HOLDOVER does with the record `r` made for it (R123, R125). -/
def holdoverEntry (r : HoldoverRecord) (s : State) : State := predict (s.withEng { s.eng with record := some r })

theorem enterHoldover_eq (s : State) :
    enterHoldover s = enterState .holdover none (holdoverEntry s.newRecord) s := rfl

/-- The state with which the lock counter is rewarded (R115). -/
def Engine.locked (e : Engine) : Engine :=
  { e with
    state := if e.source = some .reference then .locked else .follow
    lockCount := 0, largeCount := 0, steerCount := 0 }

theorem lockAchieved_eq (s : State) : lockAchieved s = announce s.eng.state (recomputeU (s.withEng s.eng.locked)) := rfl

/-- The engine's record that an operation leaves satisfies `Q`, where the operation's own changes of it do; its work at
a boundary (R119) under the premise `b` alone. -/
structure EngineWalk (Q : Engine → Prop) (b : Prop := True) : Prop where
  plain : ∀ e f : Engine, f.state = e.state → f.source = e.source → f.record = e.record → f.nudge = e.nudge →
    f.lastPrediction = e.lastPrediction → f.lockCount = e.lockCount → f.largeCount = e.largeCount →
    f.steerCount = e.steerCount → f.disagree = e.disagree → f.exhaustionOrder = e.exhaustionOrder →
    (b ∨ f.warmupLeft = e.warmupLeft) → Q e → Q f
  order : ∀ (e : Engine) (o : Bool), e.state = .holdover ∨ e.state = .freerun → Q e → Q { e with exhaustionOrder := o }
  unordered : ∀ e : Engine, Q e → Q { e with exhaustionOrder := false }
  predicted : ∀ (e : Engine) (p : Option Int), (e.record = none → p = e.lastPrediction) → Q e →
    Q { e with lastPrediction := p }
  nudged : ∀ (e : Engine) (n : Int), e.state = .holdover → Q e → Q { e with nudge := n }
  counted : ∀ (e : Engine) (n : Nat), n = 0 ∨ e.state = .acquire → Q e → Q { e with lockCount := n }
  locked : ∀ e : Engine, e.state = .acquire → Q e → Q e.locked
  large : ∀ (e : Engine) (n : Nat), e.state = .locked ∨ e.state = .follow → Q e → Q { e with largeCount := n }
  steered : b → ∀ (e : Engine) (n : Nat), n = 0 ∨ e.state = .locked ∨ e.state = .follow → Q e →
    Q { e with steerCount := n }
  disagreed : ∀ (e : Engine) (n : Nat), e.state = .locked → Q e → Q { e with disagree := n }
  acquire : ∀ (e : Engine) (src : Source), Q e → Q (e.entering .acquire (some src))
  back : ∀ e : Engine, e.state = .locked ∨ e.state = .follow → Q e → Q (e.entering .acquire e.source)
  follow : ∀ (e : Engine) (t : Tier), Q e → Q (e.entering .follow (some (.tier t)))
  holdover : ∀ (e : Engine) (r : HoldoverRecord), Q e → Q { e.entering .holdover none with record := some r }
  freerun : ∀ e : Engine, Q e → Q (e.entering .freerun none)
  warmup : ∀ e : Engine, Q e → Q (e.entering .warmup none)
  faulted : ∀ e : Engine, Q e → Q e.faulted

section
variable {Q : Engine → Prop} {b : Prop} (w : EngineWalk Q b)
include w

theorem EngineWalk.recomputeU (s : State) (h : Q s.eng) : Q (recomputeU s).eng :=
  w.plain s.eng _ rfl rfl rfl rfl rfl rfl rfl rfl rfl rfl (.inr rfl) h

theorem EngineWalk.exhaustionTest (s : State) (h : Q s.eng) : Q (exhaustionTest s).eng := by
  obtain ⟨o, e, rfl | stay⟩ := exhaustionTest_eng s <;> rw [e]
  · exact h
  · exact w.order _ o stay h

theorem EngineWalk.enterState {st : EngineState} {src : Option Source} {f : State → State} {s : State}
    (h : Q (f (s.withEng (s.eng.entering st src))).eng) : Q (enterState st src f s).eng := by
  rw [enterState_eq, announce_eng]
  exact w.exhaustionTest _ (w.recomputeU _ h)

theorem EngineWalk.lockAchieved {s : State} (hs : s.eng.state = .acquire) (h : Q s.eng) :
    Q (lockAchieved s).eng := by
  rw [lockAchieved_eq, announce_eng]
  exact w.recomputeU _ (w.locked _ hs h)

theorem EngineWalk.loopUpdate (y : Int) (period tau : Nat) (s : State) (h : Q s.eng) :
    Q (loopUpdate y period tau s).eng := by
  simp only [Machine.loopUpdate, learnOffer_keeps, setF_keeps, State.withEng_eng]
  exact w.plain s.eng _ rfl rfl rfl rfl rfl rfl rfl rfl rfl rfl (.inr rfl) h

omit w in
@[simp] theorem loopUpdate_state (y : Int) (period tau : Nat) (s : State) :
    (Machine.loopUpdate y period tau s).eng.state = s.eng.state ∧
      (Machine.loopUpdate y period tau s).eng.source = s.eng.source := by
  simp [Machine.loopUpdate]

theorem EngineWalk.acquireInput (y : Int) (period : Nat) (s : State) (hs : s.eng.state = .acquire) (h : Q s.eng) :
    Q (acquireInput y period s).eng := by
  refine keeps_ite (P := fun s => Q s.eng) (fun _ => ?_) fun _ => ?_
  · rw [(requestStep_keeps _ _).2.2.2.1]
    exact w.counted _ 0 (.inl rfl) h
  · have updated := w.loopUpdate y period Config.tauAcq s h
    have acquire : (Machine.loopUpdate y period Config.tauAcq s).eng.state = .acquire := by simp [hs]
    refine keeps_ite (P := fun s => Q s.eng) (fun _ => ?_) fun _ => w.counted _ _ (.inr acquire) updated
    rw [lockAchieved_withEng_lockCount]
    exact w.lockAchieved acquire updated

theorem EngineWalk.pushRing (s : State) (h : Q s.eng) : Q (pushRing s).eng :=
  w.plain s.eng _ rfl rfl rfl rfl rfl rfl rfl rfl rfl rfl (.inr rfl) h

theorem EngineWalk.recordY (y : Int) (s : State) (h : Q s.eng) : Q (recordY y s).eng :=
  w.plain s.eng _ rfl rfl rfl rfl rfl rfl rfl rfl rfl rfl (.inr rfl) h

theorem EngineWalk.recordC (c : Consensus) (t : Tier) (s : State) (h : Q s.eng) : Q (recordC c t s).eng :=
  w.plain s.eng _ rfl rfl rfl rfl rfl rfl rfl rfl rfl rfl (.inr rfl) h

theorem EngineWalk.trackInput (y : Int) (period tau : Nat) (s : State) (hs : s.eng.state = .locked ∨ s.eng.state = .follow)
    (h : Q s.eng) : Q (trackInput y period tau s).eng := by
  refine keeps_ite (P := fun s => Q s.eng) (fun _ => ?_) fun _ => ?_
  · refine w.acquireInput _ _ _ ?_ (w.enterState (w.back s.eng hs h))
    exact enterState_state (f := Machine.setIntegralF) (fun _ => rfl) .acquire s.eng.source s
  · have updated := fun n => w.loopUpdate y period tau (s.withEng { s.eng with largeCount := n }) (w.large _ n hs h)
    exact keeps_ite (P := fun s => Q s.eng) (fun _ => w.pushRing _ (updated _)) fun _ => updated _

theorem EngineWalk.predict (s : State) (h : Q s.eng) : Q (predict s).eng := by
  obtain ⟨p, e, hp⟩ := predict_eng s
  rw [e]
  exact w.predicted _ p hp h

/-- Of the record at the first prediction of a stay (R123). -/
theorem EngineWalk.holdoverEntry (s : State) (h : Q s.eng) :
    Q (holdoverEntry s.newRecord (s.withEng (s.eng.entering .holdover none))).eng := by
  exact w.predict _ (w.holdover s.eng s.newRecord h)

theorem EngineWalk.applySelection (s : State) (h : Q s.eng) : Q (applySelection s).eng := by
  unfold Machine.applySelection
  split
  · exact keeps_ite (P := fun s => Q s.eng) (fun _ => h) fun _ => w.enterState (w.acquire _ _ h)
  · next t _ =>
    refine keeps_ite (P := fun s => Q s.eng) (fun _ => h) fun _ => ?_
    split
    · exact keeps_ite (P := fun s => Q s.eng) (fun _ => w.enterState (w.recordC _ _ _ (w.follow s.eng t h)))
        fun _ => w.enterState (w.acquireInput _ _ _ rfl (w.recordC _ _ _ (w.acquire s.eng _ h)))
    · exact h
  · refine keeps_ite (P := fun s => Q s.eng) (fun _ => h) fun _ => ?_
    rw [enterHoldover_eq]
    exact w.enterState (w.holdoverEntry s h)
  · exact keeps_ite (P := fun s => Q s.eng) (fun _ => h) fun _ => w.enterState (w.freerun s.eng h)

theorem EngineWalk.selectSource (s : State) (h : Q s.eng) : Q (selectSource s).eng :=
  keeps_ite (P := fun s => Q s.eng) (fun _ => h) fun _ => w.applySelection s h

theorem EngineWalk.observationInput (y : Int) (s : State) (h : Q s.eng) : Q (s.observationInput y).eng := by
  unfold State.observationInput
  repeat' split
  · exact h
  · next hl => exact w.trackInput _ _ _ _ (.inl hl) (w.recordY y s h)
  · next ha => exact w.acquireInput _ _ _ ha.1 (w.recordY y s h)
  · exact h

theorem EngineWalk.disagreementCheck (s : State) (h : Q s.eng) : Q (disagreementCheck s).1.eng := by
  obtain e | ⟨hl, ⟨n, e⟩ | e⟩ := disagreementCheck_cases s <;> rw [e]
  · exact h
  · exact w.disagreed _ n hl h
  · rw [(raise_keeps _ _).2.2.2.1]
    exact w.disagreed _ 0 hl h

theorem EngineWalk.consensusInput (s : State) (h : Q s.eng) : Q (consensusInput s).eng := by
  unfold Machine.consensusInput
  split
  · split
    · dsimp only
      repeat' split
      · next ha => exact w.acquireInput _ _ _ ha (w.recordC _ _ s h)
      · next hf => exact w.trackInput _ _ _ _ (.inr hf) (w.recordC _ _ s h)
      · exact h
    · exact h
  · exact h

theorem EngineWalk.takeNudge (s : State) (h : Q s.eng) : Q (takeNudge s).eng := by
  refine keeps_ite (P := fun s => Q s.eng) (fun hh => ?_) fun _ => h
  rw [(setF_keeps _ _).2.2.2.1]
  split
  · exact w.nudged _ _ hh (w.recordC _ _ s h)
  · exact w.nudged _ _ hh h

theorem EngineWalk.pointInput (s : State) (h : Q s.eng) : Q s.pointInput.eng :=
  w.takeNudge _ (w.consensusInput _ (w.disagreementCheck s h))

theorem EngineWalk.enterFault (s : State) (h : Q s.eng) : Q (enterFault s).eng := by
  by_cases hf : s.eng.state = .fault
  · rwa [enterFault_of_fault hf]
  · rw [enterFault_eng hf]
    exact w.faulted _ h

theorem EngineWalk.engineBoundary (hb : b) (s : State) (h : Q s.eng) : Q (engineBoundary s).eng := by
  rw [engineBoundary_eq]
  have counted : Q s.engineCounted.eng := by
    have steered := w.steered hb s.eng (if (s.eng.state = .locked ∨ s.eng.state = .follow) ∧
      s.tsg.fSet.natAbs = 2000000 then s.eng.steerCount + 1 else 0) ?_ h
    · exact w.plain { s.eng with steerCount := _ } s.engineCounted.eng rfl rfl rfl rfl rfl rfl rfl rfl rfl rfl (.inl hb)
        steered
    split
    · next ht => exact .inr ht.1
    · exact .inl rfl
  refine w.exhaustionTest _ (w.recomputeU _ ?_)
  repeat' split
  · exact w.predict _ counted
  · exact counted
  · exact counted

theorem EngineWalk.restartEngine (s : State) (h : Q s.eng) : Q (restartEngine s).eng := by
  have fresh := w.unordered { s.eng with
      ring := [], lastY := none, lastC := none, inhibit := false, followedU := none, u := Config.saturatedU }
    (w.plain s.eng _ rfl rfl rfl rfl rfl rfl rfl rfl rfl rfl (.inr rfl) h)
  exact keeps_ite (P := fun s => Q s.eng) (fun _ => w.enterState (w.warmup _ fresh)) fun _ =>
    w.enterState (w.freerun _ fresh)

end

end Sys2Proof.Machine
end

section
/-! PROOF. The record's invariant (R99 to R135), and LOCKED and ACQUIRE on a trusted reference alone (R106, R116). -/

namespace Sys2Proof.Machine

/-! ### The record fits its state -/

theorem Engine.RecordFits.record_eq_none {e : Engine} (h : e.RecordFits) (hs : e.state ≠ .holdover) :
    e.record = none := Decidable.byContradiction fun hr => hs (h.record.mpr hr)

/-- An entry to a state without a stay, with the source it takes. -/
theorem Engine.entering_fits (e : Engine) {st : EngineState} {src : Option Source} (hlocked : st ≠ .locked)
    (hholdover : st ≠ .holdover) (follow : st = .follow → ∃ k, src = some (.tier k))
    (acquire : st = .acquire → src ≠ none) (other : st ≠ .follow → st ≠ .acquire → src = none) :
    (e.entering st src).RecordFits where
  locked h := absurd h hlocked
  follow := follow
  acquire := acquire
  sourceless _ := other
  record := by simp [entering, hholdover]
  nudge _ := ⟨rfl, rfl⟩
  lockCount _ := rfl
  tracking _ hf := ⟨rfl, by simp [entering] at hf ⊢; simp [hf]⟩
  disagree _ := rfl
  order h := by
    simp only [entering, Bool.and_eq_true, Bool.or_eq_true, decide_eq_true_eq] at h
    exact h.2

theorem recordFits_walk : EngineWalk Engine.RecordFits where
  plain e f state source record nudge lastPrediction lockCount largeCount steerCount disagree order _ h := by
    constructor <;> simp only [state, source, record, nudge, lastPrediction, lockCount, largeCount, steerCount,
      disagree, order]
    · exact h.locked
    · exact h.follow
    · exact h.acquire
    · exact h.sourceless
    · exact h.record
    · exact h.nudge
    · exact h.lockCount
    · exact h.tracking
    · exact h.disagree
    · exact h.order
  order e o stay h := { h with order := fun _ => stay }
  unordered e h := { h with order := fun ho => absurd ho (by simp) }
  predicted e p hp h := { h with
    nudge := fun hs => ⟨(h.nudge hs).1, (hp (h.record_eq_none hs)).trans (h.nudge hs).2⟩ }
  nudged e n hs h := { h with nudge := fun hn => absurd hs hn }
  counted e n hn h := { h with lockCount := fun hs => hn.resolve_right hs }
  locked e hs h := by
    have stay : e.locked.state = .locked ∨ e.locked.state = .follow := by
      unfold Engine.locked
      dsimp only
      split <;> simp
    have none_ : e.record = none := h.record_eq_none (by simp [hs])
    have nudge := h.nudge (by simp [hs])
    have disagree := h.disagree (by simp [hs])
    have order : e.exhaustionOrder = false := Bool.eq_false_iff.mpr fun ho => by simpa [hs] using h.order ho
    constructor
    · intro hl
      refine Decidable.byContradiction fun hn => ?_
      simp [Engine.locked, show e.source ≠ some .reference from hn] at hl
    · intro hf
      obtain ⟨src, hsrc⟩ := Option.ne_none_iff_exists'.mp (h.acquire hs)
      cases src with
      | reference => simp [Engine.locked, hsrc] at hf
      | tier k => exact ⟨k, hsrc⟩
    · intro ha
      simp [ha] at stay
    · intro hl hf
      exact absurd stay (not_or.mpr ⟨hl, hf⟩)
    · refine ⟨fun hh => ?_, fun hr => absurd none_ hr⟩
      simp [hh] at stay
    · exact fun _ => nudge
    · exact fun _ => rfl
    · exact fun _ _ => ⟨rfl, rfl⟩
    · exact fun _ => disagree
    · intro ho
      exact absurd ho (by simpa [Engine.locked] using order)
  large e n hs h := { h with tracking := fun hl hf => absurd hs (not_or.mpr ⟨hl, hf⟩) }
  steered _ e n hn h := { h with
    tracking := fun hl hf => ⟨(h.tracking hl hf).1, hn.resolve_right (not_or.mpr ⟨hl, hf⟩)⟩ }
  disagreed e n hs h := { h with disagree := fun hn => absurd hs hn }
  acquire e src _ := e.entering_fits (by simp) (by simp) (by simp) (by simp) (by simp)
  back e hs h := by
    refine e.entering_fits (by simp) (by simp) (by simp) (fun _ => ?_) (by simp)
    obtain hl | hf := hs
    · simp [h.locked hl]
    · obtain ⟨k, hk⟩ := h.follow hf
      simp [hk]
  follow e t _ := e.entering_fits (by simp) (by simp) (fun _ => ⟨t, rfl⟩) (by simp) (by simp)
  holdover e r _ := ⟨by simp [Engine.entering], by simp [Engine.entering], by simp [Engine.entering],
    fun _ _ _ => rfl, by simp [Engine.entering], fun hn => absurd rfl hn, fun _ => rfl,
    fun _ _ => ⟨rfl, by simp [Engine.entering]⟩, fun _ => rfl, fun _ => .inl rfl⟩
  freerun e _ := e.entering_fits (by simp) (by simp) (by simp) (by simp) (by simp)
  warmup e _ := e.entering_fits (by simp) (by simp) (by simp) (by simp) (by simp)
  faulted e _ := by constructor <;> simp [Engine.faulted]

/-- What the record satisfies after every operation of the engine, every command satisfies. -/
theorem EngineWalk.engineKept {Q : Engine → Prop} (w : EngineWalk Q) : EngineKept fun s => Q s.eng where
  declareLoss s _ h := keeps_ite (P := fun s => Q s.eng) (fun _ => h) fun _ => w.enterFault _ (by simpa using h)
  applySelection s _ := w.applySelection s
  takeObservation _ y s h := w.selectSource _ (w.observationInput y s h)
  takePoint _ s h := by
    by_cases hs : s.silent = true
    · rw [takePoint_of_silent hs]
      exact h
    · rw [takePoint_of_not_silent (by simpa using hs)]
      exact w.selectSource _ (w.pointInput s h)
  enterFault := w.enterFault
  engineBoundary := w.engineBoundary trivial
  setInhibit b s h := w.selectSource _ (w.plain s.eng _ rfl rfl rfl rfl rfl rfl rfl rfl rfl rfl (.inr rfl) h)
  enterQual q s h := w.selectSource _ h

theorem EngineWalk.reconfigured {Q : Engine → Prop} (w : EngineWalk Q) (p : Power) (c : Settings) (u : StatusUnit)
    (n : Nat) (s : State) (h : Q s.eng) : Q (reconfigured p c u n s).eng := by
  rw [(reconfigured_keeps p c u n s).2.2.2.1]
  exact w.plain s.eng _ rfl rfl rfl rfl rfl rfl rfl rfl rfl rfl (.inl trivial) h

theorem EngineWalk.restart {Q : Engine → Prop} (w : EngineWalk Q) (s : State) (h : Q s.eng) : Q (restart s).eng :=
  w.restartEngine _ (by simpa using h)

theorem EngineWalk.steady {Q : Engine → Prop} (w : EngineWalk Q) (reset : Q Engine.reset) : Steady fun s => Q s.eng where
  kept i := {
    toEngineKept := w.engineKept
    restart := fun _ s h => w.restart s h
    reconfigured := fun p c e n s _ _ _ h => w.reconfigured p c _ n s h }
  pending _ _ h := h
  reset _ _ _ _ _ := reset
  openSecond0 n b p s _ h := openSecond0_keeps_of w.engineKept n b p fun t _ _ _ _ he _ _ _ => he ▸ h

/-! ### The reference is trusted -/

/-- LOCKED is LOCKED on the reference. -/
def Engine.LockedOnReference (e : Engine) : Prop := e.state = .locked → e.source = some .reference

theorem lockedOnReference_walk : EngineWalk Engine.LockedOnReference where
  plain e f state source _ _ _ _ _ _ _ _ _ h := by
    unfold Engine.LockedOnReference
    rwa [state, source]
  order _ _ _ h := h
  unordered _ h := h
  predicted _ _ _ h := h
  nudged _ _ _ h := h
  counted _ _ _ h := h
  locked e _ _ hl := by
    refine Decidable.byContradiction fun hn => ?_
    simp [Engine.locked, show e.source ≠ some .reference from hn] at hl
  large _ _ _ h := h
  steered _ _ _ _ h := h
  disagreed _ _ _ h := h
  acquire _ _ _ hl := by cases hl
  back _ _ _ hl := by cases hl
  follow _ _ _ hl := by cases hl
  holdover _ _ _ hl := by cases hl
  freerun _ _ hl := by cases hl
  warmup _ _ hl := by cases hl
  faulted _ _ hl := by cases hl

end Sys2Proof.Machine

open Sys2Proof.Machine

/-- Settles O54: each operation leaves a record that fits the state it leaves. -/
theorem engineRecordFitsItsState : Obligations.EngineRecordFitsItsState :=
  fun _ _ => (recordFits_walk.steady (by constructor <;> simp [Engine.reset])).step

end

section
/-! PROOF. LOCKED and ACQUIRE on a trusted reference alone (R106, R116), and the outputs while a mute cause holds (R5 to
R8). -/

namespace Sys2Proof.Machine

/-! ### What entries and inputs make of the record -/

/-- What a state is in besides its blocks of record: an operation that keeps the state, the source and the inhibit. -/
def KeepsCourse (f : State → State) : Prop :=
  ∀ s, (f s).eng.state = s.eng.state ∧ (f s).eng.source = s.eng.source ∧ (f s).eng.inhibit = s.eng.inhibit

/-- An entry ends with the record that its own acts leave, its U and the exhaustion order (R107, R131, R134). -/
theorem enterState_eng (st : EngineState) (src : Option Source) (f : State → State) (s : State) :
    ∃ o, (enterState st src f s).eng = { (f (s.withEng (s.eng.entering st src))).eng with
      u := (f (s.withEng (s.eng.entering st src))).uncertainty, exhaustionOrder := o } := by
  obtain ⟨o, e, -⟩ := exhaustionTest_eng (recomputeU (f (s.withEng (s.eng.entering st src))))
  exact ⟨o, by rw [enterState_eq, announce_eng, e, recomputeU_eng]⟩

theorem enterState_course {f : State → State} (hf : KeepsCourse f) (st : EngineState) (src : Option Source)
    (s : State) : (enterState st src f s).eng.state = st ∧ (enterState st src f s).eng.source = src ∧
      (enterState st src f s).eng.inhibit = s.eng.inhibit := by
  obtain ⟨o, e⟩ := enterState_eng st src f s
  rw [e]
  exact hf _

theorem setIntegralF_course : KeepsCourse setIntegralF := fun _ => ⟨rfl, rfl, rfl⟩

theorem enterAcquireReference_course (s : State) : (enterAcquireReference s).eng.state = .acquire ∧
    (enterAcquireReference s).eng.source = some .reference ∧
    (enterAcquireReference s).eng.inhibit = s.eng.inhibit := enterState_course setIntegralF_course ..

/-- The acts of an entry to FOLLOW (R107). -/
def followEntry (t : Tier) (c : Consensus) (s : State) : State := recordC c t (setIntegralF s)

theorem enterFollow_eq (t : Tier) (c : Consensus) (s : State) :
    enterFollow t c s = enterState .follow (some (.tier t)) (followEntry t c) s := rfl

theorem enterFollow_course (t : Tier) (c : Consensus) (s : State) : (enterFollow t c s).eng.state = .follow ∧
    (enterFollow t c s).eng.source = some (.tier t) ∧ (enterFollow t c s).eng.inhibit = s.eng.inhibit := by
  rw [enterFollow_eq]
  exact enterState_course (f := followEntry t c) (fun _ => ⟨rfl, rfl, rfl⟩) ..

theorem enterHoldover_course (s : State) : (enterHoldover s).eng.state = .holdover ∧
    (enterHoldover s).eng.source = none ∧ (enterHoldover s).eng.inhibit = s.eng.inhibit := by
  rw [enterHoldover_eq]
  refine enterState_course (fun t => ?_) ..
  obtain ⟨p, e, -⟩ := predict_eng (t.withEng { t.eng with record := some s.newRecord })
  rw [holdoverEntry, e]
  exact ⟨rfl, rfl, rfl⟩

/-- The act of an entry to FREERUN (R130). -/
def freerunEntry (s : State) : State := setF (freeRunF s) s

theorem enterFreerun_eq (s : State) : enterFreerun s = enterState .freerun none freerunEntry s := rfl

theorem enterFreerun_course (s : State) : (enterFreerun s).eng.state = .freerun ∧
    (enterFreerun s).eng.source = none ∧ (enterFreerun s).eng.inhibit = s.eng.inhibit := by
  rw [enterFreerun_eq]
  exact enterState_course (f := freerunEntry) (fun _ => ⟨rfl, rfl, rfl⟩) ..

/-! An input in ACQUIRE (R113, R115). -/

theorem acquireInput_of_large {y : Int} {s : State} (period : Nat) (h : s.cfg.stepThreshold < y.natAbs) :
    acquireInput y period s = requestStep y (s.withEng { s.eng with lockCount := 0 }) := if_pos h

/-- The lock counter that an input leaves (R115). -/
def State.lockCountAfter (s : State) (y : Int) : Nat :=
  if y.natAbs ≤ s.cfg.lockThreshold then s.eng.lockCount + 1 else 0

theorem loopUpdate_eng (y : Int) (period tau : Nat) (s : State) : (loopUpdate y period tau s).eng = { s.eng with
    pt := roundDiv (2000 * y) tau
    integral := clampAbs 2000000000000 (s.eng.integral + roundDiv (1000000000 * y * period) (tau * tau)) } := by
  simp [loopUpdate, Config.limitI]

theorem acquireInput_of_small {y : Int} {s : State} (period : Nat) (h : y.natAbs ≤ s.cfg.stepThreshold) :
    acquireInput y period s = if 4 ≤ s.lockCountAfter y then lockAchieved (loopUpdate y period 64 s)
      else (loopUpdate y period 64 s).withEng
        { (loopUpdate y period 64 s).eng with lockCount := s.lockCountAfter y } := by
  have count : (loopUpdate y period 64 s).eng.lockCount = s.eng.lockCount := by rw [loopUpdate_eng]
  have cfg : (loopUpdate y period 64 s).cfg = s.cfg := by simp
  refine (if_neg (Nat.not_lt.mpr h)).trans ?_
  simp only [Config.tauAcq, count, cfg, State.lockCountAfter]
  rfl

theorem lockAchieved_eng (s : State) : (lockAchieved s).eng = { s.eng.locked with
    u := (s.withEng s.eng.locked).uncertainty } := by
  rw [lockAchieved_eq, announce_eng]
  rfl

theorem acquireInput_source (y : Int) (period : Nat) (s : State) :
    (acquireInput y period s).eng.source = s.eng.source := by
  obtain h | h := Nat.lt_or_ge s.cfg.stepThreshold y.natAbs
  · rw [acquireInput_of_large period h]
    simp
  · rw [acquireInput_of_small period h]
    split
    · rw [lockAchieved_eng, loopUpdate_eng]
      rfl
    · rw [loopUpdate_eng]
      rfl

/-- The acts of an entry to ACQUIRE on a tier (R107, R114). -/
def tierEntry (t : Tier) (c : Consensus) (s : State) : State :=
  acquireInput (saturateInput c.value) s.cfg.pointInterval (followEntry t c s)

theorem enterAcquireTier_eq (t : Tier) (c : Consensus) (s : State) :
    enterAcquireTier t c s = enterState .acquire (some (.tier t)) (tierEntry t c) s := rfl

theorem enterAcquireTier_source (t : Tier) (c : Consensus) (s : State) :
    (enterAcquireTier t c s).eng.source = some (.tier t) := by
  obtain ⟨o, e⟩ := enterState_eng .acquire (some (.tier t)) (tierEntry t c) s
  rw [enterAcquireTier_eq, e]
  exact acquireInput_source ..

/-! ### What a selection selects -/

theorem State.selected_reference_iff {s : State} :
    s.selected = .source .reference ↔ s.mon.qual = .qualified ∧ s.eng.inhibit = false := by
  refine ⟨fun h => Decidable.byContradiction fun unusable => ?_, State.selected_of_reference⟩
  rw [State.selected, if_neg unusable] at h
  (repeat' split at h) <;> simp at h

/-- A tier is selected for its consensus. -/
theorem State.consensus_of_selected {s : State} {t : Tier} (h : s.selected = .source (.tier t)) :
    ∃ c, (s.ptu.tier t).consensus = some c := by
  unfold State.selected at h
  split at h
  · cases h
  split at h
  · next one =>
    cases h
    exact Option.isSome_iff_exists.mp one
  split at h
  · cases h
  split at h
  · next two =>
    cases h
    exact Option.isSome_iff_exists.mp two
  · cases h

/-! ### Trust -/

/-- LOCKED, and ACQUIRE on the reference, with the record `e` and the reference in state `q`. -/
def Trusts (e : Engine) (q : Qualification) : Prop :=
  e.LockedOnReference ∧ ((e.state = .locked ∨ e.state = .acquire) → e.source = some .reference →
    q = .qualified ∧ e.inhibit = false)

theorem State.referenceTrusted_iff (s : State) : s.ReferenceTrusted ↔ Trusts s.eng s.mon.qual :=
  ⟨fun h => ⟨h.locked, h.trusted⟩, fun h => ⟨h.1, h.2⟩⟩

theorem trusts_of_state {e : Engine} (q : Qualification) (hl : e.state ≠ .locked) (ha : e.state ≠ .acquire) :
    Trusts e q := ⟨fun h => absurd h hl, fun h => absurd h (not_or.mpr ⟨hl, ha⟩)⟩

theorem trusts_of_source {e : Engine} (q : Qualification) (h : e.LockedOnReference)
    (hs : e.source ≠ some .reference) : Trusts e q := ⟨h, fun _ hr => absurd hr hs⟩

/-- A selection leaves the engine on the reference only where it selected it (R106, R107). -/
theorem applySelection_trusts {s : State} (h : s.eng.LockedOnReference) :
    Trusts (applySelection s).eng s.mon.qual := by
  have entered : (applySelection s).eng.LockedOnReference := lockedOnReference_walk.applySelection s h
  unfold applySelection at entered ⊢
  split at entered
  · next hsel =>
    have usable := State.selected_reference_iff.mp hsel
    split
    · exact ⟨h, fun _ _ => usable⟩
    · refine ⟨fun hl => ?_, fun _ _ => ?_⟩
      · rw [(enterAcquireReference_course s).1] at hl
        cases hl
      · rw [(enterAcquireReference_course s).2.2]
        exact usable
  · next t hsel =>
    obtain ⟨c, hc⟩ := State.consensus_of_selected hsel
    rw [hc] at entered ⊢
    dsimp only at entered ⊢
    repeat' split
    · next hon =>
      refine trusts_of_source _ h fun hr => ?_
      simp [State.onSource, hr] at hon
    · exact trusts_of_state _ (by simp [enterFollow_course]) (by simp [enterFollow_course])
    · next hon hsmall =>
      rw [if_neg hon, if_neg hsmall] at entered
      exact trusts_of_source _ entered (by simp [enterAcquireTier_source])
  · split
    · next hs => exact trusts_of_state _ (by simp [hs]) (by simp [hs])
    · exact trusts_of_state _ (by simp [enterHoldover_course]) (by simp [enterHoldover_course])
  · split
    · next hs => exact trusts_of_state _ (by simp [hs]) (by simp [hs])
    · exact trusts_of_state _ (by simp [enterFreerun_course]) (by simp [enterFreerun_course])

theorem selectSource_trusts {s : State} (h : s.eng.LockedOnReference) : Trusts (selectSource s).eng s.mon.qual := by
  unfold selectSource
  split
  · next hs =>
    simp only [State.silent, Bool.or_eq_true, decide_eq_true_eq] at hs
    exact trusts_of_state _ (by rintro e; simp [e] at hs) (by rintro e; simp [e] at hs)
  · exact applySelection_trusts h

@[simp] theorem observationInput_mon (y : Int) (s : State) : (s.observationInput y).mon = s.mon := by
  unfold State.observationInput
  (repeat' split) <;> simp

@[simp] theorem pointInput_mon (s : State) : s.pointInput.mon = s.mon := by simp [State.pointInput]

theorem engineBoundary_course (s : State) : (engineBoundary s).eng.source = s.eng.source ∧
    (engineBoundary s).eng.inhibit = s.eng.inhibit := by
  rw [engineBoundary_eq]
  obtain ⟨o, ho, -⟩ := exhaustionTest_eng (recomputeU (if s.eng.state = .holdover then predict s.engineCounted
      else if s.eng.state = .freerun then setF (freeRunF s.engineCounted) s.engineCounted else s.engineCounted))
  rw [ho, recomputeU_eng]
  dsimp only
  repeat' split
  · obtain ⟨p, hp, -⟩ := predict_eng s.engineCounted
    rw [hp]
    exact ⟨rfl, rfl⟩
  · exact ⟨rfl, rfl⟩
  · exact ⟨rfl, rfl⟩

theorem openBoundary_qual (s : State) : (openBoundary s).mon.qual = s.mon.qual := by
  unfold openBoundary reachBoundary
  dsimp only
  split <;> simp

/-- RESTART ends in WARMUP or in FREERUN (R122). -/
theorem restartEngine_state (s : State) :
    (restartEngine s).eng.state = .warmup ∨ (restartEngine s).eng.state = .freerun := by
  unfold restartEngine
  dsimp only
  split
  · exact .inl (enterState_course (f := id) (fun _ => ⟨rfl, rfl, rfl⟩) ..).1
  · exact .inr (enterFreerun_course _).1

/-- RESTART up to the engine: flags, bus, slot, monitor and peers (R164). -/
def State.restarting (s : State) : State :=
  ((abortSlot ((s.withScu { s.scu with raised := 0, cause := .none }).withBus s.bus.restarted)).withMon
    Monitor.reset).withPtu PeerUnit.reset

theorem restart_eq (s : State) : restart s =
    (restartEngine s.restarting).withLrn (restartEngine s.restarting).lrn.restarted := rfl

theorem restart_state (s : State) : (restart s).eng.state = .warmup ∨ (restart s).eng.state = .freerun :=
  restartEngine_state s.restarting

theorem enterFault_trusts (s : State) (q : Qualification) : Trusts (enterFault s).eng q :=
  trusts_of_state _ (by simp) (by simp)

theorem trusts_engineKept : EngineKept fun s => Trusts s.eng s.mon.qual where
  declareLoss s _ h := keeps_ite (P := fun s => Trusts s.eng s.mon.qual) (fun _ => h) fun _ => enterFault_trusts _ _
  applySelection s _ h := by
    rw [(applySelection_keeps s).1]
    exact applySelection_trusts h.1
  takeObservation _ y s h := by
    have selected := selectSource_trusts (lockedOnReference_walk.observationInput y s h.1)
    rw [observationInput_mon] at selected
    rw [(takeObservation_keeps y s).1]
    exact selected
  takePoint _ s h := by
    by_cases hs : s.silent = true
    · rw [takePoint_of_silent hs]
      exact h
    · have selected := selectSource_trusts (lockedOnReference_walk.pointInput s h.1)
      rw [takePoint_of_not_silent (by simpa using hs)]
      simpa using selected
  enterFault s _ := enterFault_trusts _ _
  engineBoundary s h := by
    unfold Trusts Engine.LockedOnReference at h ⊢
    rw [engineBoundary_state, (engineBoundary_course s).1, (engineBoundary_course s).2, (engineBoundary_keeps s).1]
    exact h
  setInhibit b s h := by
    have selected := selectSource_trusts (s := s.withEng { s.eng with inhibit := b }) h.1
    rw [(setInhibit_keeps b s).1]
    exact selected
  enterQual q s h := by
    have selected := selectSource_trusts (s := s.withMon (s.mon.entered s.cfg q)) h.1
    unfold enterQual
    rw [(selectSource_keeps _).1]
    exact selected

theorem trusts_steady : Steady fun s => Trusts s.eng s.mon.qual where
  kept i := {
    toEngineKept := trusts_engineKept
    openBoundary := fun _ s h => by
      rw [openBoundary_qual, (openBoundary_keeps s).2.2.1]
      exact h
    mon := fun m s c h => by
      rw [State.withMon_mon, c.qual]
      exact h
    restart := fun _ s _ => by
      obtain e | e := restart_state s
      · exact trusts_of_state _ (by simp [e]) (by simp [e])
      · exact trusts_of_state _ (by simp [e]) (by simp [e])
    reconfigured := fun p c e w s _ _ _ h => by
      rw [(reconfigured_keeps ..).1, (reconfigured_keeps ..).2.2.2.1]
      exact h }
  pending _ _ h := h
  reset _ _ _ _ _ := trusts_of_state (e := Engine.reset) _ (by decide) (by decide)
  openSecond0 n b p s _ h := openSecond0_keeps_of trusts_engineKept n b p fun t _ hm _ _ he _ _ _ => by rwa [hm, he]

/-! ### The outputs while a mute cause holds -/

/-- A mute cause by what it is made of (R8). -/
def muteOf (power : PowerState) (engine : EngineState) (order : Bool) : Bool :=
  power = .load || engine = .warmup || engine = .fault || order

/-- The outputs are low where a mute cause says so (R8). -/
def OutputsObey (mute : Bool) (mode : AuxMode) (running pps aux : Bool) : Prop :=
  mute = true → running = false ∧ pps = false ∧ (mode = .ppsCopy → aux = false)

theorem State.muteObeyed_iff (s : State) : s.MuteObeyed ↔
    OutputsObey (muteOf s.pwr.state s.eng.state s.eng.exhaustionOrder) s.cfg.auxMode s.tsg.outputsRunning
      s.tsg.ppsOut s.tsg.auxOut := Iff.rfl

theorem refreshOutputs_muteObeyed (s : State) : (refreshOutputs s).MuteObeyed := by
  intro hm
  have hm' : s.muteCause = true := hm
  refine ⟨by simp [refreshOutputs, hm'], by simp [refreshOutputs, hm'], fun ha => ?_⟩
  have ha' : s.cfg.auxMode = .ppsCopy := ha
  simp [refreshOutputs, hm', ha']

theorem boundaryOutputs_muteObeyed (s : State) : (boundaryOutputs s).MuteObeyed := by
  intro hm
  have hm' : s.muteCause = true := hm
  refine ⟨by simp [boundaryOutputs, hm'], by simp [boundaryOutputs, hm'], fun ha => ?_⟩
  have ha' : s.cfg.auxMode = .ppsCopy := ha
  simp [boundaryOutputs, hm', ha']

@[simp] theorem requestStep_outputs (y : Int) (s : State) :
    (requestStep y s).tsg.outputsRunning = s.tsg.outputsRunning ∧ (requestStep y s).tsg.ppsOut = s.tsg.ppsOut ∧
      (requestStep y s).tsg.auxOut = s.tsg.auxOut := by
  obtain e | ⟨-, ⟨d, -, e⟩ | ⟨d, e⟩⟩ := requestStep_cases y s <;> rw [e]
  · exact ⟨rfl, rfl, rfl⟩
  · simp [takeCommitted]
  · exact ⟨rfl, rfl, rfl⟩

@[simp] theorem acceptAdjust_outputs (k : AdjustKind) (a : Int) (d : Nat) (st : Stamp) (s : State) :
    (acceptAdjust k a d st s).tsg.outputsRunning = s.tsg.outputsRunning ∧
      (acceptAdjust k a d st s).tsg.ppsOut = s.tsg.ppsOut ∧ (acceptAdjust k a d st s).tsg.auxOut = s.tsg.auxOut := by
  unfold acceptAdjust
  dsimp only
  split
  · simp [takeCommitted]
  · exact ⟨rfl, rfl, rfl⟩

@[simp] theorem abortSlot_outputs (s : State) :
    (abortSlot s).tsg.outputsRunning = s.tsg.outputsRunning ∧ (abortSlot s).tsg.ppsOut = s.tsg.ppsOut ∧
      (abortSlot s).tsg.auxOut = s.tsg.auxOut := by
  unfold abortSlot
  dsimp only
  split
  · exact ⟨rfl, rfl, rfl⟩
  · split <;> exact ⟨rfl, rfl, rfl⟩

@[simp] theorem latch_outputs (s : State) : (latch s).tsg.outputsRunning = s.tsg.outputsRunning ∧
    (latch s).tsg.ppsOut = s.tsg.ppsOut ∧ (latch s).tsg.auxOut = s.tsg.auxOut := by
  simp [latch]

@[simp] theorem commitDue_outputs (s : State) : (commitDue s).tsg.outputsRunning = s.tsg.outputsRunning ∧
    (commitDue s).tsg.ppsOut = s.tsg.ppsOut ∧ (commitDue s).tsg.auxOut = s.tsg.auxOut := by
  obtain e | ⟨r, -, e⟩ := commitDue_cases s <;> rw [e] <;> exact ⟨rfl, rfl, rfl⟩

/-- The outputs' rule on the state's parts. -/
def State.OutputsObeyed (s : State) : Prop :=
  OutputsObey (muteOf s.pwr.state s.eng.state s.eng.exhaustionOrder) s.cfg.auxMode s.tsg.outputsRunning s.tsg.ppsOut
    s.tsg.auxOut

/-- After the outputs have followed the mute state, only their record changes no more (R103). -/
theorem announce_muteObeyed (old : EngineState) (s : State) : (announce old s).OutputsObeyed := by
  have followed : (refreshOutputs s).OutputsObeyed := refreshOutputs_muteObeyed s
  unfold announce State.OutputsObeyed at *
  dsimp only
  (repeat' split) <;> simpa using followed

theorem exhaustionTest_muteObeyed {s : State} (h : s.OutputsObeyed) : (exhaustionTest s).OutputsObeyed := by
  unfold exhaustionTest
  split
  · have raised : (raise .holdExhausted s).OutputsObeyed := by simpa [State.OutputsObeyed] using h
    exact keeps_ite (P := State.OutputsObeyed) (fun _ => refreshOutputs_muteObeyed _) fun _ => raised
  · exact h

theorem mute_course : Course State.OutputsObeyed where
  eng e s m h := by
    unfold State.OutputsObeyed
    rw [State.withEng_eng, m.state, m.order]
    exact h
  mon := by simp +contextual [State.OutputsObeyed]
  setF := by simp +contextual [State.OutputsObeyed]
  raise := by simp +contextual [State.OutputsObeyed]
  offerStatus := by simp +contextual [State.OutputsObeyed]
  requestStep := by simp +contextual [State.OutputsObeyed]
  learnOffer := by simp +contextual [State.OutputsObeyed]
  abortSlot := by simp +contextual [State.OutputsObeyed]
  loss := by simp +contextual [State.OutputsObeyed]
  exhaustionTest _ := exhaustionTest_muteObeyed
  enterState _ _ _ _ _ _ _ := announce_muteObeyed _ _
  lockAchieved s _ := announce_muteObeyed _ _
  enterFault s h := keeps_ite (fun _ => h) fun _ => announce_muteObeyed _ _
  restartEngine s _ := keeps_ite (P := State.OutputsObeyed) (fun _ => announce_muteObeyed _ _) fun _ => announce_muteObeyed _ _

theorem openBoundary_muteObeyed (s : State) : (openBoundary s).OutputsObeyed := by
  have followed : (boundaryOutputs (reachBoundary s)).OutputsObeyed := boundaryOutputs_muteObeyed _
  unfold State.OutputsObeyed at *
  simpa [openBoundary] using followed

theorem mute_steady : Steady State.OutputsObeyed where
  kept i := {
    toEngineKept := mute_course.engineKept
    clock := fun t g s h => h
    returning := fun s _ h => h
    openBoundary := fun _ s _ => openBoundary_muteObeyed s
    latch := by simp +contextual [State.OutputsObeyed]
    endPulse := fun s h hm => by
      obtain ⟨running, pps, aux⟩ := h (by simpa using hm)
      refine ⟨by simpa [endPulse] using running, rfl, fun ha => ?_⟩
      have ha' : s.cfg.auxMode = .ppsCopy := ha
      simp [endPulse, ha']
    acceptAdjust := by simp +contextual [State.OutputsObeyed]
    status := fun _ _ _ h => h
    clearFlags := fun _ _ _ h => h
    restart := fun _ => mute_course.restart (fun _ _ h => h) (fun _ _ _ h => h) (fun _ h => h) fun _ h => h
    mon := fun _ _ _ h => h
    ptu := fun _ _ _ h => h
    bus := fun _ _ _ h => h
    lrn := fun _ _ _ h => h
    sample := fun _ _ _ _ _ _ h => h
    takeAgingSample := by simp +contextual [State.OutputsObeyed]
    clearLearning := by simp +contextual [State.OutputsObeyed]
    putLearning := by simp +contextual [State.OutputsObeyed]
    landPage := by simp +contextual [State.OutputsObeyed]
    pwr := fun p s m h => by
      unfold State.OutputsObeyed
      rw [State.withPwr_pwr, m.state]
      exact h
    reconfigured := fun _ _ _ _ _ _ _ _ _ => refreshOutputs_muteObeyed _ }
  pending _ _ h := h
  reset _ _ _ _ _ _ := ⟨rfl, rfl, fun _ => rfl⟩
  openSecond0 n b p s _ h := by
    obtain ⟨t, e | e, ht, -⟩ := openSecond0_eq n b p s <;> rw [e]
    · intro _
      rw [ht]
      exact ⟨rfl, rfl, fun _ => rfl⟩
    · refine mute_course.enterFault _ (mute_course.raise _ _ fun _ => ?_)
      rw [ht]
      exact ⟨rfl, rfl, fun _ => rfl⟩

end Sys2Proof.Machine

open Sys2Proof.Machine

/-- Settles O48: what changes a mute cause ends with the outputs following it. -/
theorem muteStaysObeyed : Obligations.MuteStaysObeyed := fun _ _ => mute_steady.step

/-- Settles O53: a selection leaves the engine on the reference only where the reference is what it selects. -/
theorem lockedOnlyOnTrustedReference : Obligations.LockedOnlyOnTrustedReference := by
  intro s t h e
  rw [State.referenceTrusted_iff] at h ⊢
  exact trusts_steady.step h e

end

section
/-! PROOF. The temperature table: learning as the one operation of the engine that changes it (R142 to R144). -/

namespace Sys2Proof.Machine

/-! ### What the engine's operations leave of the Learning Unit -/

/-- A loop update ends with its offer to the table (R111, R144). -/
theorem loopUpdate_offers (y : Int) (period tau : Nat) (s : State) : ∃ (v : Int) (u : State),
    loopUpdate y period tau s = learnOffer v u ∧ u.lrn = s.lrn ∧ u.learningAllowed = s.learningAllowed :=
  ⟨_, _, rfl, by simp, by simp [State.learningAllowed]⟩

/-- A loop update outside the class of R143 learns nothing. -/
theorem loopUpdate_lrn {s : State} (h : s.learningAllowed = false) (y : Int) (period tau : Nat) :
    (loopUpdate y period tau s).lrn = s.lrn := by
  obtain ⟨v, u, e, lrn, allowed⟩ := loopUpdate_offers y period tau s
  rw [e, learnOffer, allowed, h, ← lrn]
  rfl

theorem enterState_lrn (st : EngineState) (src : Option Source) (f : State → State) (s : State) :
    (enterState st src f s).lrn = (f (s.withEng (s.eng.entering st src))).lrn := by
  rw [enterState_eq]
  simp

theorem learningAllowed_of_acquire {s : State} (h : s.eng.state = .acquire) : s.learningAllowed = false := by
  simp [State.learningAllowed, h]

/-- An input in ACQUIRE learns nothing (R143). -/
theorem acquireInput_lrn {s : State} (h : s.eng.state = .acquire) (y : Int) (period : Nat) :
    (acquireInput y period s).lrn = s.lrn := by
  obtain hy | hy := Nat.lt_or_ge s.cfg.stepThreshold y.natAbs
  · rw [acquireInput_of_large period hy]
    simp
  · have updated := loopUpdate_lrn (learningAllowed_of_acquire h) y period 64
    rw [acquireInput_of_small period hy]
    split
    · rw [(lockAchieved_keeps _).2.2.1, updated]
    · exact updated

/-- A selection learns nothing: its first input comes in ACQUIRE. -/
@[simp] theorem applySelection_lrn (s : State) : (applySelection s).lrn = s.lrn := by
  unfold applySelection
  split
  · split
    · rfl
    · exact enterState_lrn ..
  · split
    · rfl
    · split
      · split
        · exact enterState_lrn ..
        · rw [enterAcquireTier_eq, enterState_lrn]
          exact acquireInput_lrn rfl ..
      · rfl
  · split <;> simp
  · split <;> simp

@[simp] theorem selectSource_lrn (s : State) : (selectSource s).lrn = s.lrn := by
  unfold selectSource
  split <;> simp

@[simp] theorem enterQual_lrn (q : Qualification) (s : State) : (enterQual q s).lrn = s.lrn := by
  simp [enterQual]

@[simp] theorem orderDisqualification_lrn (s : State) : (orderDisqualification s).lrn = s.lrn := by
  obtain e | e := orderDisqualification_eq s <;> rw [e]
  simp

/-- The first input after an entry to ACQUIRE on a tier does not lock on the reference (R115). -/
theorem enterAcquireTier_not_locked (t : Tier) (c : Consensus) (s : State) :
    (enterAcquireTier t c s).eng.state ≠ .locked := fun h => by
  have entered : (enterAcquireTier t c s).eng.LockedOnReference :=
    lockedOnReference_walk.enterState (src := some (.tier t)) (f := tierEntry t c)
      (lockedOnReference_walk.acquireInput _ _ _ rfl
        (lockedOnReference_walk.recordC _ _ _ fun hl => by cases hl))
  simpa [enterAcquireTier_source] using entered h

/-- A selection leads to LOCKED from LOCKED alone: it enters no other state than ACQUIRE, FOLLOW, HOLDOVER and
FREERUN (R107). -/
theorem applySelection_locked {s : State} (h : (applySelection s).eng.state = .locked) : s.eng.state = .locked := by
  unfold applySelection at h
  split at h
  · split at h
    · exact h
    · simp [enterAcquireReference_course] at h
  · split at h
    · exact h
    · split at h
      · split at h
        · simp [enterFollow_course] at h
        · exact absurd h (enterAcquireTier_not_locked _ _ s)
      · exact h
  · split at h
    · exact h
    · simp [enterHoldover_course] at h
  · split at h
    · exact h
    · simp [enterFreerun_course] at h

theorem selectSource_locked {s : State} (h : (selectSource s).eng.state = .locked) : s.eng.state = .locked := by
  unfold selectSource at h
  split at h
  · exact h
  · exact applySelection_locked h

/-! ### Learning -/

/-- The table is that of `s`, or one update of the current bin was made in the class of R143 (R144). -/
def Learned (s t : State) : Prop :=
  t.lrn.table = s.lrn.table ∨ s.learningAllowed = true ∧
    ∃ b v, s.lrn.currentBin = some b ∧ t.lrn.table = s.lrn.table.set b (s.lrn.table[b].update v)

theorem Learned.congr {s t s' t' : State} (h : Learned s t) (lrn : s.lrn = s'.lrn)
    (allowed : s.learningAllowed = true → s'.learningAllowed = true) (table : t'.lrn.table = t.lrn.table) :
    Learned s' t' := by
  obtain e | ⟨ha, b, v, hb, e⟩ := h
  · exact .inl (by rw [table, e, lrn])
  · exact .inr ⟨allowed ha, b, v, lrn ▸ hb, by rw [table, e, lrn]⟩

/-- A recorded input moves nothing that learning looks at. -/
theorem Learned.of_recorded {s u t : State} (h : Learned u t) (lrn : u.lrn = s.lrn)
    (state : u.eng.state = s.eng.state) (source : u.eng.source = s.eng.source) : Learned s t :=
  h.congr lrn (by simp [State.learningAllowed, state, source, lrn]) rfl

theorem loopUpdate_learned (y : Int) (period tau : Nat) (s : State) : Learned s (loopUpdate y period tau s) := by
  obtain ⟨v, u, e, lrn, allowed⟩ := loopUpdate_offers y period tau s
  rw [e]
  refine Learned.congr (s := u) (t := learnOffer v u) ?_ lrn (allowed ▸ id) rfl
  obtain e | ⟨ha, b, hb, e⟩ := learnOffer_cases v u <;> rw [e]
  · exact .inl rfl
  · exact .inr ⟨ha, b, v, hb, rfl⟩

/-- An input in LOCKED or FOLLOW is one update, or the first input in ACQUIRE (R116). -/
theorem trackInput_learned (y : Int) (period tau : Nat) (s : State) : Learned s (trackInput y period tau s) := by
  refine keeps_ite (P := Learned s) (fun _ => .inl ?_) fun _ => ?_
  · rw [acquireInput_lrn (enterState_state (f := setIntegralF) (fun _ => rfl) .acquire s.eng.source s),
      enterState_lrn]
    rfl
  · have updated := fun n => (loopUpdate_learned y period tau (s.withEng { s.eng with largeCount := n })).congr
      (s' := s) (t' := loopUpdate y period tau (s.withEng { s.eng with largeCount := n })) rfl id rfl
    exact keeps_ite (P := Learned s) (fun _ => updated _) fun _ => updated _

/-- An observation is learned in LOCKED alone (R109, R143). -/
theorem takeObservation_learned (y : Int) (s : State) : Learned s (takeObservation y s) := by
  rw [takeObservation_eq]
  refine Learned.congr (t := s.observationInput y) ?_ rfl id (by simp)
  unfold State.observationInput
  repeat' split
  · exact .inl rfl
  · exact (trackInput_learned _ _ _ (recordY y s)).of_recorded (by simp) rfl rfl
  · next acquire =>
    rw [Learned, acquireInput_lrn (s := recordY y s) acquire.1]
    exact .inl rfl
  · exact .inl rfl

/-- What a consensus is at a point (R110): nothing, an input in ACQUIRE, or one in FOLLOW. -/
theorem consensusInput_cases (s : State) : consensusInput s = s ∨ ∃ t c, s.eng.source = some (.tier t) ∧
    (s.ptu.tier t).consensus = some c ∧
    (s.eng.state = .acquire ∧
        consensusInput s = acquireInput (saturateInput c.value) s.cfg.pointInterval (recordC c t s) ∨
      s.eng.state = .follow ∧ consensusInput s =
        trackInput (saturateInput c.value) s.cfg.pointInterval s.cfg.tauFollow (recordC c t s)) := by
  unfold consensusInput
  split
  · next t ht =>
    split
    · next c hc =>
      dsimp only
      repeat' split
      · next acquire => exact .inr ⟨t, c, ht, hc, .inl ⟨acquire, rfl⟩⟩
      · next follow => exact .inr ⟨t, c, ht, hc, .inr ⟨follow, rfl⟩⟩
      · exact .inl rfl
    · exact .inl rfl
  · exact .inl rfl

theorem consensusInput_learned (s : State) : Learned s (consensusInput s) := by
  obtain e | ⟨t, c, -, -, ⟨acquire, e⟩ | ⟨-, e⟩⟩ := consensusInput_cases s <;> rw [e]
  · exact .inl rfl
  · rw [Learned, acquireInput_lrn (s := recordC c t s) acquire]
    exact .inl rfl
  · exact (trackInput_learned _ _ _ (recordC c t s)).of_recorded (by simp) rfl rfl

/-- A consensus is learned in FOLLOW on tier 1 alone (R110, R143). -/
theorem takePoint_learned (s : State) : Learned s (takePoint s).1 := by
  cases hs : s.silent with
  | true => rw [takePoint_of_silent hs]; exact .inl rfl
  | false =>
    rw [takePoint_of_not_silent hs]
    refine (consensusInput_learned (disagreementCheck s).1).congr (by simp) (fun h => ?_) (by simp [State.pointInput])
    obtain e | ⟨-, ⟨n, e⟩ | e⟩ := disagreementCheck_cases s <;> rw [e] at h
    · exact h
    · exact h
    · simpa [State.learningAllowed] using h

/-! ### Operations that hand the engine no input keep the table -/

/-- A predicate of the table, kept by whatever brings the engine no input, no clearing and no restoration (R142). -/
theorem table_kept {i : Instr} (D : Vector Bin 64 → Prop) (hl : ∀ a, i ≠ .learningBlockRead a)
    (hc : carries i 14 = false) : Kept i (fun s => D s.lrn.table) False where
  takeObservation h := h.elim
  takePoint h := h.elim
  enterFault s h := by
    by_cases hf : s.eng.state = .fault
    · rwa [enterFault_of_fault hf]
    · simpa using h
  setInhibit b s h := by simpa [setInhibit] using h
  restart _ s h := by
    rw [restart_eq]
    simpa [State.restarting, Learning.restarted] using h
  lrn l s m h := by rwa [State.withLrn_lrn, m.table]
  sample _ l s t _ _ h := by rwa [State.withLrn_lrn, t]
  takeAgingSample s h := by
    obtain ⟨a, r, e, -⟩ := takeAgingSample_eq s
    rw [e]
    exact h
  clearLearning h := absurd h (by rw [hc]; decide)
  putLearning h := h.elim fun a e => absurd e (hl a)

/-! ### Commands that hand the engine an observation -/

/-- Between `s` and `u` nothing was learned, and LOCKED was not entered. -/
structure Before (s u : State) : Prop where
  lrn : u.lrn = s.lrn
  locked : u.eng.state = .locked → s.eng.state = .locked

theorem Before.trans {s u t : State} (h : Before s u) (h' : Before u t) : Before s t :=
  ⟨h'.lrn.trans h.lrn, h.locked ∘ h'.locked⟩

theorem before_of_eng {s u : State} (lrn : u.lrn = s.lrn) (eng : u.eng = s.eng) : Before s u :=
  ⟨lrn, fun h => by rwa [eng] at h⟩

theorem before_withMon (m : Monitor) (s : State) : Before s (s.withMon m) := before_of_eng rfl rfl

theorem before_selectSource (s : State) : Before s (selectSource s) := ⟨selectSource_lrn s, selectSource_locked⟩

theorem before_enterQual (q : Qualification) (s : State) : Before s (enterQual q s) :=
  (before_withMon _ _).trans (before_selectSource _)

theorem before_residualFault (s : State) : Before s (residualFault s) := by
  unfold residualFault
  dsimp only
  split
  · exact before_of_eng (by simp) (by simp)
  · exact (before_of_eng (by simp) (by simp)).trans (before_enterQual _ _)

theorem before_settleSteer (s : State) : Before s (settleSteer s) :=
  keeps_ite (P := Before s) (fun _ => ⟨by simp [takeSteerLimit], fun h => by simp [takeSteerLimit] at h⟩)
    fun _ => before_of_eng rfl rfl

/-- At most one observation is handed to the engine between `s` and `t`, and it comes last. -/
def Handed (s t : State) : Prop := ∃ u, Before s u ∧ (t = u ∨ ∃ y, t = takeObservation y u)

theorem Before.handed {s t : State} (h : Before s t) : Handed s t := ⟨t, h, .inl rfl⟩

theorem Before.thenHanded {s u t : State} (h : Before s u) (h' : Handed u t) : Handed s t := by
  obtain ⟨v, hv, ht⟩ := h'
  exact ⟨v, h.trans hv, ht⟩

/-- An observation outside LOCKED is not learned (R143). -/
theorem takeObservation_lrn {s : State} (h : s.eng.state ≠ .locked) (y : Int) : (takeObservation y s).lrn = s.lrn := by
  rw [takeObservation_eq, selectSource_lrn, State.observationInput]
  repeat' split
  · rfl
  · next acquire => exact acquireInput_lrn (s := recordY y s) acquire.1 ..
  · rfl

theorem Handed.learned {s t : State} (h : Handed s t) : Learned s t := by
  obtain ⟨u, ⟨lrn, locked⟩, rfl | ⟨y, rfl⟩⟩ := h
  · exact .inl (by rw [lrn])
  · by_cases hl : u.eng.state = .locked
    · refine (takeObservation_learned y u).congr lrn (fun ha => ?_) rfl
      simp only [State.learningAllowed, Bool.and_eq_true] at ha ⊢
      exact ⟨by simp [locked hl], lrn ▸ ha.2⟩
    · exact .inl (by rw [takeObservation_lrn hl, lrn])

theorem completeBlock_handed (s : State) : Handed s (completeBlock s) := by
  have saturated : Before s (if Config.limitObservation < (observationOf s.mon.blockSum s.cfg.decimation).natAbs
      then raise .obsSat s else s) :=
    keeps_ite (P := Before s) (fun _ => before_of_eng (by simp) (by simp)) fun _ => before_of_eng rfl rfl
  exact saturated.thenHanded (keeps_ite (P := Handed _)
    (fun _ => ⟨_, before_withMon _ _, .inr ⟨_, rfl⟩⟩) fun _ => (before_withMon _ _).handed)

theorem addToBlock_handed (m : Int) (tag : Second) (s : State) : Handed s (addToBlock m tag s) :=
  keeps_ite (P := Handed s) (fun _ => (before_withMon _ _).thenHanded (completeBlock_handed _))
    fun _ => (before_withMon _ _).handed

theorem checkMeasurement_handed (m : Int) (tag : Second) (s : State) : Handed s (checkMeasurement m tag s) := by
  obtain e | e | ⟨r, e⟩ := checkMeasurement_cases m tag s <;> rw [e]
  · exact (before_withMon _ _).handed
  · exact (before_withMon _ _).thenHanded (addToBlock_handed ..)
  · have judged : Before s (s.withMon (s.judged r)) := before_withMon _ s
    exact judged.thenHanded (keeps_ite (P := Handed _) (fun _ => (before_residualFault _).handed) fun _ =>
      keeps_ite (P := Handed _) (fun _ => (before_of_eng rfl rfl).handed) fun _ => addToBlock_handed ..)

theorem measureHeld_handed (s : State) : Handed s (measureHeld s) := by
  unfold measureHeld
  dsimp only
  split
  · split
    · exact (before_withMon _ _).thenHanded (checkMeasurement_handed ..)
    · exact (before_withMon _ _).handed
  · exact (before_withMon _ _).handed

theorem countDown_handed (s : State) : Handed s (countDown s) := by
  rw [countDown_eq]
  exact keeps_ite (P := Handed s) (fun _ => (before_withMon _ _).handed) fun _ =>
    (before_withMon _ _).thenHanded (measureHeld_handed _)

theorem takeStaleBlock_handed (s : State) : Handed s (takeStaleBlock s) :=
  (before_withMon _ _).thenHanded (countDown_handed _)

theorem takeQualification_handed (s : State) : Handed s (takeQualification s) :=
  (before_enterQual _ _).thenHanded (measureHeld_handed _)

theorem takeHoldoff_handed (s : State) : Handed s (takeHoldoff s) :=
  (before_enterQual _ _).thenHanded (measureHeld_handed _)

theorem takePulse_handed (t : Instant) (s : State) : Handed s (takePulse t s) := by
  have accepted : Before s (s.withMon { s.mon with
    lastPulse := some ⟨t, s.tagOf t⟩, missingDue := some (t + 1100000000), consecutiveMissing := 0 }) :=
    before_withMon _ _
  have seeded := accepted.trans (before_enterQual .candidate _)
  unfold takePulse
  dsimp only
  split
  · exact (before_withMon _ _).handed
  · split <;> split
    · exact (seeded.trans (before_withMon _ _)).handed
    · exact (before_withMon _ _).handed
    · exact seeded.thenHanded (checkMeasurement_handed ..)
    · exact accepted.thenHanded (checkMeasurement_handed ..)

/-! ### The point of a boundary -/

theorem Learned.of_withPtu {s t : State} (p : PeerUnit) (h : Learned (s.withPtu p) t) : Learned s t :=
  h.congr rfl id rfl

theorem observationPoint_eq (s : State) : observationPoint s = if (takePoint (formResults s)).2 then
    orderDisqualification (takePoint (formResults s)).1 else (takePoint (formResults s)).1 := rfl

theorem observationPoint_learned (s : State) : Learned s (observationPoint s) := by
  have point : Learned s (takePoint (formResults s)).1 := .of_withPtu _ (takePoint_learned (formResults s))
  rw [observationPoint_eq]
  refine keeps_ite (P := Learned s) (fun _ => ?_) fun _ => point
  rwa [Learned, orderDisqualification_lrn]

theorem pointDue_learned (s : State) : Learned s (pointDue s) :=
  keeps_ite (P := Learned s) (fun _ => .of_withPtu { s.ptu with stage := .idle } (observationPoint_learned _))
    fun _ => .inl rfl

theorem afterQuarantine_learned (s : State) : Learned s (afterQuarantine s) :=
  keeps_ite (P := Learned s) (fun _ => .inl rfl) fun _ => pointDue_learned s

theorem countQuarantine_learned (s : State) : Learned s (countQuarantine s) :=
  .of_withPtu _ (afterQuarantine_learned _)

theorem afterExpiry_learned (s : State) : Learned s (afterExpiry s) :=
  keeps_ite (P := Learned s) (fun _ => .inl rfl) fun _ => countQuarantine_learned s

theorem settleSteer_learned {s u t : State} (h : Learned u t) (lrn : u.lrn = s.lrn)
    (eng : u.eng = (settleSteer s).eng) : Learned s t := by
  refine h.congr lrn (fun ha => ?_) rfl
  unfold settleSteer at eng
  split at eng
  · simp [State.learningAllowed, eng, takeSteerLimit] at ha
  · rwa [State.learningAllowed, eng, lrn] at ha

/-! ### Commands -/

/-- A table that differs from that of `l` at its current bin alone, with fresh temperature (R142). -/
def Learning.Since (l : Learning) (table : Vector Bin 64) : Prop :=
  table = l.table ∨ l.sampling = .fresh ∧ ∀ b : Fin 64, l.currentBin ≠ some b → table[b] = l.table[b]

/-- The sampling of `l` stands, and its table changed by learning alone. -/
structure Learning.Follows (m l : Learning) : Prop where
  sampling : m.sampling = l.sampling
  reading : m.lastReading = l.lastReading
  table : l.Since m.table

theorem Learning.Follows.congr {l m n : Learning} (h : m.Follows l) (sampling : n.sampling = m.sampling)
    (reading : n.lastReading = m.lastReading) (table : n.table = m.table) : n.Follows l :=
  ⟨sampling.trans h.sampling, reading.trans h.reading, table ▸ h.table⟩

theorem learnOffer_follows {l : Learning} {s : State} (h : s.lrn.Follows l) (v : Int) :
    (learnOffer v s).lrn.Follows l := by
  obtain e | ⟨ha, b, hb, e⟩ := learnOffer_cases v s <;> rw [e]
  · exact h
  · have fresh : s.lrn.sampling = .fresh := by
      simp only [State.learningAllowed, Bool.and_eq_true, decide_eq_true_eq] at ha
      exact ha.2
    refine ⟨h.sampling, h.reading, .inr ⟨h.sampling ▸ fresh, fun c hc => ?_⟩⟩
    have other : (b : Nat) ≠ c := fun e' => hc (by
      rw [Learning.currentBin, ← h.reading, ← Learning.currentBin, hb, Fin.ext e'])
    have same : s.lrn.table[c] = l.table[c] := by
      obtain e' | ⟨-, e'⟩ := h.table
      · rw [e']
      · exact e' c hc
    simpa [Vector.getElem_set_ne _ _ other] using same

theorem carries_of_observes {i : Instr} (h : observes i = true) (code : BitVec 8) : carries i code = false := by
  cases i <;> simp_all [observes, carries, commandOf]

theorem follows_kept {i : Instr} (l : Learning) (hi : observes i = true) : Kept i fun s => s.lrn.Follows l := by
  have w : Walk fun s => s.lrn.Follows l := { learnOffer := fun v s _ h => learnOffer_follows h v }
  have temperature : ¬ ((∃ t r, i = .temperatureConversionEnd t r) ∨ i = .stalenessTimerExpiry) := by
    rintro (⟨t, r, rfl⟩ | rfl) <;> cases hi
  have reads : ¬ ∃ a, i = .learningBlockRead a := by
    rintro ⟨a, rfl⟩
    cases hi
  exact {
    toEngineKept := w.engineKept
    restart := fun _ => w.course.restart (fun _ _ h => h) (fun _ _ _ h => h) (fun _ h => h)
      fun _ h => h.congr rfl rfl rfl
    lrn := fun m s hm h => h.congr hm.sampling hm.lastReading hm.table
    sample := fun h => absurd h temperature
    takeAgingSample := fun s h => by
      obtain ⟨a, r, e, -⟩ := takeAgingSample_eq s
      rw [e]
      exact h.congr rfl rfl rfl
    clearLearning := fun h => by simp [carries_of_observes hi] at h
    putLearning := fun h => absurd h reads }

/-- A command that hands the engine no input keeps of the table what taking what fell due keeps (R142). -/
theorem exec_table_of_unobserved {i : Instr} {s t : State} {D : Vector Bin 64 → Prop} (hi : observes i = false)
    (hr : isReset i = false) (hl : ∀ a, i ≠ .learningBlockRead a) (hc : carries i 14 = false) (h : D s.lrn.table)
    (hs : takesDueFirst i = true → D (settle s).lrn.table) (e : exec i s = .next t) : D t.lrn.table := by
  obtain rfl | ⟨n, b, p, -, -, rfl⟩ | ⟨b, g, r, hr', -⟩ | ⟨-, ho⟩ := exec_cases e
  · exact h
  · exact openSecond0_keeps_of (table_kept D hl hc).toEngineKept n b p fun t _ _ _ _ _ table _ _ => by rwa [table]
  · simp [hr] at hr'
  · exact (table_kept D hl hc).exec_of_settle (by simp [hi]) hr ho h hs e

/-- A command that is no reset changes the table by learning alone, but for a clearing and a restoration (R142). -/
theorem exec_table_since {i : Instr} {s t : State} (hr : isReset i = false) (hl : ∀ a, i ≠ .learningBlockRead a)
    (hc : carries i 14 = false) (e : exec i s = .next t) : s.lrn.Since t.lrn.table := by
  have start : s.lrn.Follows s.lrn := ⟨rfl, rfl, .inl rfl⟩
  cases hi : observes i with
  | true => exact ((follows_kept s.lrn hi).exec hr (by rintro n b p rfl; cases hi) start e).table
  | false =>
    have settled : (settle s).lrn.Follows s.lrn := (follows_kept (i := .staleBlock) _ rfl).settle trivial s start
    exact exec_table_of_unobserved hi hr hl hc start.table (fun _ => settled.table) e

/-- An event that finds nothing due learns at most once (R143, R144). -/
theorem exec_learned {i : Instr} {s t : State} (hi : observes i = true) (hb : ∀ o, i ≠ .ownBoundary o)
    (hs : s.settled = true ∨ takesDueFirst i = false) (e : exec i s = .next t) : Learned s t := by
  have due : ∀ {d : State → Bool} {f : State → State}, dueEvent d f s = .next t → Learned s (f s) → Learned s t :=
    fun e' h => by cases e'; exact keeps_ite (P := Learned s) (fun _ => h) fun _ => .inl rfl
  have handed : ∀ {f : State → State}, (∀ s, Handed s (f s)) → Learned s (f (settleSteer s)) :=
    fun h => ((before_settleSteer s).thenHanded (h _)).learned
  unfold Machine.exec at e
  cases i with
  | ownBoundary o => exact absurd rfl (hb o)
  | staleBlock => exact due e (handed takeStaleBlock_handed)
  | qualificationTimerExpiry => exact due e (handed takeQualification_handed)
  | holdoffExpiry => exact due e (handed takeHoldoff_handed)
  | peerExpiry a =>
    exact due e (settleSteer_learned (u := expirePeer a (settleSteer s)) (afterExpiry_learned _)
      (before_settleSteer s).lrn rfl)
  | quarantineEnd a =>
    refine due e (settleSteer_learned (u := endQuarantine a (settleSteer s)) (afterQuarantine_learned _) ?_ ?_)
    · simp
    · simp
  | refPulse t' =>
    have settled : settle s = s := settle_of_settled (hs.resolve_right (by simp [takesDueFirst]))
    cases e
    refine keeps_ite (P := Learned s) (fun _ => ?_) fun _ => .inl rfl
    rw [settled]
    exact ((before_of_eng rfl rfl).thenHanded (takePulse_handed t' (s.at t'))).learned
  | _ => cases hi

end Sys2Proof.Machine

open Sys2Proof.Machine

/-- Settles O59: only an observation in LOCKED and a consensus in FOLLOW are learned, and a command hands the engine at
most one of them. -/
theorem tableChangesOnlyByLearning : Obligations.TableChangesOnlyByLearning := by
  intro i s t hr hl hc e changed
  obtain ⟨fresh, others⟩ := (exec_table_since hr hl hc e).resolve_left changed
  refine ⟨fresh, others, fun hs hb => ?_⟩
  cases hi : observes i with
  | true => exact (exec_learned hi hb hs e).resolve_left changed
  | false =>
    refine absurd (exec_table_of_unobserved (D := (· = s.lrn.table)) hi hr hl hc rfl (fun hd => ?_) e) changed
    rw [settle_of_settled (hs.resolve_right (by simp [hd]))]

end

section
/-! PROOF. The queue, resets and the supply (chapter 11), BUS_JOIN and SITE_PWR, the recovery from BUS_OFF. -/

namespace Sys2Proof.Machine

/-! ### The EEPROM outside a page -/

/-- A write leaves every other address, whatever the form of the memory. -/
theorem Memory.read_write_other {a b : Nat} (v : Byte) (h : b ≠ a) : ∀ m : Memory, (m.write a v).read b = m.read b
  | [] => by by_cases hv : v = Memory.blank <;> simp [Memory.write, Memory.read, hv, h.symm]
  | (x, w) :: rest => by
    unfold Memory.write
    repeat' split
    · rfl
    · exact if_neg h.symm
    · next hx _ => exact (if_neg (hx ▸ h.symm)).symm
    · next hx _ =>
      subst hx
      simp [Memory.read, h.symm]
    · simp only [Memory.read, Memory.read_write_other v h rest]

theorem Memory.read_writeAll_other {c : Nat} : ∀ (bs : List Byte) (m : Memory) (a : Nat),
    c < a ∨ a + bs.length ≤ c → (m.writeAll a bs).read c = m.read c
  | [], _, _, _ => rfl
  | b :: bs, m, a, hc => by
    rw [List.length_cons] at hc
    rw [Memory.writeAll, Memory.read_writeAll_other bs _ (a + 1) (by omega), Memory.read_write_other b (by omega)]

/-- A transfer cut by a reset reaches the page under way alone (R151). -/
theorem cutTransfer_read_other (taken : Bool) {s : State} {a : Nat}
    (h : ∀ w, s.lrn.pageWrite = some w → a < w.addr.toNat ∨ w.addr.toNat + w.bytes.length ≤ a) :
    Memory.read (cutTransfer taken s).eeprom a = Memory.read s.eeprom a := by
  unfold cutTransfer
  split
  · next w hw =>
    refine keeps_ite (P := fun t => Memory.read t.eeprom a = Memory.read s.eeprom a) (fun _ => ?_) fun _ => rfl
    simp only [landPage, State.withEeprom_eeprom, Memory.take_transfer]
    exact Memory.read_writeAll_other _ _ _ (h w hw)
  · rfl

/-! ### Resets -/

theorem hardReset_blocksReset (taken : Bool) (s : State) (p : Power) : ((hardReset taken s).withPwr p).BlocksReset :=
  ⟨rfl, rfl, rfl, rfl, rfl, rfl, rfl, rfl⟩

/-- An aging transfer that is not taken leaves the EEPROM (R151). -/
theorem hardReset_false_eeprom (s : State) : (hardReset false s).eeprom = s.eeprom := by
  show (cutTransfer false s).eeprom = s.eeprom
  unfold cutTransfer
  split <;> rfl

/-- The part after a supply loss, or a RESET_N that lasts (R172). -/
structure HeldInReset (s t : State) : Prop where
  blocks : t.BlocksReset
  opened : t.pwr.opened = false
  pending : t.pending = s.pending
  eeprom : ∀ a, (∀ w, s.lrn.pageWrite = some w → a < w.addr.toNat ∨ w.addr.toNat + w.bytes.length ≤ a) →
    Memory.read t.eeprom a = Memory.read s.eeprom a

theorem hardReset_heldInReset (taken : Bool) (s : State) {p : Power} (opened : p.opened = false) :
    HeldInReset s ((hardReset taken s).withPwr p) :=
  ⟨hardReset_blocksReset taken s p, opened, rfl, fun _ h => cutTransfer_read_other taken h⟩

/-- Outputs and ALERT_N of a part whose blocks are reset. -/
theorem State.BlocksReset.low {t : State} (h : t.BlocksReset) : t.tsg.outputsRunning = false ∧
    t.tsg.ppsOut = false ∧ t.tsg.auxOut = false ∧ t.alertLow = false := by
  simp [h.timescale, h.status, State.alertLow, Timescale.reset, StatusUnit.reset]

/-! ### SITE_PWR -/

/-- AUX_OUT is low in RUN_SAVE (R8). -/
theorem refreshOutputs_auxOut_of_runSave {s : State} (h : s.pwr.state = .runSave) :
    (refreshOutputs s).tsg.auxOut = false := by
  unfold refreshOutputs
  cases s.cfg.auxMode <;> simp [h]

end Sys2Proof.Machine

open Sys2Proof Sys2Proof.Machine

/-- Settles O1. -/
theorem stepRunsFrontCommand : Obligations.StepRunsFrontCommand :=
  ⟨fun s i rest h => by simp [step, h], fun s h => by simp [step, h]⟩

/-- Settles O3: every reset is `hardReset`, which takes nothing of the state but levels, queue and EEPROM. -/
theorem resetHoldsThePart : Obligations.ResetHoldsThePart := by
  intro s taken
  refine ⟨⟨_, rfl, ?_⟩, fun lowNs h => ⟨(hardReset taken s).withPwr { (hardReset taken s).pwr with resetLow := true },
    ?_, ?_⟩, fun lowNs h => if_pos h⟩
  · obtain ⟨blocks, -, pending, eeprom⟩ := hardReset_heldInReset taken s
      (p := { (hardReset taken s).pwr with supplyGood := false }) rfl
    obtain ⟨outputs, pps, aux, alert⟩ := blocks.low
    exact ⟨blocks, by simp [State.held], by simp [State.running, State.held], rfl, outputs, pps, aux, alert, pending,
      eeprom⟩
  · exact if_neg (Nat.not_lt.mpr h)
  · obtain ⟨blocks, -, pending, eeprom⟩ := hardReset_heldInReset taken s
      (p := { (hardReset taken s).pwr with resetLow := true }) rfl
    obtain ⟨outputs, pps, aux, alert⟩ := blocks.low
    exact ⟨blocks, by simp [State.held], by simp [State.running, State.held], rfl, outputs, pps, aux, alert, pending,
      eeprom⟩

/-- Settles O4. -/
theorem supplyAndReleaseEndTheHold : Obligations.SupplyAndReleaseEndTheHold := by
  refine ⟨fun s h => ⟨(hardReset false s).withPwr { (hardReset false s).pwr with supplyGood := true }, ?_,
    hardReset_blocksReset _ _ _, ?_, rfl, rfl, rfl, hardReset_false_eeprom s, rfl⟩, fun s h => ?_, fun s => ⟨rfl, ?_⟩⟩
  · simp [exec, execSupplyGood, h]
  · simp [State.held, hardReset]
  · simp [exec, execSupplyGood, h]
  · rintro t ⟨⟩
    simp [State.held]

/-- Settles O9. -/
theorem joinAndSitePower : Obligations.JoinAndSitePower := by
  refine ⟨fun s hr hl => ?_, fun s t high hr hh => ?_, fun s t high hr => ?_, fun s d hr hd => ?_⟩
  · show execBusJoin s = _
    rw [execBusJoin, event_of_ready _ hr, if_neg hl]
  · have running := ((ready_iff s).mp hr).1
    simp [exec, execSitePwrEdge, running, event_of_ready _ hr, sitePwrEdge, hh]
  · simp [exec, execSitePwrEdge, hr]
  · refine ⟨changePower s.pwr.sitePwr (s.at d), ?_, ?_⟩
    · show execSitePwrFilterExpiry s = _
      rw [execSitePwrFilterExpiry, event_of_ready _ hr, hd]
    unfold changePower
    by_cases hl : s.pwr.state = .load
    · simp [hl]
    · have aux : ∀ p : Power, p.state = .runSave → (refreshOutputs ((s.at d).withPwr p)).tsg.auxOut = false :=
        fun p hp => refreshOutputs_auxOut_of_runSave hp
      simp +contextual [hl, aux]

/-- Settles O27. -/
theorem busOffRecovers : Obligations.BusOffRecovers := by
  refine ⟨fun s hr he => ?_, fun s hr he hn => ?_⟩
  · show execRecoveryCountRise s = _
    rw [execRecoveryCountRise, event_of_ready _ hr, if_pos he]
  · exact dueEvent_of_due _ hr (by simp [State.recoveryDue, he, hn])

/-- Settles O56. -/
theorem resetMeetsInvariants : Obligations.ResetMeetsInvariants := by
  refine ⟨Memory.wf_reset, ?_, ?_, Timescale.scheduled_reset, ?_, ?_, ?_, ?_, ?_, ?_, ?_⟩
  · exact fun _ => ⟨rfl, rfl, fun _ => rfl⟩
  · exact ⟨nofun, nofun, nofun, nofun, nofun, nofun, nofun⟩
  · exact ⟨Nat.zero_le _, Nat.zero_le _, Nat.zero_le _, Nat.zero_le _, Nat.zero_le _, Nat.zero_le _, Nat.zero_le _,
      Learning.limits_reset.counts⟩
  · exact ⟨Nat.zero_le _, Nat.zero_le _, Nat.zero_le _, Nat.zero_le _, Nat.zero_lt_succ _⟩
  · exact ⟨Nat.zero_le _, Nat.zero_le _, Nat.zero_le _, Nat.zero_le _, Learning.limits_reset.means, Nat.zero_le _,
      Nat.le_refl _⟩
  · exact ⟨nofun, fun h => nomatch h⟩
  · have empty (a : Fin 16) : PeerUnit.reset.peers[a] = none ∧ PeerUnit.reset.marks[a] = none := by
      simp [PeerUnit.reset]
    exact ⟨fun _ => empty, empty _⟩
  · exact ⟨nofun, nofun⟩
  · constructor <;> simp [State.reset, Engine.reset]

end

section
/-! PROOF. COMMANDs that the station hears (chapter 10): the code, the flags, the adjustments, the inhibit and the save.
-/

namespace Sys2Proof.Machine

/-! ### A COMMAND reaches its code -/

/-- A COMMAND that names the station is run once its reception has ended (R160). -/
theorem event_command {s : State} {st : Stamp} {c : CommandFrame} (t : Instant) (code : BitVec 8)
    (hs : s.hears st = true) (hn : isNamed c s = true) :
    event (receive t (.command code c)) s = .next (runCommand code.toNat c st (s.heard t)) := by
  rw [receive_of_hears t _ hs, handOver_command code st (by simpa [isNamed] using hn)]

/-- A COMMAND that does not name the station is ignored (R160, step 1). -/
theorem event_command_of_unnamed {s : State} {st : Stamp} {c : CommandFrame} (t : Instant) (code : BitVec 8)
    (hs : s.hears st = true) (hn : isNamed c s = false) :
    event (receive t (.command code c)) s = .next (s.heard t) := by
  have unnamed : c.target.getLsbD (s.heard t).pwr.address.val = false := by simpa [isNamed] using hn
  rw [receive_of_hears t _ hs, handOver, handleCommand, unnamed]
  rfl

/-- The commands that bring a COMMAND at `t` are its reception. -/
theorem exec_of_commandOf {i : Instr} {code : BitVec 8} {c : CommandFrame} {t : Instant} (s : State)
    (h : commandOf i = some (code, c))
    (hi : i = .invalidCommandCode t code c ∨ (∃ f, i = .frameReceived t f) ∨ i = .statusQuery t c ∨
      i = .clearErrors t c ∨ i = .alertEnable t c ∨ i = .alertDisable t c ∨ i = .errorSet t c ∨ i = .phaseStep t c ∨
      i = .phaseSlew t c ∨ i = .adjustAbort t c ∨ i = .refInhibit t c ∨ i = .refRelease t c ∨
      i = .historyRelease t c ∨ i = .tableRead t c ∨ i = .learnSave t c ∨ i = .learnClear t c ∨ i = .restart t c) :
    exec i s = event (receive t (.command code c)) s := by
  rcases hi with rfl | ⟨f, rfl⟩ | hi
  · rfl
  · have read : readFrame f = .command code c := by
      simp only [commandOf] at h
      split at h <;> simp_all
    show event (receive t (readFrame f)) s = _
    rw [read]
  · rcases hi with rfl | rfl | rfl | rfl | rfl | rfl | rfl | rfl | rfl | rfl | rfl | rfl | rfl | rfl | rfl <;>
      (obtain ⟨⟨⟩, -⟩ := Prod.mk.inj (Option.some.inj h); rfl)

/-! ### Flags -/

/-- The empty field in the form that `simp` gives it. -/
@[simp] theorem hasFlag_empty (f : Flag) : hasFlag 0#16 f = false := hasFlag_zero f

/-- The mask of an argument of sixteen bits names a flag by its bit (R173). -/
@[simp] theorem hasFlag_extract (a : BitVec 32) (f : Flag) : hasFlag (a.extractLsb' 0 16) f = a.getLsbD f.index := by
  simp [hasFlag, f.index_lt]

theorem withMask_of_small {c : CommandFrame} (h : c.argument.toNat ≤ 65535) (f : FlagSet → State → State) (s : State) :
    withMask c f s = f (c.argument.extractLsb' 0 16) s := by
  simp [withMask, CommandFrame.mask, h]

theorem withMask_of_large {c : CommandFrame} (h : 65535 < c.argument.toNat) (f : FlagSet → State → State) (s : State) :
    withMask c f s = refuse .invalid s := by
  simp [withMask, CommandFrame.mask, Nat.not_le.mpr h]

/-- The queue after flags `x` are offered as an ALERT: held aside while the ALERT is under attempt (R55, R60). -/
def Bus.alerted (b : Bus) (x : FlagSet) : Bus :=
  if x = 0 ∨ b.listenOnly = true then b
  else if b.attempting .alert = true then { b with aside := b.aside ||| x }
  else { b with alert := some (b.alert.getD 0 ||| x) }

theorem Bus.alerted_keeps (b : Bus) (x : FlagSet) :
    (b.alerted x).attempt = b.attempt ∧ (b.alerted x).listenOnly = b.listenOnly := by
  unfold alerted
  (repeat' split) <;> exact ⟨rfl, rfl⟩

theorem Bus.alerted_of_listenOnly {b : Bus} (x : FlagSet) (h : b.listenOnly = true) : b.alerted x = b :=
  if_pos (.inr h)

@[simp] theorem Bus.alerted_zero (b : Bus) : b.alerted 0#16 = b := if_pos (.inl rfl)

theorem Bus.alerted_of_ne {b : Bus} {x : FlagSet} (hx : x ≠ 0) (h : b.listenOnly = false) :
    b.alerted x = if b.attempting .alert = true then { b with aside := b.aside ||| x }
      else { b with alert := some (b.alert.getD 0 ||| x) } :=
  if_neg (not_or.mpr ⟨hx, by simp [h]⟩)

theorem Bus.alerted_alerted (b : Bus) (x y : FlagSet) : (b.alerted x).alerted y = b.alerted (x ||| y) := by
  cases hl : b.listenOnly with
  | true => simp only [alerted_of_listenOnly _ hl]
  | false =>
    by_cases hx : x = 0
    · simp [hx]
    · by_cases hy : y = 0
      · simp [hy]
      · have both : x ||| y ≠ 0 := fun e => hx (BitVec.or_eq_zero_iff.mp e).1
        have open_ : (b.alerted x).listenOnly = false := by rw [(b.alerted_keeps x).2, hl]
        have under : (b.alerted x).attempting .alert = b.attempting .alert := by
          rw [attempting, (b.alerted_keeps x).1]
          rfl
        rw [alerted_of_ne hy open_, under, alerted_of_ne hx hl, alerted_of_ne both hl, ← BitVec.or_assoc,
          ← BitVec.or_assoc]
        (repeat' split) <;> rfl

theorem raise_raised_set (f : Flag) (s : State) : (raise f s).scu.raised = s.scu.raised ||| f.mask :=
  flagSet_ext fun g => by simp

@[simp] theorem Flag.mask_ne_zero (f : Flag) : f.mask ≠ 0#16 := fun e => by
  have := hasFlag_mask f f
  rw [e] at this
  simp at this

/-- Flags offered as an ALERT reach the queue (R60). -/
theorem offerAlert_alerted {x : FlagSet} (hx : x ≠ 0#16) (s : State) : (offerAlert x s).bus = s.bus.alerted x := by
  unfold offerAlert Bus.alerted
  rw [apply_ite State.bus, apply_ite State.bus]
  simp [hx]

/-- A raise offers the flag where it is newly raised and enabled (R154, R158). -/
theorem raise_bus_alerted (f : Flag) (s : State) :
    (raise f s).bus = s.bus.alerted (f.mask &&& s.scu.enabled &&& ~~~s.scu.raised) := by
  have one : f.mask &&& s.scu.enabled &&& ~~~s.scu.raised =
      if hasFlag s.scu.raised f = false ∧ hasFlag s.scu.enabled f = true then f.mask else 0 := by
    refine flagSet_ext fun g => ?_
    by_cases hg : g = f
    · subst hg
      cases hr : hasFlag s.scu.raised g <;> cases he : hasFlag s.scu.enabled g <;> simp [hr, he]
    · split <;> simp [hg]
  rw [one]
  unfold raise
  cases hr : hasFlag s.scu.raised f <;> cases he : hasFlag s.scu.enabled f <;> simp [offerAlert_alerted]

/-- The flag field that names the flags of a list. -/
def masks : List Flag → FlagSet
  | [] => 0
  | f :: fs => f.mask ||| masks fs

theorem hasFlag_masks (f : Flag) : ∀ fs : List Flag, hasFlag (masks fs) f = decide (f ∈ fs)
  | [] => by simp [masks]
  | g :: fs => by simp [masks, hasFlag_masks f fs]

/-- Every flag that a mask names, in turn. -/
theorem masks_filter (m : FlagSet) : masks (Flag.all.filter (hasFlag m)) = m :=
  flagSet_ext fun f => by
    have listed : f ∈ Flag.all := by cases f <;> decide
    simp [hasFlag_masks, listed]

theorem raiseAll_bus_alerted (fs : List Flag) (s : State) :
    (raiseAll fs s).bus = s.bus.alerted (masks fs &&& s.scu.enabled &&& ~~~s.scu.raised) := by
  induction fs generalizing s with
  | nil => simp [raiseAll, masks, Bus.alerted]
  | cons f fs ih =>
    have first := raise_bus_alerted f s
    have offered : (f.mask &&& s.scu.enabled &&& ~~~s.scu.raised) |||
        (masks fs &&& s.scu.enabled &&& ~~~(s.scu.raised ||| f.mask)) =
        (f.mask ||| masks fs) &&& s.scu.enabled &&& ~~~s.scu.raised := flagSet_ext fun g => by
      simp only [hasFlag_or, hasFlag_and, hasFlag_not]
      cases hasFlag f.mask g <;> simp
    rw [raiseAll, ih, first, Bus.alerted_alerted, (raise_scu f s).1,
      raise_raised_set, offered, masks]

theorem alertLow_iff (s : State) :
    s.alertLow = true ↔ ∃ f, hasFlag s.scu.raised f = true ∧ hasFlag s.scu.enabled f = true := by
  have none_iff : s.scu.raised &&& s.scu.enabled = 0 ↔
      ∀ f, hasFlag s.scu.raised f = true → hasFlag s.scu.enabled f = false := by
    refine ⟨fun e f hr => ?_, fun h => flagSet_ext fun f => ?_⟩
    · have := hasFlag_and s.scu.raised s.scu.enabled f
      rw [e, hr] at this
      simpa using this.symm
    · cases hr : hasFlag s.scu.raised f
      · simp [hr]
      · simp [h f hr]
  rw [State.alertLow, bne_iff_ne, ne_eq, none_iff]
  simp

end Sys2Proof.Machine

open Sys2Proof Sys2Proof.Machine

/-- Settles O34. -/
theorem commandsForOthersIgnored : Obligations.CommandsForOthersIgnored := by
  refine ⟨fun s st t i code c hs hn hi hlist => ?_, fun s st t code c hs hn hcode => ?_⟩
  · rw [exec_of_commandOf s hi hlist, event_command_of_unnamed t code hs hn]
  · have unlisted : runCommand code.toNat c st = refuse .invalid := by
      unfold runCommand
      split <;> simp_all
    refine ⟨refuse .invalid (s.heard t), ?_, ?_⟩
    · show event (receive t (.command code c)) s = _
      rw [event_command t code hs hn, unlisted]
    · simp

/-- Settles O35. -/
theorem flagCommands : Obligations.FlagCommands := by
  refine ⟨fun s st t c hs hn => ⟨fun small => ⟨?_, ?_, ?_, ?_⟩, fun large i hi => ?_, fun hl => ?_, fun hl => ?_⟩,
    fun s f => ⟨raise_raised_set f s, fun h => if_pos h, fun hr he hl => ⟨fun ha => ?_, fun ha => ?_⟩,
      fun hr h => ?_⟩, alertLow_iff⟩
  · refine ⟨(clearFlags (c.argument.extractLsb' 0 16) (s.heard t)).scu, ?_, by simp [clearFlags],
      fun f => by simp [clearFlags], ?_⟩
    · exact (event_command t 2 hs hn).trans (congrArg _ (withMask_of_small small clearFlags _))
    · simp [clearFlags, Flag.index, and_comm]
  · exact ⟨(enableFlags (c.argument.extractLsb' 0 16) (s.heard t)).scu,
      (event_command t 3 hs hn).trans (congrArg _ (withMask_of_small small enableFlags _)),
      by simp [enableFlags], by simp [enableFlags], fun f => by simp [enableFlags]⟩
  · exact ⟨(disableFlags (c.argument.extractLsb' 0 16) (s.heard t)).scu,
      (event_command t 4 hs hn).trans (congrArg _ (withMask_of_small small disableFlags _)),
      by simp [disableFlags], by simp [disableFlags], fun f => by simp [disableFlags]⟩
  · obtain ⟨-, -, ha, -⟩ := (hears_iff s st).mp hs
    have idle : (s.heard t).bus.attempt = none := by rw [heard_bus, ha]
    refine ⟨setFlags (c.argument.extractLsb' 0 16) (s.heard t),
      (event_command t 5 hs hn).trans (congrArg _ (withMask_of_small small setFlags _)), ?_⟩
    have listed (f : Flag) : f ∈ Flag.all := by cases f <;> decide
    have bus := raiseAll_bus_alerted (Flag.all.filter (hasFlag (c.argument.extractLsb' 0 16))) (s.heard t)
    rw [masks_filter] at bus
    refine ⟨by simp [setFlags], by simp [setFlags], fun f => by simp [setFlags, raiseAll_raised, listed], ?_,
      by simp [setFlags], by simp [setFlags], by simp [setFlags], by simp [setFlags], by simp [setFlags],
      by simp [setFlags], by simp [setFlags]⟩
    have free : ¬(s.heard t).bus.attempting .alert = true := by simp [Bus.attempting, idle]
    rw [setFlags, bus, Bus.alerted, if_neg free, heard_bus]
    simp
  · have refused : ∀ (code : BitVec 8) (f : FlagSet → State → State), runCommand code.toNat c st = withMask c f →
        event (receive t (.command code c)) s = .next (refuse .invalid (s.heard t)) := fun code f e => by
      rw [event_command t code hs hn, e, withMask_of_large large]
    refine ⟨refuse .invalid (s.heard t), ?_, by simp, by simp, by simp⟩
    simp only [List.mem_cons, List.not_mem_nil, or_false] at hi
    obtain rfl | rfl | rfl | rfl := hi
    · exact refused 2 clearFlags rfl
    · exact refused 3 enableFlags rfl
    · exact refused 4 disableFlags rfl
    · exact refused 5 setFlags rfl
  · obtain ⟨-, -, ha, -⟩ := (hears_iff s st).mp hs
    refine (event_command t 1 hs hn).trans (congrArg _ ?_)
    show offerStatus (s.heard t) = _
    have open_ : (s.heard t).bus.listenOnly = false := by rw [heard_bus, hl]
    have idle : (s.heard t).bus.attempt = none := by rw [heard_bus, ha]
    simp only [offerStatus, open_, Bus.attempting, idle]
    rfl
  · refine (event_command t 1 hs hn).trans (congrArg _ ?_)
    have quiet : (s.heard t).bus.listenOnly = true := by rw [heard_bus, hl]
    exact if_pos quiet
  · simp [raise, hr, he, offerAlert, hl, ha]
  · simp [raise, hr, he, offerAlert, hl, ha]
  · cases he : hasFlag s.scu.enabled f
    · simp [raise, hr, he]
    · simp [raise, hr, he, offerAlert, h.resolve_left (by simp [he])]

end

section
/-! PROOF. The adjustments, the inhibit, the history ring, the save and the clearing (R12, R15, R38, R108, R149, R150).
-/

namespace Sys2Proof.Machine

theorem CommandFrame.adjustInRange_iff (c : CommandFrame) : CommandFrame.adjustInRange c = true ↔
    CommandFrame.amount c ≠ 0 ∧ (CommandFrame.amount c).natAbs ≤ 499999999 ∧ 1 ≤ CommandFrame.delay c ∧
      CommandFrame.delay c ≤ 15 := by
  simp [CommandFrame.adjustInRange, and_assoc]

/-- What an amount commits to a boundary (R13). -/
theorem portionOf_eq (kind : AdjustKind) (a : Int) (rate : Nat) : portionOf kind a rate =
    if kind = .step then a else if 0 ≤ a then min a rate else -(min (-a) rate) := by
  cases kind <;> rfl

theorem Timescale.schedule_slot (x : Timescale) : x.schedule.slot = x.slot ∧ x.schedule.committed = x.committed ∧
    x.schedule.stepCount = x.stepCount ∧ x.schedule.nextBoundary = x.nextWith x.committedAmount := by
  unfold schedule nextWith
  split <;> simp

/-- What the slot refuses (R12). -/
theorem adjustRefusal_eq (kind : AdjustKind) (a : Int) (d : Nat) (st : Stamp) (s : State) :
    adjustRefusal kind a d st s = if s.tsg.slot ≠ none ∨ d = 1 ∧ s.tsg.committed ≠ none then some .busy
      else if d = 1 ∧ s.tsg.nextWith (portionOf kind a s.cfg.slewRate) < st.instant + 50000000 then some .late
      else none := by
  unfold adjustRefusal
  by_cases taken : s.tsg.slot = none
  · simp only [taken, ne_eq, not_true_eq_false, if_false, false_or]
  · simp only [taken, ne_eq, not_false_eq_true, if_true, true_or]

/-- The checks of an adjustment in their order (R160, R161). -/
theorem commandAdjust_eq (kind : AdjustKind) (c : CommandFrame) (st : Stamp) (s : State) :
    commandAdjust kind c st s = if CommandFrame.adjustInRange c = false then refuse .invalid s
      else if s.silent = true then refuse .state s
      else if s.inGuard st = true then refuse .late s
      else if s.tsg.slot ≠ none ∨ CommandFrame.delay c = 1 ∧ s.tsg.committed ≠ none then refuse .busy s
      else if CommandFrame.delay c = 1 ∧ s.tsg.nextWith (portionOf kind (CommandFrame.amount c) s.cfg.slewRate) < st.instant + 50000000 then
        refuse .late s
      else acceptAdjust kind (CommandFrame.amount c) (CommandFrame.delay c) st s := by
  unfold commandAdjust
  rw [adjustRefusal_eq]
  cases CommandFrame.adjustInRange c with
  | false => simp only [Bool.not_false, if_true]
  | true =>
    by_cases busy : s.tsg.slot ≠ none ∨ CommandFrame.delay c = 1 ∧ s.tsg.committed ≠ none
    · rw [if_pos busy, if_pos busy]
      simp
    · rw [if_neg busy, if_neg busy]
      by_cases late : CommandFrame.delay c = 1 ∧
          s.tsg.nextWith (portionOf kind (CommandFrame.amount c) s.cfg.slewRate) < st.instant + 50000000
      · rw [if_pos late, if_pos late]
        simp
      · rw [if_neg late, if_neg late]
        simp

/-- An adjustment that passes every check goes into the slot, and for the next boundary is committed at once (R12, R13).
-/
theorem acceptAdjust_eq (kind : AdjustKind) (a : Int) (d : Nat) (st : Stamp) (s : State) : ∃ x : Timescale,
    acceptAdjust kind a d st s = s.withTsg x ∧
    x.slot = some ⟨.command, kind, a, a, secondAfter st.second d, false⟩ ∧
    (d = 1 → x.committed = some ⟨portionOf kind a s.cfg.slewRate, .command, kind, true, false⟩ ∧
      x.nextBoundary = s.tsg.nextWith (portionOf kind a s.cfg.slewRate)) ∧
    (d ≠ 1 → x.committed = s.tsg.committed ∧ x.nextBoundary = s.tsg.nextBoundary) ∧
    x.phi = s.tsg.phi ∧ x.trim = s.tsg.trim ∧ x.stepCount = s.tsg.stepCount ∧
    x.lastBoundary = s.tsg.lastBoundary ∧ x.fInForce = s.tsg.fInForce := by
  by_cases hd : d = 1
  · refine ⟨_, if_pos hd, ?_⟩
    obtain ⟨slot, committed, stepCount, next⟩ := Timescale.schedule_slot { s.tsg with
      slot := some ⟨.command, kind, a, a, secondAfter st.second d, false⟩
      committed := some (commitmentOf ⟨.command, kind, a, a, secondAfter st.second d, false⟩ s.cfg.slewRate) }
    refine ⟨slot, fun _ => ⟨committed, next⟩, fun h => absurd hd h, ?_, ?_, stepCount, ?_, ?_⟩ <;> simp
  · exact ⟨_, if_neg hd, rfl, fun h => absurd h hd, fun _ => ⟨rfl, rfl⟩, rfl, rfl, rfl, rfl, rfl⟩

/-- An abort empties the slot alone, but for the end of a started slew (R14, R15). -/
theorem abortSlot_eq (s : State) : ∃ x : Timescale, abortSlot s = s.withTsg x ∧ x.slot = none ∧
    x.committedAmount = s.tsg.committedAmount ∧ x.nextBoundary = s.tsg.nextBoundary ∧ x.phi = s.tsg.phi ∧
    x.trim = s.tsg.trim ∧ x.fSet = s.tsg.fSet ∧
    (s.tsg.committed ≠ none ∨ s.tsg.slewStarted = false →
      x.stepCount = s.tsg.stepCount ∧ x.slewing = s.tsg.slewing) ∧
    (s.tsg.committed = none → s.tsg.slewStarted = true →
      x.stepCount = s.tsg.stepCount + 1 ∧ x.slewing = false) := by
  cases hc : s.tsg.committed with
  | some c =>
    refine ⟨{ s.tsg with slot := none, committed := some { c with detached := true } }, ?_, rfl, ?_, rfl, rfl, rfl, rfl,
      by simp, by simp⟩
    · simp [abortSlot, hc]
    · simp [Timescale.committedAmount, hc]
  | none =>
    cases hs : s.tsg.slewStarted with
    | true =>
      refine ⟨{ s.tsg.endSlew with slot := none }, ?_, rfl, ?_, rfl, rfl, rfl, rfl, by simp, fun _ _ => ⟨rfl, rfl⟩⟩
      · simp [abortSlot, hc, hs]
      · simp [Timescale.committedAmount, Timescale.endSlew, hc]
    | false =>
      refine ⟨{ s.tsg with slot := none }, ?_, rfl, ?_, rfl, rfl, rfl, rfl, by simp, by simp⟩
      · simp [abortSlot, hc, hs]
      · simp [Timescale.committedAmount, hc]

/-- Where the reference is not selected, a selection leaves the engine neither LOCKED nor in ACQUIRE on it (R106,
R107). -/
theorem applySelection_off_reference {s : State} (h : s.selected ≠ .source .reference) :
    (applySelection s).eng.state ≠ .locked ∧
      ¬((applySelection s).eng.state = .acquire ∧ (applySelection s).eng.source = some .reference) := by
  unfold applySelection
  split
  · next e => exact absurd e h
  · next t e =>
    obtain ⟨c, hc⟩ := State.consensus_of_selected e
    split
    · next on =>
      simp only [State.onSource, Bool.and_eq_true, decide_eq_true_eq, Bool.or_eq_true] at on
      obtain ⟨source, state⟩ := on
      simp only [source, reduceCtorEq, if_false] at state ⊢
      rcases state with state | state <;> simp [state]
    · rw [hc]
      dsimp only
      split
      · simp [enterFollow_course]
      · simp [enterAcquireTier_source, enterAcquireTier_not_locked]
  · split
    · next hs => simp [hs]
    · simp [enterHoldover_course]
  · split
    · next hs => simp [hs]
    · simp [enterFreerun_course]

/-- A QUALIFIED, uninhibited reference is selected, and acquired where the engine is not on it (R106, R107). -/
theorem applySelection_on_reference {s : State} (h : s.selected = .source .reference) :
    (applySelection s).eng.source = some .reference ∧
    (s.eng.source ≠ some .reference → (applySelection s).eng.state = .acquire) ∧
    (applySelection s).eng.integral = s.eng.integral ∧ (applySelection s).eng.inhibit = s.eng.inhibit := by
  unfold applySelection
  rw [h]
  dsimp only
  split
  · next on =>
    simp only [State.onSource, Bool.and_eq_true, decide_eq_true_eq] at on
    exact ⟨on.1, fun hn => absurd on.1 hn, rfl, rfl⟩
  · obtain ⟨state, source, inhibit⟩ := enterAcquireReference_course s
    obtain ⟨o, e⟩ := enterState_eng .acquire (some .reference) setIntegralF s
    refine ⟨source, fun _ => state, ?_, inhibit⟩
    show (enterState .acquire (some .reference) setIntegralF s).eng.integral = _
    rw [e]
    rfl

theorem acquireInput_inhibit (y : Int) (period : Nat) (s : State) :
    (acquireInput y period s).eng.inhibit = s.eng.inhibit := by
  obtain h | h := Nat.lt_or_ge s.cfg.stepThreshold y.natAbs
  · rw [acquireInput_of_large period h]
    simp
  · rw [acquireInput_of_small period h]
    split
    · rw [lockAchieved_eng, loopUpdate_eng]
      rfl
    · rw [loopUpdate_eng]
      rfl

@[simp] theorem applySelection_inhibit (s : State) : (applySelection s).eng.inhibit = s.eng.inhibit := by
  unfold applySelection
  split
  · split
    · rfl
    · exact (enterAcquireReference_course s).2.2
  · split
    · rfl
    · split
      · next t _ _ _ c _ =>
        split
        · exact (enterFollow_course t c s).2.2
        · obtain ⟨o, e⟩ := enterState_eng .acquire (some (.tier t)) (tierEntry t c) s
          rw [enterAcquireTier_eq, e]
          exact acquireInput_inhibit ..
      · rfl
  · split
    · rfl
    · exact (enterHoldover_course s).2.2
  · split
    · rfl
    · exact (enterFreerun_course s).2.2

theorem selectSource_of_not_silent {s : State} (h : s.silent = false) : selectSource s = applySelection s := by
  simp [selectSource, h]

end Sys2Proof.Machine

open Sys2Proof Sys2Proof.Machine

/-- Settles O36. -/
theorem phaseAdjustments : Obligations.PhaseAdjustments := by
  refine ⟨fun s st => ?_, fun s st t c kind i hs hn hi => ?_⟩
  · unfold State.inGuard State.following State.second Stamp.instant
    simp only [Bool.or_eq_true, decide_eq_true_eq, Config.guard, Config.secondModulus]
    exact or_congr_left (by omega)
  · have run : exec i s = .next (commandAdjust kind c st (s.heard t)) := by
      rcases hi with ⟨rfl, rfl⟩ | ⟨rfl, rfl⟩
      · exact event_command t 6 hs hn
      · exact event_command t 7 hs hn
    have range : CommandFrame.adjustInRange c = true ↔ _ := CommandFrame.adjustInRange_iff c
    have checks := commandAdjust_eq kind c st (s.heard t)
    have part := portionOf_eq kind c.argument.toInt s.cfg.slewRate
    refine ⟨fun inRange loud clear free early => ?_, fun cause h => ⟨refuse cause (s.heard t), ?_, by simp, by simp,
      by simp, by simp, by simp, by simp, by simp⟩⟩
    · obtain ⟨x, e, hx⟩ := acceptAdjust_eq kind c.argument.toInt c.byte3.toNat st (s.heard t)
      refine ⟨x, run.trans (congrArg _ ?_), part ▸ hx⟩
      rw [← part] at early
      exact checks.trans ((if_neg (by simp [range.mpr inRange])).trans ((if_neg (ne_true_of_eq_false loud)).trans
        ((if_neg (ne_true_of_eq_false clear)).trans ((if_neg free).trans ((if_neg early).trans e)))))
    · rw [← part] at h
      refine run.trans (congrArg _ (checks.trans ?_))
      rcases h with ⟨out, rfl⟩ | ⟨inRange, state, rfl⟩ | ⟨inRange, loud, guarded, rfl⟩ |
        ⟨inRange, loud, clear, busy, rfl⟩ | ⟨inRange, loud, clear, free, late, rfl⟩
      · exact if_pos (Bool.eq_false_iff.mpr (out ∘ range.mp))
      all_goals refine (if_neg (by simp [range.mpr inRange])).trans ?_
      · exact if_pos state
      all_goals refine (if_neg (ne_true_of_eq_false loud)).trans ?_
      · exact if_pos guarded
      all_goals refine (if_neg (ne_true_of_eq_false clear)).trans ?_
      · exact if_pos busy
      · exact (if_neg free).trans (if_pos late)

/-- Settles O37. -/
theorem abortEmptiesTheSlot : Obligations.AbortEmptiesTheSlot := by
  intro s st t c hs hn
  obtain ⟨x, e, hx⟩ := abortSlot_eq (s.heard t)
  exact ⟨x, (event_command t 8 hs hn).trans (congrArg _ e), hx⟩

/-- Settles O38. -/
theorem inhibitAndRelease : Obligations.InhibitAndRelease := by
  intro s st t c hs hn
  have inhibited : exec (.refInhibit t c) s = .next (setInhibit true (s.heard t)) := event_command t 9 hs hn
  have released : exec (.refRelease t c) s = .next (setInhibit false (s.heard t)) := event_command t 10 hs hn
  refine ⟨fun silent => ⟨?_, ?_⟩, fun loud => ⟨_, inhibited, ?_⟩, fun loud hq => ⟨_, released, ?_⟩⟩
  · exact inhibited.trans (congrArg _ (if_pos silent))
  · exact released.trans (congrArg _ (if_pos silent))
  · have selects := selectSource_of_not_silent (s := (s.heard t).withEng { (s.heard t).eng with inhibit := true }) loud
    have off := applySelection_off_reference (s := (s.heard t).withEng { (s.heard t).eng with inhibit := true })
      fun h => by simpa using (State.selected_reference_iff.mp h).2
    rw [setInhibit, selects]
    exact ⟨by simp, off.1, off.2, by simp, by simp, by simp, by simp⟩
  · have selects := selectSource_of_not_silent (s := (s.heard t).withEng { (s.heard t).eng with inhibit := false }) loud
    obtain ⟨source, acquires, integral, -⟩ := applySelection_on_reference
      (s := (s.heard t).withEng { (s.heard t).eng with inhibit := false })
      (State.selected_reference_iff.mpr ⟨by simpa using hq, rfl⟩)
    rw [setInhibit, selects]
    exact ⟨by simp, source, by simpa using acquires, by simpa using integral, by simp, by simp, by simp, by simp⟩

/-- Settles O40. -/
theorem learnSaveAndClear : Obligations.LearnSaveAndClear := by
  intro s st t c hs hn
  have save : exec (.learnSave t c) s = .next (commandSave (s.heard t)) := event_command t 13 hs hn
  have clear : exec (.learnClear t c) s = .next (commandClear (s.heard t)) := event_command t 14 hs hn
  refine ⟨fun h hw => ?_, fun h hw => ?_, fun h => ?_, fun h i hi => ⟨refuse .busy (s.heard t), ?_, ?_⟩⟩
  · rw [save]
    simp [commandSave, h, startSave, hw, beginPage, savePageBytes, savePageAddr]
  · obtain ⟨w, hw⟩ := Option.ne_none_iff_exists'.mp hw
    rw [save]
    simp [commandSave, h, startSave, hw]
  · rw [clear]
    simp [commandClear, h, clearLearning, Bin.empty]
  · have busy : s.lrn.save.isSome = true := Option.isSome_iff_ne_none.mpr h
    simp only [List.mem_cons, List.not_mem_nil, or_false] at hi
    rcases hi with rfl | rfl
    · simp [save, commandSave, busy]
    · simp [clear, commandClear, busy]
  · simp

end

section
/-! PROOF. Frames: which are bad (R52), that each layout of R174 reads back, and what receptions of them do (R52 to R55).
-/

namespace Sys2Proof.Machine

/-! ### Fields and bytes -/

theorem extract_append_high {m n : Nat} (a : BitVec m) (b : BitVec n) : (a ++ b).extractLsb' n m = a := by
  ext i hi
  simp [BitVec.getLsbD_append, hi]

theorem extract_append_low {m n : Nat} (a : BitVec m) (b : BitVec n) : (a ++ b).extractLsb' 0 n = b := by
  ext i hi
  simp [BitVec.getLsbD_append, hi]

theorem join_be16 (v : BitVec 16) : v.extractLsb' 8 8 ++ v.extractLsb' 0 8 = v := by
  ext i hi
  simp only [BitVec.getElem_append, BitVec.getElem_extractLsb']
  (repeat' split) <;> (simp only [← BitVec.getLsbD_eq_getElem]; congr 1; omega)

theorem join_be24 (v : BitVec 24) : v.extractLsb' 16 8 ++ v.extractLsb' 8 8 ++ v.extractLsb' 0 8 = v := by
  ext i hi
  simp only [BitVec.getElem_append, BitVec.getElem_extractLsb']
  (repeat' split) <;> (simp only [← BitVec.getLsbD_eq_getElem]; congr 1; omega)

theorem join_be32 (v : BitVec 32) :
    v.extractLsb' 24 8 ++ v.extractLsb' 16 8 ++ v.extractLsb' 8 8 ++ v.extractLsb' 0 8 = v := by
  ext i hi
  simp only [BitVec.getElem_append, BitVec.getElem_extractLsb']
  (repeat' split) <;> (simp only [← BitVec.getLsbD_eq_getElem]; congr 1; omega)

theorem classOfCode_classCode (c : StationClass) : classOfCode (classCode c) = c := by cases c <;> rfl

/-- A FOLLOW's fields read back from its bytes (R174). -/
theorem readFollow_followBytes (f : FollowData) :
    readFollow f.seq ((classCode f.cls ++ f.txTime : BitVec 32).extractLsb' 24 8)
      ((classCode f.cls ++ f.txTime : BitVec 32).extractLsb' 16 8)
      ((classCode f.cls ++ f.txTime : BitVec 32).extractLsb' 8 8)
      ((classCode f.cls ++ f.txTime : BitVec 32).extractLsb' 0 8)
      ((f.stepCount ++ bit f.slewing ++ f.u : BitVec 24).extractLsb' 16 8)
      ((f.stepCount ++ bit f.slewing ++ f.u : BitVec 24).extractLsb' 8 8)
      ((f.stepCount ++ bit f.slewing ++ f.u : BitVec 24).extractLsb' 0 8) = f := by
  have cls : (classCode f.cls ++ f.txTime : BitVec 32).extractLsb' 30 2 = classCode f.cls := extract_append_high _ _
  have txTime : (classCode f.cls ++ f.txTime : BitVec 32).extractLsb' 0 30 = f.txTime := extract_append_low _ _
  have u : (f.stepCount ++ bit f.slewing ++ f.u : BitVec 24).extractLsb' 0 21 = f.u :=
    extract_append_low (f.stepCount ++ bit f.slewing) f.u
  have slewing : (f.stepCount ++ bit f.slewing ++ f.u : BitVec 24).getLsbD 21 = f.slewing := by
    show ((f.stepCount ++ bit f.slewing) ++ f.u).getLsbD 21 = f.slewing
    rw [BitVec.getLsbD_append, BitVec.getLsbD_append]
    simp [bit]
  have stepCount : (f.stepCount ++ bit f.slewing ++ f.u : BitVec 24).extractLsb' 22 2 = f.stepCount := by
    show ((f.stepCount ++ bit f.slewing) ++ f.u).extractLsb' 22 2 = f.stepCount
    ext i hi
    simp only [BitVec.getElem_extractLsb', BitVec.getLsbD_append]
    simp [show ¬22 + i < 21 by omega, show ¬22 + i - 21 < 1 by omega, show 22 + i - 21 - 1 = i by omega, hi]
  simp only [readFollow, join_be32, join_be24, cls, txTime, u, slewing, stepCount, classOfCode_classCode]

/-! ### The checks of R52 -/

/-- A frame whose identifier is of kind `k` from station `a`. -/
theorem identOf_toNat (k : Nat) (a : Fin 16) (hk : k ≤ 5) : (identOf k a).toNat = 32 * k + (a.val + 1) := by
  simp only [identOf, BitVec.toNat_ofNat]
  omega

theorem readFrame_markRaw (a : Fin 16) (seq : BitVec 8) : readFrame (markRaw a seq) = .mark a seq := by
  have ident := identOf_toNat 1 a (by decide)
  have kind : (identOf 1 a).toNat / 32 = 1 := by omega
  have source : (identOf 1 a).toNat % 32 = a.val + 1 := by omega
  have address : a.val % 16 = a.val := by omega
  simp [readFrame, markRaw, kind, source, kindLength, address, Nat.le_of_lt_succ a.isLt]

theorem readFrame_followRaw (a : Fin 16) (f : FollowData) : readFrame (followRaw a f) = .follow a f := by
  have ident := identOf_toNat 2 a (by decide)
  have kind : (identOf 2 a).toNat / 32 = 2 := by omega
  have source : (identOf 2 a).toNat % 32 = a.val + 1 := by omega
  have address : a.val % 16 = a.val := by omega
  have fields := readFollow_followBytes f
  simp [readFrame, followRaw, kind, source, kindLength, address, followBytes, be32, be24]
  exact (if_neg (by omega)).trans (congrArg _ fields)

theorem readFrame_commandRaw (code : BitVec 8) (c : CommandFrame) : readFrame (commandRaw code c) = .command code c := by
  have spare : (0#1 ++ c.byte3)[7] = false := by
    rw [BitVec.getElem_append]
    rfl
  have byte3 : (0#1 ++ c.byte3).extractLsb' 0 7 = c.byte3 := extract_append_low _ _
  simp [readFrame, commandRaw, kindLength, be16, be32, join_be16, join_be32]
  rw [byte3]
  exact if_neg (by rw [spare]; decide)

/-- The cases of a frame with data that the rule calls bad, by its kind, its source and its data. -/
def BadData (kind source : Nat) (data : List Byte) : Prop :=
  5 < kind ∨ 16 < source ∨ (kind = 0 ∧ source ≠ 0) ∨ (kind ≠ 0 ∧ source = 0) ∨ data.length ≠ kindLength kind ∨
    (kind = 0 ∧ (data.getD 3 0).getLsbD 7 = true)

theorem readFrame_eq_bad_iff (f : RawFrame) (hr : f.remote = false) (he : f.extended = false) :
    readFrame f = .bad ↔ BadData (f.ident.toNat / 32) (f.ident.toNat % 32) f.data := by
  unfold readFrame BadData
  simp only [hr, he, Bool.false_eq_true, or_self, if_false]
  generalize f.ident.toNat / 32 = kind
  generalize f.data = data
  by_cases range : 5 < kind ∨ 16 < f.ident.toNat % 32
  · rw [if_pos range]
    simp only [true_iff]
    grind
  rw [if_neg range]
  by_cases party : (kind = 0) ≠ (f.ident.toNat % 32 = 0)
  · rw [if_pos party]
    simp only [ne_eq, eq_iff_iff, true_iff] at party ⊢
    grind
  rw [if_neg party]
  by_cases length : data.length ≠ kindLength kind
  · rw [if_pos length]
    simp only [true_iff]
    grind
  rw [if_neg length]
  have sound : ¬(5 < kind ∨ 16 < f.ident.toNat % 32 ∨ (kind = 0 ∧ f.ident.toNat % 32 ≠ 0) ∨
      (kind ≠ 0 ∧ f.ident.toNat % 32 = 0) ∨ data.length ≠ kindLength kind) := by
    simp only [ne_eq, eq_iff_iff] at party
    grind
  have spare : (5 < kind ∨ 16 < f.ident.toNat % 32 ∨ (kind = 0 ∧ f.ident.toNat % 32 ≠ 0) ∨
      (kind ≠ 0 ∧ f.ident.toNat % 32 = 0) ∨ data.length ≠ kindLength kind ∨
      (kind = 0 ∧ (data.getD 3 0).getLsbD 7 = true)) ↔ (kind = 0 ∧ (data.getD 3 0).getLsbD 7 = true) := by
    grind
  rw [spare]
  split
  · simp
  · simp
  · simp
  next command _ _ =>
    have other : kind ≠ 0 := by
      rintro rfl
      match data, Decidable.not_not.mp length with
      | [t1, t0, code, b3, a3, a2, a1, a0], _ => exact command _ _ _ _ _ _ _ _ rfl rfl
    simp [other]

/-! ### Receptions -/

theorem addressConflict_raised (s : State) (f : Flag) :
    hasFlag (addressConflict s).scu.raised f = (hasFlag s.scu.raised f || f = .addrConflict) := by
  unfold addressConflict
  dsimp only
  split <;> simp

theorem addressConflict_listenOnly (s : State) : (addressConflict s).bus.listenOnly = true := by
  unfold addressConflict
  dsimp only
  split
  next h => exact h
  next => rfl

theorem Bus.alerted_counts (b : Bus) (x : FlagSet) :
    (b.alerted x).marksLate = b.marksLate ∧ (b.alerted x).badFrames = b.badFrames := by
  unfold alerted
  (repeat' split) <;> exact ⟨rfl, rfl⟩

/-- A station that was not listen-only has its queue emptied (R55). -/
theorem addressConflict_bus {s : State} (quiet : s.bus.listenOnly = false) :
    ∃ x, (addressConflict s).bus = { (s.bus.alerted x).emptied with listenOnly := true } := by
  have raised := raise_bus_alerted .addrConflict s
  refine ⟨Flag.addrConflict.mask &&& s.scu.enabled &&& ~~~s.scu.raised, ?_⟩
  rw [← raised]
  unfold addressConflict
  dsimp only
  rw [if_neg (by rw [raised, (Bus.alerted_keeps _ _).2, quiet]; decide)]
  rfl

/-- A frame with the own address is an address conflict (R54). -/
theorem exec_of_own_address {s : State} {st : Stamp} {t : Instant} {i : Instr} (hears : s.hears st = true)
    (own : (∃ seq, i = .markFrame t s.pwr.address seq) ∨ (∃ f, i = .followFrame t s.pwr.address f) ∨
      (∃ f, i = .frameReceived t f ∧ readFrame f = .other s.pwr.address)) :
    exec i s = .next (addressConflict (s.heard t)) := by
  have address : (s.heard t).pwr.address = s.pwr.address := by simp
  obtain ⟨seq, rfl⟩ | ⟨f, rfl⟩ | ⟨f, rfl, read⟩ := own
  · show event (receive t (.mark s.pwr.address seq)) s = _
    rw [receive_of_hears t _ hears]
    exact congrArg _ (if_pos address.symm)
  · show event (receive t (.follow s.pwr.address f)) s = _
    rw [receive_of_hears t _ hears]
    exact congrArg _ (if_pos address.symm)
  · show event (receive t (readFrame f)) s = _
    rw [read, receive_of_hears t _ hears]
    exact congrArg _ (if_pos address.symm)

/-- A COMMAND laid out by R174 is received as the command that its code names. -/
theorem exec_frameReceived_commandRaw (t : Instant) (code : BitVec 8) (c : CommandFrame) (s : State) :
    exec (.frameReceived t (commandRaw code c)) s = event (receive t (.command code c)) s := by
  show event (receive t (readFrame (commandRaw code c))) s = _
  rw [readFrame_commandRaw]

end Sys2Proof.Machine

open Sys2Proof Sys2Proof.Machine

/-- Settles O29: the checks of `readFrame` are those of the rule. -/
theorem badFramesAreThoseOfTheRule : Obligations.BadFramesAreThoseOfTheRule := by
  intro f
  by_cases flags : f.remote ∨ f.extended
  · have read : readFrame f = .ignored := if_pos flags
    rw [read]
    constructor
    · intro h
      cases h
    · rintro ⟨hr, he, -⟩
      simp [hr, he] at flags
  · obtain ⟨hr, he⟩ : f.remote = false ∧ f.extended = false := by simpa using flags
    rw [readFrame_eq_bad_iff f hr he, and_iff_right hr, and_iff_right he]
    exact Iff.rfl

/-- Settles O30: the three layouts read back field by field, and each code's command receives just that frame. -/
theorem framesReadBackAsSent : Obligations.FramesReadBackAsSent := by
  refine ⟨readFrame_markRaw, readFrame_followRaw, readFrame_commandRaw, ?_, ?_, ?_, ?_⟩
  · intro s t a seq
    show event (receive t (readFrame (markRaw a seq))) s = _
    rw [readFrame_markRaw]
    rfl
  · intro s t a f
    show event (receive t (readFrame (followRaw a f))) s = _
    rw [readFrame_followRaw]
    rfl
  · intro s t code c _
    exact exec_frameReceived_commandRaw t code c s
  · intro s t c p hp
    rw [exec_frameReceived_commandRaw]
    simp only [List.mem_cons, List.not_mem_nil, or_false] at hp
    obtain rfl | rfl | rfl | rfl | rfl | rfl | rfl | rfl | rfl | rfl | rfl | rfl | rfl | rfl | rfl := hp
    all_goals rfl

/-- Settles O31: the hand-off of a reception, by what the frame turns out to be. -/
theorem receivedFramesDiscardedOrOwn : Obligations.ReceivedFramesDiscardedOrOwn := by
  refine ⟨fun s st t f hears => ⟨fun read => ?_, fun read => ?_, fun a read other => ?_⟩,
    fun s st t i hears own => ⟨_, exec_of_own_address hears own, fun f => ?_, addressConflict_listenOnly _,
      fun quiet => ?_, ?_⟩⟩
  · show event (receive t (readFrame f)) s = _
    rw [read, receive_of_hears t _ hears]
    simp [handOver, heard_bus]
  · show event (receive t (readFrame f)) s = _
    rw [read, receive_of_hears t _ hears]
    rfl
  · show event (receive t (readFrame f)) s = _
    rw [read, receive_of_hears t _ hears]
    exact congrArg _ (if_neg (by simpa using other))
  · simp [addressConflict_raised]
  · obtain ⟨x, bus⟩ := addressConflict_bus (s := s.heard t) (by simp [heard_bus, quiet])
    rw [bus]
    refine ⟨rfl, rfl, rfl, rfl, rfl, rfl, ?_⟩
    show ((s.heard t).bus.alerted x).marksLate = s.bus.marksLate
    rw [(Bus.alerted_counts _ _).1, heard_bus]
  · simp

end

section
/-! PROOF. Own attempts on the cabinet bus: what starts one, what its end does to its slot, the error counts, and the
deadlines (R56 to R62).
-/

namespace Sys2Proof.Machine

/-! ### What a raise and the end of an attempt do to the Bus Interface -/

/-- A raise touches the ALERT slot and the flags held aside alone (R60, R158). -/
@[simp] theorem raise_bus_keeps (f : Flag) (s : State) :
    (raise f s).bus.joined = s.bus.joined ∧ (raise f s).bus.error = s.bus.error ∧
    (raise f s).bus.transmitErrors = s.bus.transmitErrors ∧ (raise f s).bus.receiveErrors = s.bus.receiveErrors ∧
    (raise f s).bus.recovery = s.bus.recovery ∧ (raise f s).bus.dataErrors = s.bus.dataErrors ∧
    (raise f s).bus.listenOnly = s.bus.listenOnly ∧ (raise f s).bus.mark = s.bus.mark ∧
    (raise f s).bus.follow = s.bus.follow ∧ (raise f s).bus.status0 = s.bus.status0 ∧
    (raise f s).bus.status1 = s.bus.status1 ∧ (raise f s).bus.pages = s.bus.pages ∧
    (raise f s).bus.attempt = s.bus.attempt ∧ (raise f s).bus.seen = s.bus.seen ∧
    (raise f s).bus.waitSince = s.bus.waitSince ∧ (raise f s).bus.marksLate = s.bus.marksLate := by
  unfold raise offerAlert
  dsimp only
  (repeat' split) <;> simp

theorem attempting_of_attempt {b : Bus} {a : Attempt} (h : b.attempt = some a) (k : SlotKind) :
    b.attempting k = (a.inSlot && decide (a.slot = k)) := by
  simp [Bus.attempting, h]

/-- The frame of attempt `a` leaves the slot `k` at its end: it was sent, or its deadline passed (R61, R62). -/
def Attempt.leaves (a : Attempt) (sent : Bool) (k : SlotKind) : Bool :=
  a.inSlot && decide (a.slot = k) && (sent || a.expired)

/-- The MARK of attempt `a` is dropped late at its end (R62). -/
def Attempt.late (a : Attempt) (sent : Bool) : Bool := a.leaves sent .mark && !sent

/-- What the end of an attempt does to the slots of R62. -/
theorem settleSlot_slots (sent : Bool) (a : Attempt) (s : State) :
    (settleSlot sent a s).bus.mark = (if a.leaves sent .mark then none else s.bus.mark) ∧
    (settleSlot sent a s).bus.follow = (if a.leaves sent .follow then none else s.bus.follow) ∧
    (settleSlot sent a s).bus.pages = (if a.leaves sent .page then s.bus.pages.drop 1 else s.bus.pages) ∧
    (settleSlot sent a s).bus.marksLate = (if a.late sent then countUp s.bus.marksLate else s.bus.marksLate) := by
  unfold settleSlot Attempt.late Attempt.leaves dropMarkLate
  cases a.inSlot
  · simp
  · cases a.slot <;> cases sent <;> cases a.expired <;> simp

/-- What the end of an attempt leaves as it was in the Bus Interface. -/
@[simp] theorem settleSlot_bus_keeps (sent : Bool) (a : Attempt) (s : State) :
    (settleSlot sent a s).bus.error = s.bus.error ∧
    (settleSlot sent a s).bus.transmitErrors = s.bus.transmitErrors ∧
    (settleSlot sent a s).bus.receiveErrors = s.bus.receiveErrors ∧
    (settleSlot sent a s).bus.recovery = s.bus.recovery ∧ (settleSlot sent a s).bus.dataErrors = s.bus.dataErrors ∧
    (settleSlot sent a s).bus.listenOnly = s.bus.listenOnly ∧ (settleSlot sent a s).bus.attempt = s.bus.attempt ∧
    (settleSlot sent a s).bus.seen = s.bus.seen ∧ (settleSlot sent a s).bus.waitSince = s.bus.waitSince := by
  unfold settleSlot dropMarkLate
  cases a.inSlot
  · simp
  · cases a.slot <;> cases sent <;> cases a.expired <;> simp

/-- The end of an attempt raises MARK_LATE for a MARK dropped late, and nothing else (R62). -/
theorem settleSlot_raised (sent : Bool) (a : Attempt) (s : State) (f : Flag) :
    hasFlag (settleSlot sent a s).scu.raised f = (hasFlag s.scu.raised f || (a.late sent && decide (f = .markLate))) := by
  unfold settleSlot Attempt.late Attempt.leaves dropMarkLate
  cases a.inSlot
  · simp
  · cases a.slot <;> cases sent <;> cases a.expired <;> simp

/-- Where no MARK is dropped late, the end of an attempt touches the Bus Interface alone. -/
theorem settleSlot_eq_withBus {sent : Bool} {a : Attempt} (s : State) (h : a.late sent = false) :
    settleSlot sent a s = s.withBus (settleSlot sent a s).bus := by
  unfold Attempt.late Attempt.leaves at h
  unfold settleSlot
  cases hi : a.inSlot
  · rfl
  · cases hk : a.slot
    case mark =>
      cases sent
      · simp [hi, hk] at h
        simp [h]
      · rfl
    all_goals (cases sent <;> cases a.expired <;> rfl)

/-- The ALERT slot at the end of an attempt: the flags held aside follow a sent ALERT and join one that was not sent
(R60). -/
theorem settleSlot_alert {a : Attempt} (s : State) (inSlot : a.inSlot = true) (slot : a.slot = .alert) (sent : Bool) :
    (settleSlot sent a s).bus.alert =
      if sent then (if s.bus.aside = 0 then none else some s.bus.aside) else s.bus.alert.map (· ||| s.bus.aside) := by
  simp [settleSlot, inSlot, slot]

/-- The ALERT slot stays at the end of an attempt for another frame, where no MARK is dropped late. -/
theorem settleSlot_alert_of_ne {a : Attempt} {sent : Bool} (s : State) (h : a.late sent = false)
    (slot : (a.inSlot && decide (a.slot = .alert)) = false) : (settleSlot sent a s).bus.alert = s.bus.alert := by
  unfold Attempt.late Attempt.leaves at h
  unfold settleSlot
  cases hi : a.inSlot
  · rfl
  · cases hk : a.slot
    case mark =>
      cases sent
      · simp [hi, hk] at h
        simp [h]
      · rfl
    case alert => simp [hi, hk] at slot
    all_goals (cases sent <;> cases a.expired <;> rfl)

/-- The parts of a STATUS at the end of an attempt: content waiting for the slot goes there, and a sent part leaves
(R60). -/
theorem settleSlot_status (a : Attempt) (sent : Bool) (s : State) :
    (settleSlot sent a s).bus.status0 = (if a.inSlot && decide (a.slot = .status0) then
      (if s.bus.wait0.isSome then s.bus.wait0 else if sent then none else s.bus.status0) else s.bus.status0) ∧
    (settleSlot sent a s).bus.status1 = (if a.inSlot && decide (a.slot = .status1) then
      (if s.bus.wait1.isSome then s.bus.wait1 else if sent then none else s.bus.status1) else s.bus.status1) := by
  unfold settleSlot dropMarkLate
  cases a.inSlot
  · simp
  · cases a.slot <;> cases sent <;> cases a.expired <;> simp

/-! ### The error counts (R56 to R58) -/

theorem Bus.updateError_error {b : Bus} (h : b.error ≠ .busOff) :
    b.updateError.error = if b.transmitErrors < 128 ∧ b.receiveErrors < 128 then .errorActive else .errorPassive := by
  simp [updateError, h]

theorem Bus.countsHeld_eq_false {b : Bus} (h : b.error ≠ .busOff) (quiet : b.listenOnly = false) :
    b.countsHeld = false := by
  simp [countsHeld, h, quiet]

theorem Bus.lessTransmitError_transmitErrors (b : Bus) : b.lessTransmitError.transmitErrors =
    if b.countsHeld then b.transmitErrors else b.transmitErrors - 1 := by
  unfold lessTransmitError
  split <;> rfl

theorem Bus.addTransmitError_transmitErrors {b : Bus} (kind : BusError) (h : b.countsHeld = false) :
    (b.addTransmitError kind).transmitErrors =
      if kind = .acknowledgement ∧ b.error = .errorPassive then b.transmitErrors else b.transmitErrors + 8 := by
  simp only [addTransmitError, h, Bool.false_or, Bool.and_eq_true, decide_eq_true_eq]
  split <;> rfl

/-- BUS_OFF is entered with its flag where the transmit error count is above 255 (R58). -/
theorem checkBusOff_of_above {s : State} (h : s.bus.error ≠ .busOff) (above : 255 < s.bus.transmitErrors) :
    checkBusOff s = raise .busOff (s.withBus { s.bus with error := .busOff, recovery := 0 }) :=
  if_pos ⟨h, above⟩

theorem checkBusOff_of_not_above {s : State} (h : s.bus.transmitErrors ≤ 255) : checkBusOff s = s :=
  if_neg fun above => absurd above.2 (Nat.not_lt.mpr h)

/-- What the entry to BUS_OFF leaves as it was in the Bus Interface. -/
theorem checkBusOff_bus_keeps (s : State) :
    (checkBusOff s).bus.transmitErrors = s.bus.transmitErrors ∧
    (checkBusOff s).bus.receiveErrors = s.bus.receiveErrors ∧ (checkBusOff s).bus.dataErrors = s.bus.dataErrors ∧
    (checkBusOff s).bus.listenOnly = s.bus.listenOnly ∧ (checkBusOff s).bus.attempt = s.bus.attempt ∧
    (checkBusOff s).bus.seen = s.bus.seen ∧ (checkBusOff s).bus.mark = s.bus.mark ∧
    (checkBusOff s).bus.follow = s.bus.follow ∧ (checkBusOff s).bus.pages = s.bus.pages ∧
    (checkBusOff s).bus.marksLate = s.bus.marksLate := by
  unfold checkBusOff
  split <;> simp

theorem checkBusOff_raised_of_ne {f : Flag} (s : State) (h : f ≠ .busOff) :
    hasFlag (checkBusOff s).scu.raised f = hasFlag s.scu.raised f := by
  unfold checkBusOff
  split <;> simp [h]

/-- What an address conflict leaves as it was in the Bus Interface of a part with no attempt open. -/
theorem addressConflict_bus_keeps {s : State} (quiet : s.bus.listenOnly = false) (idle : s.bus.attempt = none) :
    (addressConflict s).bus.error = s.bus.error ∧
    (addressConflict s).bus.transmitErrors = s.bus.transmitErrors ∧
    (addressConflict s).bus.receiveErrors = s.bus.receiveErrors ∧
    (addressConflict s).bus.recovery = s.bus.recovery ∧ (addressConflict s).bus.dataErrors = s.bus.dataErrors ∧
    (addressConflict s).bus.seen = s.bus.seen ∧ (addressConflict s).bus.attempt = none ∧
    (addressConflict s).bus.waitSince = s.bus.waitSince ∧ (addressConflict s).bus.marksLate = s.bus.marksLate ∧
    (addressConflict s).bus.mark = none ∧ (addressConflict s).bus.follow = none ∧
    (addressConflict s).bus.pages = [] := by
  have open_ : ¬(raise .addrConflict s).bus.listenOnly = true := by simp [quiet]
  simp only [addressConflict, if_neg open_]
  simp [Bus.emptied, idle]

/-! ### Own attempts -/

theorem passiveWait_eq (rate : BusRate) : passiveWait rate = 8 * (match rate with
    | .kbit250 => 4000
    | .kbit500 => 2000
    | .kbit1000 => 1000) := by
  cases rate <;> rfl

theorem mayStart_iff (s : State) (t idle : Instant) : s.mayStart t idle = true ↔
    s.bus.joined = true ∧ s.bus.seen = none ∧ s.bus.attempt = none ∧ s.bus.error ≠ .busOff ∧
    s.bus.listenOnly = false ∧
    ∀ e, s.bus.waitSince = some e → s.bus.error = .errorPassive → e ≤ idle ∧ idle + passiveWait s.cfg.busRate ≤ t := by
  simp [State.mayStart, Bus.waitEnded_iff, and_assoc]

theorem startAttempt_of_arbiter {s : State} {t : Instant} {bus : BusTimes} {k : SlotKind}
    (may : s.mayStart t bus.idle = true) (first : s.bus.arbiter = some k) :
    startAttempt t bus s = (s.at t).withBus { s.bus with
      attempt := some
        { slot := k, inSlot := true, expired := false, drive := s.stamp t
          snapshot := if k = .mark then some s.snapshot else none
          frame := attemptFrame k s }
      seen := some (s.stampAhead bus.seen)
      waitSince := none } := by
  simp [startAttempt, may, first]

/-- The Bus Interface as the own attempt ends in a completion, its slot not yet settled (R56, R57, R61). -/
def Bus.completing (b : Bus) (t : Instant) : Bus :=
  ({ b with attempt := none, dataErrors := 0, seen := none }.lessTransmitError.updateError).afterAttempt t

theorem completeAttempt_eq {s : State} {a : Attempt} (t : Instant) (h : s.bus.attempt = some a) :
    completeAttempt t s = queueFollow a (settleSlot true a ((s.at t).withBus (s.bus.completing t))) := by
  simp [completeAttempt, h, Bus.completing]

@[simp] theorem Bus.completing_keeps (b : Bus) (t : Instant) :
    (b.completing t).attempt = none ∧ (b.completing t).dataErrors = 0 ∧
    (b.completing t).receiveErrors = b.receiveErrors ∧ (b.completing t).listenOnly = b.listenOnly ∧
    (b.completing t).mark = b.mark ∧ (b.completing t).follow = b.follow ∧ (b.completing t).pages = b.pages ∧
    (b.completing t).alert = b.alert ∧ (b.completing t).aside = b.aside ∧
    (b.completing t).status0 = b.status0 ∧ (b.completing t).status1 = b.status1 ∧
    (b.completing t).wait0 = b.wait0 ∧ (b.completing t).wait1 = b.wait1 := by
  simp [completing]

theorem Bus.completing_transmitErrors (b : Bus) (t : Instant) : (b.completing t).transmitErrors =
    if b.countsHeld then b.transmitErrors else b.transmitErrors - 1 := by
  simp [completing, lessTransmitError_transmitErrors, countsHeld]

theorem Bus.completing_waitSince (b : Bus) (t : Instant) : (b.completing t).waitSince =
    if (b.completing t).error = .errorPassive then some t else none :=
  rfl

/-- Queueing a FOLLOW touches its slot alone. -/
@[simp] theorem queueFollow_bus_keeps (a : Attempt) (s : State) :
    (queueFollow a s).bus.error = s.bus.error ∧ (queueFollow a s).bus.attempt = s.bus.attempt ∧
    (queueFollow a s).bus.dataErrors = s.bus.dataErrors ∧
    (queueFollow a s).bus.transmitErrors = s.bus.transmitErrors ∧
    (queueFollow a s).bus.receiveErrors = s.bus.receiveErrors ∧
    (queueFollow a s).bus.waitSince = s.bus.waitSince ∧ (queueFollow a s).bus.mark = s.bus.mark ∧
    (queueFollow a s).bus.pages = s.bus.pages ∧ (queueFollow a s).bus.alert = s.bus.alert ∧
    (queueFollow a s).bus.status0 = s.bus.status0 ∧ (queueFollow a s).bus.status1 = s.bus.status1 := by
  unfold queueFollow
  split
  · split <;> simp
  · simp

/-- A completed MARK leads to its FOLLOW in WARMUP and FAULT apart (R64). -/
theorem queueFollow_follow {a : Attempt} {n : Snapshot} {s : State} (inSlot : a.inSlot = true)
    (snapshot : a.snapshot = some n) (speaks : s.silent = false) (quiet : s.bus.listenOnly = false) :
    (queueFollow a s).bus.follow = some ⟨followOf a n, a.drive.instant + 200000000⟩ := by
  simp [queueFollow, inSlot, snapshot, speaks, quiet]

theorem queueFollow_of_none {a : Attempt} (s : State) (h : a.snapshot = none) : queueFollow a s = s := by
  simp [queueFollow, h]

/-- The Bus Interface as the own attempt loses arbitration, its slot not yet settled (R51, R57, R61). -/
def Bus.losing (b : Bus) (t : Instant) : Bus := { b with attempt := none, dataErrors := 0 }.afterAttempt t

@[simp] theorem Bus.losing_keeps (b : Bus) (t : Instant) :
    (b.losing t).attempt = none ∧ (b.losing t).dataErrors = 0 ∧ (b.losing t).seen = b.seen ∧
    (b.losing t).error = b.error ∧ (b.losing t).transmitErrors = b.transmitErrors ∧
    (b.losing t).receiveErrors = b.receiveErrors ∧ (b.losing t).mark = b.mark ∧ (b.losing t).follow = b.follow ∧
    (b.losing t).pages = b.pages ∧ (b.losing t).alert = b.alert ∧ (b.losing t).aside = b.aside ∧
    (b.losing t).status0 = b.status0 ∧ (b.losing t).status1 = b.status1 ∧ (b.losing t).wait0 = b.wait0 ∧
    (b.losing t).wait1 = b.wait1 ∧ (b.losing t).marksLate = b.marksLate ∧
    (b.losing t).waitSince = if b.error = .errorPassive then some t else none := by
  simp [losing, afterAttempt]

theorem loseArbitration_eq {s : State} {a : Attempt} (t : Instant) (h : s.bus.attempt = some a) :
    loseArbitration t s = settleSlot false a ((s.at t).withBus (s.bus.losing t)) := by
  simp [loseArbitration, h, Bus.losing]

/-- The data-field error count after an error of an own attempt, before three in a row return it to 0 (R54). -/
def Bus.dataErrorsAfter (b : Bus) (kind : BusError) (inData : Bool) : Nat :=
  if kind = .bit ∧ inData = true then b.dataErrors + 1 else 0

/-- The Bus Interface as an own attempt ends in an error, before the test for BUS_OFF (R51, R54, R56). -/
def Bus.failing (b : Bus) (kind : BusError) (inData : Bool) : Bus :=
  ({ b with
      attempt := none, seen := none
      dataErrors := if 3 ≤ b.dataErrorsAfter kind inData then 0 else b.dataErrorsAfter kind inData
    }.addTransmitError kind).updateError

@[simp] theorem Bus.failing_keeps (b : Bus) (kind : BusError) (inData : Bool) :
    (b.failing kind inData).attempt = none ∧ (b.failing kind inData).seen = none ∧
    (b.failing kind inData).listenOnly = b.listenOnly ∧
    (b.failing kind inData).receiveErrors = b.receiveErrors ∧ (b.failing kind inData).mark = b.mark ∧
    (b.failing kind inData).follow = b.follow ∧ (b.failing kind inData).pages = b.pages ∧
    (b.failing kind inData).marksLate = b.marksLate ∧
    (b.failing kind inData).dataErrors =
      if 3 ≤ b.dataErrorsAfter kind inData then 0 else b.dataErrorsAfter kind inData := by
  simp [failing]

/-- The transmit error count after an error of an own attempt (R56). -/
def Bus.transmitErrorsAfter (b : Bus) (kind : BusError) : Nat :=
  if kind = .acknowledgement ∧ b.error = .errorPassive then b.transmitErrors else b.transmitErrors + 8

theorem Bus.failing_counts {b : Bus} (kind : BusError) (inData : Bool) (on : b.error ≠ .busOff)
    (quiet : b.listenOnly = false) :
    (b.failing kind inData).transmitErrors = b.transmitErrorsAfter kind ∧
    (b.failing kind inData).error =
      if b.transmitErrorsAfter kind < 128 ∧ b.receiveErrors < 128 then .errorActive else .errorPassive := by
  have counts : ({ b with
      attempt := none, seen := none
      dataErrors := if 3 ≤ b.dataErrorsAfter kind inData then 0 else b.dataErrorsAfter kind inData
      }.addTransmitError kind).transmitErrors = b.transmitErrorsAfter kind :=
    addTransmitError_transmitErrors kind (countsHeld_eq_false on quiet)
  refine ⟨by simpa [failing] using counts, ?_⟩
  rw [failing, updateError_error (by simpa using on), counts]
  simp

/-- An own attempt's end in an error, with its slot settled and no address conflict found yet (R61). -/
def State.failed (s : State) (t : Instant) (kind : BusError) (inData : Bool) (a : Attempt) : State :=
  let u := checkBusOff ((s.at t).withBus (s.bus.failing kind inData))
  settleSlot false a (u.withBus (u.bus.afterAttempt t))

/-- What an own attempt's end in an error does to the Bus Interface, but for its slot (R51, R54, R56 to R58). -/
theorem failed_bus {s : State} (t : Instant) (kind : BusError) (inData : Bool) (a : Attempt)
    (on : s.bus.error ≠ .busOff) (quiet : s.bus.listenOnly = false) :
    (s.failed t kind inData a).bus.attempt = none ∧ (s.failed t kind inData a).bus.seen = none ∧
    (s.failed t kind inData a).bus.transmitErrors = s.bus.transmitErrorsAfter kind ∧
    (s.failed t kind inData a).bus.receiveErrors = s.bus.receiveErrors ∧
    (s.failed t kind inData a).bus.listenOnly = false ∧
    (s.failed t kind inData a).bus.dataErrors =
      (if 3 ≤ s.bus.dataErrorsAfter kind inData then 0 else s.bus.dataErrorsAfter kind inData) ∧
    (s.failed t kind inData a).bus.waitSince =
      if (s.failed t kind inData a).bus.error = .errorPassive then some t else none := by
  have counts := (Bus.failing_counts (b := s.bus) kind inData on quiet).1
  simp [State.failed, checkBusOff_bus_keeps, counts, quiet]
  rfl

/-- A transmit error count above 255 is BUS_OFF with its flag (R58). -/
theorem failed_of_above {s : State} (t : Instant) {kind : BusError} (inData : Bool) (a : Attempt)
    (on : s.bus.error ≠ .busOff) (quiet : s.bus.listenOnly = false) (above : 255 < s.bus.transmitErrorsAfter kind) :
    (s.failed t kind inData a).bus.error = .busOff ∧ (s.failed t kind inData a).bus.recovery = 0 ∧
      hasFlag (s.failed t kind inData a).scu.raised .busOff = true := by
  obtain ⟨transmitErrors, error⟩ := Bus.failing_counts (b := s.bus) kind inData on quiet
  have off := checkBusOff_of_above (s := (s.at t).withBus (s.bus.failing kind inData))
    (by rw [State.withBus_bus, error]; split <;> decide) (by rw [State.withBus_bus, transmitErrors]; exact above)
  simp [State.failed, off, settleSlot_raised]

/-- A transmit error count of at most 255 sets the error state with the receive error count (R57). -/
theorem failed_of_not_above {s : State} (t : Instant) {kind : BusError} (inData : Bool) (a : Attempt)
    (on : s.bus.error ≠ .busOff) (quiet : s.bus.listenOnly = false) (h : s.bus.transmitErrorsAfter kind ≤ 255) :
    (s.failed t kind inData a).bus.error =
      if s.bus.transmitErrorsAfter kind < 128 ∧ s.bus.receiveErrors < 128 then .errorActive else .errorPassive := by
  obtain ⟨transmitErrors, error⟩ := Bus.failing_counts (b := s.bus) kind inData on quiet
  have below := checkBusOff_of_not_above (s := (s.at t).withBus (s.bus.failing kind inData))
    (by rw [State.withBus_bus, transmitErrors]; exact h)
  simp [State.failed, below, error]

/-- What an own attempt's end in an error does to the slots of R62. -/
theorem failed_slots (s : State) (t : Instant) (kind : BusError) (inData : Bool) (a : Attempt) :
    (s.failed t kind inData a).bus.mark = (if a.leaves false .mark then none else s.bus.mark) ∧
    (s.failed t kind inData a).bus.follow = (if a.leaves false .follow then none else s.bus.follow) ∧
    (s.failed t kind inData a).bus.pages = (if a.leaves false .page then s.bus.pages.drop 1 else s.bus.pages) ∧
    (s.failed t kind inData a).bus.marksLate =
      (if a.late false then countUp s.bus.marksLate else s.bus.marksLate) := by
  simp [State.failed, settleSlot_slots, checkBusOff_bus_keeps]

theorem failed_raised_markLate (s : State) (t : Instant) (kind : BusError) (inData : Bool) (a : Attempt) :
    hasFlag (s.failed t kind inData a).scu.raised .markLate = (hasFlag s.scu.raised .markLate || a.late false) := by
  simp [State.failed, settleSlot_raised, checkBusOff_raised_of_ne]

theorem failAttempt_eq {s : State} {a : Attempt} (t : Instant) (kind : BusError) (inData : Bool)
    (h : s.bus.attempt = some a) :
    failAttempt t kind inData s =
      if 3 ≤ s.bus.dataErrorsAfter kind inData then addressConflict (s.failed t kind inData a)
      else s.failed t kind inData a := by
  simp only [failAttempt, h]
  rfl

end Sys2Proof.Machine

open Sys2Proof Sys2Proof.Machine

/-- Settles O28: a deadline finds its frame under attempt, and marks it expired, or drops it. -/
theorem deadlinesDropFrames : Obligations.DeadlinesDropFrames := by
  refine ⟨fun s m ready mark free => ?_, fun s f ready follow free => ?_, fun s i p ready page free => ?_,
    fun s m a ready mark attempt slot inSlot => ?_, fun s f a ready follow attempt slot inSlot => ?_,
    fun s p a ready attempt slot inSlot => ⟨fun page => ?_, fun page => ?_⟩⟩
  · have dropped : exec .markDeadline s = .next (dropMarkLate (s.at m.deadline)) := by
      show event markDeadline s = _
      rw [event_of_ready _ ready]
      simp [markDeadline, mark, free]
    exact ⟨_, dropped, by simp [dropMarkLate]⟩
  · show event followDeadline s = _
    rw [event_of_ready _ ready]
    simp [followDeadline, follow, free]
  · show event (pageDeadline i) s = _
    rw [event_of_ready _ ready]
    simp [pageDeadline, page, free]
  · have taken : s.bus.attempting .mark = true := by simp [attempting_of_attempt attempt, slot, inSlot]
    show event markDeadline s = _
    rw [event_of_ready _ ready]
    simp [markDeadline, mark, taken, Bus.expireAttempt, attempt]
  · have taken : s.bus.attempting .follow = true := by simp [attempting_of_attempt attempt, slot, inSlot]
    show event followDeadline s = _
    rw [event_of_ready _ ready]
    simp [followDeadline, follow, taken, Bus.expireAttempt, attempt]
  · have taken : s.bus.attempting .page = true := by simp [attempting_of_attempt attempt, slot, inSlot]
    show event (pageDeadline 0) s = _
    rw [event_of_ready _ ready]
    simp [pageDeadline, page, taken, Bus.expireAttempt, attempt]
  · show event (pageDeadline 1) s = _
    rw [event_of_ready _ ready]
    simp [pageDeadline, page]

/-- Settles O23: the arbiter's choice is the first slot filled, and the frame is that slot's. -/
theorem attemptTakesFirstSlot : Obligations.AttemptTakesFirstSlot := by
  refine ⟨fun s t bus ready may => ?_, fun s t idle => ?_, fun s u => ⟨fun h => ?_, fun h => ?_⟩,
    fun s t bus k kind data ready may first => ?_⟩
  · show event (startAttempt t bus) s = _
    rw [event_of_ready _ ready]
    simp [startAttempt, may]
  · have may := mayStart_iff s t idle
    rw [passiveWait_eq] at may
    exact may
  · exact if_neg (Int.not_lt.mpr h)
  · exact if_pos h
  · have slot : s.bus.arbiter = some k ∧
        attemptFrame k s = ⟨false, false, BitVec.ofNat 11 (kind * 32 + (s.pwr.address.val + 1)), data⟩ := by
      obtain ⟨rfl, rfl, m, mark, rfl⟩ | ⟨rfl, rfl, mark, f, follow, rfl⟩ | ⟨rfl, rfl, mark, follow, m, alert, rfl⟩ |
        ⟨rfl, rfl, mark, follow, alert, status0⟩ | ⟨rfl, rfl, mark, follow, alert, status0, status1⟩ |
        ⟨rfl, rfl, mark, follow, alert, status0, status1, p, rest, pages, rfl⟩ := first
      all_goals simp [Bus.arbiter, attemptFrame, ownFrame, identOf, alertBytes, *]
    refine ⟨_, ?_, rfl⟩
    show event (startAttempt t bus) s = _
    rw [event_of_ready _ ready, startAttempt_of_arbiter may slot.1, slot.2]
    rfl

/-- Settles O24: the completed frame leaves its slot, and a MARK's snapshot becomes the FOLLOW. -/
theorem completedAttemptLeavesItsSlot : Obligations.CompletedAttemptLeavesItsSlot := by
  intro s t a ready attempt inSlot
  have run : exec (.attemptCompleted t) s = .next (completeAttempt t s) := by
    show event (completeAttempt t) s = _
    rw [event_of_ready _ ready]
  rw [completeAttempt_eq t attempt] at run
  obtain ⟨mark, follow, pages, -⟩ := settleSlot_slots true a ((s.at t).withBus (s.bus.completing t))
  obtain ⟨status0, status1⟩ := settleSlot_status a true ((s.at t).withBus (s.bus.completing t))
  have touched := settleSlot_eq_withBus (sent := true) (a := a) ((s.at t).withBus (s.bus.completing t))
    (by simp [Attempt.late])
  have scu : (settleSlot true a ((s.at t).withBus (s.bus.completing t))).scu = s.scu := by rw [touched]; simp
  have speaks : (settleSlot true a ((s.at t).withBus (s.bus.completing t))).silent = s.silent := by
    simp [State.silent]
  refine ⟨_, run, by simp, by simp, by simp, by simp, ?_, fun on quiet => ?_, fun held => ?_, fun slot => ?_,
    fun slot loud quiet n c snapshot cls ns u => ?_, fun slot loud quiet snapshot past ns => ?_,
    fun slot snapshot => ?_, fun slot => ?_, fun slot => ?_, fun slot => ?_, fun slot => ?_, by simp, by simp,
    by simp, by simp, by simp [scu], by simp, by simp⟩
  · simp [Bus.completing_waitSince]
  · simp [Bus.completing_transmitErrors, Bus.countsHeld, on, quiet]
  · simp [Bus.completing_transmitErrors, Bus.countsHeld, held]
  · simp [mark, Attempt.leaves, inSlot, slot]
  · refine ⟨_, queueFollow_follow inSlot snapshot (speaks.trans loud) (by simp [quiet]), rfl, rfl, ?_, ?_, rfl, rfl, ?_⟩
    · simp [followOf, cls]
    · simp [followOf, ns]
      omega
    · simp [followOf, Config.saturatedU, u]
      omega
  · obtain ⟨n, snapshot⟩ := Option.ne_none_iff_exists'.mp snapshot
    refine ⟨_, queueFollow_follow inSlot snapshot (speaks.trans loud) (by simp [quiet]), ?_⟩
    simp [followOf, Nat.not_lt.mpr past]
    omega
  · rw [queueFollow_of_none _ snapshot, follow]
    simp [Attempt.leaves, inSlot, slot]
  · simp [pages, Attempt.leaves, inSlot, slot]
  · cases w : s.bus.wait0 <;> simp [status0, inSlot, slot, w]
  · cases w : s.bus.wait1 <;> simp [status1, inSlot, slot, w]
  · simp [settleSlot_alert _ inSlot slot]

/-- Settles O25: the lost frame goes back to its slot, unless its deadline passed; an edge of another party's ends a
wait. -/
theorem arbitrationLostKeepsTheFrame : Obligations.ArbitrationLostKeepsTheFrame := by
  refine ⟨fun s t a ready attempt fresh => ?_, fun s t a ready attempt expired inSlot => ?_,
    fun s t idle ready joined free => ?_⟩
  · have kept : a.late false = false := by simp [Attempt.late, Attempt.leaves, fresh]
    refine ⟨(loseArbitration t s).bus, ?_, ?_⟩
    · show event (loseArbitration t) s = _
      rw [event_of_ready _ ready, loseArbitration_eq t attempt, settleSlot_eq_withBus _ kept]
      rfl
    · rw [loseArbitration_eq t attempt]
      obtain ⟨mark, follow, pages, -⟩ := settleSlot_slots false a
        ((s.at t).withBus (s.bus.losing t))
      obtain ⟨status0, status1⟩ := settleSlot_status a false
        ((s.at t).withBus (s.bus.losing t))
      refine ⟨by simp, by simp, by simp, by simp, by simp, by simp, by simp, ?_, ?_, ?_, fun w => ?_,
        fun w => ?_, fun aside => ?_⟩
      · simp [mark, Attempt.leaves, fresh]
      · simp [follow, Attempt.leaves, fresh]
      · simp [pages, Attempt.leaves, fresh]
      · simp [status0, w]
      · simp [status1, w]
      · cases slot : (a.inSlot && decide (a.slot = .alert))
        · simp [settleSlot_alert_of_ne _ kept slot]
        · simp only [Bool.and_eq_true, decide_eq_true_eq] at slot
          simp [settleSlot_alert _ slot.1 slot.2, aside]
  · have run : exec (.arbitrationLost t) s = .next (loseArbitration t s) := by
      show event (loseArbitration t) s = _
      rw [event_of_ready _ ready]
    rw [loseArbitration_eq t attempt] at run
    obtain ⟨mark, follow, pages, late⟩ := settleSlot_slots false a
      ((s.at t).withBus (s.bus.losing t))
    refine ⟨_, run, by simp, by simp, fun slot => ?_, fun slot => ?_, fun slot => ?_, fun slot => ?_, by simp, by simp,
      by simp, by simp⟩
    · simp [mark, follow, pages, late, settleSlot_raised, Attempt.late, Attempt.leaves, slot, inSlot, expired]
    · simp [mark, follow, pages, Attempt.leaves, slot, inSlot, expired]
    · simp [mark, follow, pages, Attempt.leaves, slot, inSlot, expired]
    · have kept : a.late false = false := by simp [Attempt.late, Attempt.leaves, slot]
      rw [late, kept, settleSlot_eq_withBus _ kept]
      simp
  · refine ⟨if s.bus.waitEnded s.cfg.busRate t idle then none else some t, ?_, fun past => ?_, fun e since passive => ?_⟩
    · show execStartOfFrameEdgeSeen ⟨idle, t⟩ s = _
      rw [execStartOfFrameEdgeSeen, event_of_ready _ ready]
      simp [joined, free, seeEdge, Bus.afterEdge, State.stamp]
    · refine if_pos ((Bus.waitEnded_iff _ _ _ _).mpr fun e since passive => ?_)
      obtain none_ | active := past
      · simp [none_] at since
      · exact absurd passive active
    · have ended : s.bus.waitEnded s.cfg.busRate t idle = true ↔
          e ≤ idle ∧ idle + passiveWait s.cfg.busRate ≤ t := by
        simp [Bus.waitEnded_iff, since, passive]
      rw [passiveWait_eq] at ended
      exact ite_congr (propext ended) (fun _ => rfl) (fun _ => rfl)

/-- Settles O26: the counts and the slot first, then, at a third data-field bit error in a row, the address conflict. -/
theorem busErrorsCounted : Obligations.BusErrorsCounted := by
  refine ⟨fun s t a kind inData ready attempt on quiet => ?_, fun s t kind ready joined free on quiet => ?_⟩
  · have run : exec (.transmitError t kind inData) s = .next (failAttempt t kind inData s) := by
      show event (failAttempt t kind inData) s = _
      rw [event_of_ready _ ready]
    rw [failAttempt_eq t kind inData attempt] at run
    obtain ⟨noAttempt, seen, transmitErrors, receiveErrors, listenOnly, dataErrors, waitSince⟩ :=
      failed_bus t kind inData a on quiet
    obtain ⟨mark, follow, pages, marksLate⟩ := failed_slots s t kind inData a
    have raised := failed_raised_markLate s t kind inData a
    have off := failed_of_above t inData a (kind := kind) on quiet
    have count := failed_of_not_above t inData a (kind := kind) on quiet
    by_cases third : 3 ≤ s.bus.dataErrorsAfter kind inData
    · rw [if_pos third] at run dataErrors
      obtain ⟨cError, cTransmit, cReceive, cRecovery, cData, cSeen, cAttempt, cWait, cLate, cMark, cFollow, cPages⟩ :=
        addressConflict_bus_keeps listenOnly noAttempt
      refine ⟨_, run, cAttempt, cSeen.trans seen, cTransmit.trans transmitErrors, cReceive.trans receiveErrors,
        by rw [cWait, cError, waitSince], fun above => ?_, fun below => by rw [cError, count below]; rfl, fun _ => ?_,
        fun few => absurd third (Nat.not_le.mpr few), fun expired inSlot => ⟨fun slot => ?_, fun _ => cFollow,
          fun _ few => absurd third (Nat.not_le.mpr few), fun slot => ?_⟩, by simp [State.failed], by simp [State.failed],
        by simp [State.failed], by simp [State.failed], by simp [State.failed]⟩
      · simp [cError, cRecovery, addressConflict_raised, off above]
      · simp [cData, dataErrors, addressConflict_listenOnly, cMark, cPages, addressConflict_raised]
      · simp [cMark, cLate, marksLate, addressConflict_raised, raised, Attempt.late, Attempt.leaves, slot, inSlot, expired]
      · simp [addressConflict_raised, raised, Attempt.late, Attempt.leaves, slot]
    · rw [if_neg third] at run dataErrors
      refine ⟨_, run, noAttempt, seen, transmitErrors, receiveErrors, waitSince, off, count,
        fun many => absurd many third, fun _ => ⟨dataErrors, listenOnly, fun fresh => ?_⟩,
        fun expired inSlot => ⟨fun slot => ?_, fun slot => ?_, fun slot _ => ?_, fun slot => ?_⟩,
        by simp [State.failed], by simp [State.failed], by simp [State.failed], by simp [State.failed],
        by simp [State.failed]⟩
      · simp [mark, follow, pages, Attempt.leaves, fresh]
      · simp [mark, marksLate, raised, Attempt.late, Attempt.leaves, slot, inSlot, expired]
      · simp [follow, Attempt.leaves, slot, inSlot, expired]
      · simp [pages, Attempt.leaves, slot, inSlot, expired]
      · simp [raised, Attempt.late, Attempt.leaves, slot]
  · refine ⟨_, ?_, rfl⟩
    show execReceiveError t kind s = _
    rw [execReceiveError, event_of_ready _ ready]
    have open_ := Bus.countsHeld_eq_false on quiet
    have passive : min 255 (s.bus.receiveErrors + 1) < 128 ↔ s.bus.receiveErrors + 1 < 128 := by omega
    simp [joined, free, failReception, Bus.addReceiveError, Bus.updateError, open_, on, passive]

end

section
/-! PROOF. What taking what fell due leaves: nothing due (log entry 4), a steering limit before the other rows (R119).
-/

namespace Sys2Proof.Machine

/-! ### The stages of the boundary's work -/

theorem Monitor.entered_stage (m : Monitor) (c : Settings) (q : Qualification) : (m.entered c q).stage = m.stage := by
  cases q <;> rfl

@[simp] theorem enterQual_stage (q : Qualification) (s : State) : (enterQual q s).mon.stage = s.mon.stage := by
  simp [enterQual, Monitor.entered_stage]

@[simp] theorem orderDisqualification_stage (s : State) : (orderDisqualification s).mon.stage = s.mon.stage := by
  obtain e | e := orderDisqualification_eq s <;> simp [e]

@[simp] theorem residualFault_stage (s : State) : (residualFault s).mon.stage = s.mon.stage := by
  unfold residualFault
  dsimp only
  split <;> simp

@[simp] theorem completeBlock_stage (s : State) : (completeBlock s).mon.stage = s.mon.stage := by
  unfold completeBlock
  dsimp only
  split <;> split <;> simp [Monitor.emptyBlock]

@[simp] theorem addToBlock_stage (m : Int) (tag : Second) (s : State) : (addToBlock m tag s).mon.stage = s.mon.stage := by
  exact keeps_ite (P := fun t => t.mon.stage = s.mon.stage) (fun _ => completeBlock_stage _) fun _ => rfl

@[simp] theorem checkMeasurement_stage (m : Int) (tag : Second) (s : State) :
    (checkMeasurement m tag s).mon.stage = s.mon.stage := by
  obtain e | e | ⟨r, e⟩ := checkMeasurement_cases m tag s
  · rw [e]
  · simp [e]
  · rw [e]
    (repeat' split) <;> simp [State.judged]

@[simp] theorem measureHeld_stage (s : State) : (measureHeld s).mon.stage = .idle := by
  unfold measureHeld
  dsimp only
  split
  · split <;> simp [measure]
  · simp

theorem countDown_stage (s : State) : (countDown s).mon.stage = if s.mon.counted.timerDue then .expiry else .idle := by
  rw [countDown_eq]
  split <;> simp

@[simp] theorem takeExpiry_stage (s : State) : (takeExpiry s).mon.stage = .idle := by
  unfold takeExpiry
  split <;> simp [takeQualification, takeHoldoff]

@[simp] theorem settleMonitor_stage (s : State) : (settleMonitor s).mon.stage = .idle := by
  unfold settleMonitor
  cases h : s.mon.stage with
  | idle => simp [h]
  | stale =>
    have stage := countDown_stage (s.withMon s.mon.emptyBlock)
    cases due : (s.withMon s.mon.emptyBlock).mon.counted.timerDue
    all_goals
      rw [due] at stage
      simp [takeStaleBlock, stage]
  | expiry => simp [h]

/-- A point reaches the stages of neither unit. -/
theorem observationPoint_stages (s : State) :
    (observationPoint s).mon.stage = s.mon.stage ∧ (observationPoint s).ptu.stage = s.ptu.stage := by
  rw [observationPoint_eq]
  split <;> simp [formResults]

theorem pointDue_stages (s : State) : (pointDue s).mon.stage = s.mon.stage ∧ (pointDue s).ptu.stage = .idle := by
  unfold pointDue
  dsimp only
  split
  · obtain ⟨mon, ptu⟩ := observationPoint_stages (s.withPtu { s.ptu with stage := .idle })
    rw [mon, ptu]
    exact ⟨rfl, rfl⟩
  · exact ⟨rfl, rfl⟩

theorem afterQuarantine_stages (s : State) : (afterQuarantine s).mon.stage = s.mon.stage ∧
    (afterQuarantine s).ptu.stage = if addresses.any s.quarantineOver then .quarantine else .idle := by
  unfold afterQuarantine
  split
  · exact ⟨rfl, rfl⟩
  · exact pointDue_stages s

theorem countQuarantine_mon_stage (s : State) : (countQuarantine s).mon.stage = s.mon.stage :=
  (afterQuarantine_stages _).1

theorem countQuarantine_ptu_stage (s : State) : (countQuarantine s).ptu.stage ≠ .expiry := by
  rw [countQuarantine, (afterQuarantine_stages _).2]
  split <;> decide

theorem settlePeers_stages (s : State) :
    (settlePeers s).mon.stage = s.mon.stage ∧ (settlePeers s).ptu.stage = .idle := by
  have counted : ∀ t : State, t.ptu.stage ≠ .expiry → t.mon.stage = s.mon.stage →
      (if t.ptu.stage = .quarantine then pointDue (endAll addresses t) else t).mon.stage = s.mon.stage ∧
      (if t.ptu.stage = .quarantine then pointDue (endAll addresses t) else t).ptu.stage = .idle := by
    intro t ht hm
    split
    · rw [(pointDue_stages _).1, (pointDue_stages _).2]
      simp [hm]
    · next hq =>
      refine ⟨hm, ?_⟩
      cases h : t.ptu.stage
      · rfl
      · exact absurd h ht
      · exact absurd h hq
  unfold settlePeers
  dsimp only
  split
  · exact counted _ (countQuarantine_ptu_stage _) (by simp [countQuarantine_mon_stage])
  · next h => exact counted s h rfl

/-! ### What else can be due -/

/-- The steer-limit counter is at most `n` while the station tracks. -/
def Engine.SteerWithin (n : Nat) (e : Engine) : Prop := e.state = .locked ∨ e.state = .follow → e.steerCount ≤ n

/-- The steering limit is not reached while the station tracks (R119). -/
abbrev Engine.SteerBelow (e : Engine) : Prop := e.SteerWithin 599

theorem steerDue_iff (s : State) : s.steerDue = false ↔ s.eng.SteerBelow := by
  simp only [State.steerDue, Engine.SteerBelow, Engine.SteerWithin, Bool.and_eq_false_imp, Bool.or_eq_true, decide_eq_true_eq,
    decide_eq_false_iff_not, Nat.not_le, Nat.lt_succ_iff]

/-- The engine's operations but its work at a boundary move the counter no further. -/
theorem steerWithin_walk (n : Nat) : EngineWalk (Engine.SteerWithin n) False where
  plain e f state _ _ _ _ _ _ steer _ _ _ h := by
    unfold Engine.SteerWithin
    rw [state, steer]
    exact h
  order _ _ _ h := h
  unordered _ h := h
  predicted _ _ _ h := h
  nudged _ _ _ h := h
  counted _ _ _ h := h
  locked _ _ _ _ := Nat.zero_le n
  large _ _ _ h := h
  steered boundary := boundary.elim
  disagreed _ _ _ h := h
  acquire _ _ _ h := by simp [Engine.entering] at h
  back _ _ _ h := by simp [Engine.entering] at h
  follow e t h _ := by
    by_cases locked : e.state = .locked
    · simpa [Engine.entering, locked] using h (.inl locked)
    · simp [Engine.entering, locked]
  holdover _ _ _ h := by simp [Engine.entering] at h
  freerun _ _ h := by simp [Engine.entering] at h
  warmup _ _ h := by simp [Engine.entering] at h
  faulted _ _ h := by simp [Engine.faulted] at h

theorem steerBelow_walk : EngineWalk Engine.SteerBelow False := steerWithin_walk 599

/-- What the record satisfies after every operation of the engine but its work at a boundary, the due work of the other
blocks keeps. -/
theorem EngineWalk.dueKept {Q : Engine → Prop} {b : Prop} (w : EngineWalk Q b) : DueKept fun s => Q s.eng where
  enterQual q s h := w.selectSource _ h
  takeObservation _ y s h := w.selectSource _ (w.observationInput y s h)
  takePoint _ s h := by
    by_cases hs : s.silent = true
    · rwa [takePoint_of_silent hs]
    · rw [takePoint_of_not_silent (by simpa using hs)]
      exact w.selectSource _ (w.pointInput s h)

theorem learnOffer_agingClock (v : Int) (s : State) : (learnOffer v s).lrn.agingClock = s.lrn.agingClock := by
  obtain e | ⟨-, b, -, e⟩ := learnOffer_cases v s <;> rw [e]
  rfl

/-- The aging clock is not moved by the due work of the other blocks. -/
theorem agingClock_dueKept (n : Nat) : DueKept fun s => s.lrn.agingClock = n := by
  have w : Walk fun s => s.lrn.agingClock = n := {
    learnOffer := fun v s _ h => by rw [learnOffer_agingClock, h] }
  exact { takeObservation := w.engineKept.takeObservation, takePoint := w.engineKept.takePoint }

/-! ### The end of warm-up -/

/-- An input in ACQUIRE locks at the fourth small one in a row at the earliest (R115). -/
theorem acquireInput_state_of_few (y : Int) (period : Nat) {s : State} (few : s.eng.lockCount < 3) :
    (acquireInput y period s).eng.state = s.eng.state := by
  by_cases large : s.cfg.stepThreshold < y.natAbs
  · rw [acquireInput_of_large period large]
    simp
  · have below : s.lockCountAfter y < 4 := by
      unfold State.lockCountAfter
      split <;> omega
    rw [acquireInput_of_small period (Nat.not_lt.mp large), if_neg (Nat.not_le.mpr below)]
    exact (loopUpdate_state y period 64 s).1

/-- The first input after an entry to ACQUIRE on a tier does not lock (R107, R115). -/
theorem enterAcquireTier_state (t : Tier) (c : Consensus) (s : State) : (enterAcquireTier t c s).eng.state = .acquire := by
  obtain ⟨o, e⟩ := enterState_eng .acquire (some (.tier t)) (tierEntry t c) s
  rw [enterAcquireTier_eq, e]
  exact acquireInput_state_of_few _ _ (by decide : 0 < 3)

/-- A selection leaves no station in WARMUP (R104, R106). -/
theorem applySelection_not_warmup (s : State) : (applySelection s).eng.state ≠ .warmup := by
  unfold applySelection
  split
  · split
    · next on => intro h; simp [State.onSource, h] at on
    · simp [enterAcquireReference_course]
  · next t selected =>
    split
    · next on => intro h; cases t <;> simp [State.onSource, h] at on
    · obtain ⟨c, consensus⟩ := State.consensus_of_selected selected
      rw [consensus]
      dsimp only
      split
      · simp [enterFollow_course]
      · simp [enterAcquireTier_state]
  · split
    · next h => simp [h]
    · simp [enterHoldover_course]
  · split
    · next h => simp [h]
    · simp [enterFreerun_course]

/-! ### Taking it all -/

/-- After an aging sample none is due (R146). -/
theorem agingDue_sampled (s : State) : (if s.agingDue then takeAgingSample s else s).agingDue = false := by
  split
  · obtain ⟨a, r, e, -⟩ := takeAgingSample_eq s
    rw [e]
    rfl
  · next h => exact Bool.eq_false_iff.mpr h

theorem settleSteer_steerBelow (s : State) : (settleSteer s).eng.SteerBelow := by
  unfold settleSteer
  split
  · intro h
    simp [takeSteerLimit] at h
  · next h => exact (steerDue_iff s).mp (Bool.eq_false_iff.mpr h)

theorem recoveryDue_taken (s : State) : (if s.recoveryDue then takeRecovery s else s).recoveryDue = false := by
  split
  · rfl
  · next h => exact Bool.eq_false_iff.mpr h

/-- The due work of the blocks, but for the end of warm-up and the recovery from BUS_OFF. -/
def State.worked (s : State) : State :=
  settlePeers (settleMonitor (settleSteer (if s.agingDue then takeAgingSample s else s)))

theorem settle_eq {s : State} (running : s.running = true) : settle s =
    if (if s.worked.warmupDue then applySelection s.worked else s.worked).recoveryDue then
      takeRecovery (if s.worked.warmupDue then applySelection s.worked else s.worked)
    else if s.worked.warmupDue then applySelection s.worked else s.worked :=
  if_pos running

/-- No stage holds work, no aging sample is due, and the steering limit is not reached. -/
structure State.AtRest (s : State) : Prop where
  monitor : s.mon.stage = .idle
  peers : s.ptu.stage = .idle
  aging : s.agingDue = false
  steer : s.eng.SteerBelow

theorem worked_atRest (s : State) : s.worked.AtRest where
  monitor := by rw [State.worked, (settlePeers_stages _).1, settleMonitor_stage]
  peers := (settlePeers_stages _).2
  aging := by
    have clock := agingClock_dueKept (if s.agingDue then takeAgingSample s else s).lrn.agingClock
    have same := clock.settlePeers trivial _ (clock.settleMonitor trivial
      (settleSteer (if s.agingDue then takeAgingSample s else s)) (by simp))
    have sampled := agingDue_sampled s
    unfold State.agingDue at sampled ⊢
    rw [State.worked, same]
    exact sampled
  steer := steerBelow_walk.dueKept.settlePeers trivial _ (steerBelow_walk.dueKept.settleMonitor trivial _
    (settleSteer_steerBelow _))

theorem State.AtRest.applySelection {s : State} (h : s.AtRest) : (applySelection s).AtRest where
  monitor := by simp [h.monitor]
  peers := by simp [h.peers]
  aging := by
    have aging := h.aging
    unfold State.agingDue at aging ⊢
    rwa [applySelection_lrn]
  steer := steerBelow_walk.applySelection _ h.steer

theorem State.AtRest.takeRecovery {s : State} (h : s.AtRest) : (takeRecovery s).AtRest :=
  ⟨h.monitor, h.peers, h.aging, h.steer⟩

/-- Taking what is due leaves nothing due (log entry 4). -/
theorem settle_settled {s : State} (running : s.running = true) : (settle s).settled = true := by
  have rest : (if s.worked.warmupDue then applySelection s.worked else s.worked).AtRest :=
    keeps_ite (P := State.AtRest) (fun _ => (worked_atRest s).applySelection) fun _ => worked_atRest s
  have warm : (if s.worked.warmupDue then applySelection s.worked else s.worked).warmupDue = false := by
    split
    · simp [State.warmupDue, applySelection_not_warmup]
    · next h => exact Bool.eq_false_iff.mpr h
  have recovered := recoveryDue_taken (if s.worked.warmupDue then applySelection s.worked else s.worked)
  rw [settle_eq running]
  generalize (if s.worked.warmupDue then applySelection s.worked else s.worked) = t at rest warm recovered ⊢
  have all : (if t.recoveryDue then takeRecovery t else t).AtRest :=
    keeps_ite (P := State.AtRest) (fun _ => rest.takeRecovery) fun _ => rest
  have cold : (if t.recoveryDue then takeRecovery t else t).warmupDue = false := by
    split
    · exact warm
    · exact warm
  simp [State.settled, all.monitor, all.peers, all.aging, (steerDue_iff _).mpr all.steer, cold, recovered]

/-- Taking what is due twice is taking it once. -/
theorem settle_settle {s : State} (running : s.running = true) : settle (settle s) = settle s :=
  settle_of_settled (settle_settled running)

theorem event_settle {s : State} (f : State → State) (running : s.running = true) : event f s = event f (settle s) := by
  simp [event, running, settle_settle running]

/-- What fell due is taken before a command that takes it first. -/
theorem exec_settle {i : Instr} {s : State} (first : takesDueFirst i = true) (running : s.running = true) :
    exec i s = exec i (settle s) := by
  have same := fun f => event_settle f running
  have dead : (settle s).running = true := by simpa using running
  unfold Machine.exec
  cases i with
  | supplyGood | supplyLoss | resetNAssert | resetNRelease | openSecond0 => cases first
  | staleBlock | qualificationTimerExpiry | holdoffExpiry | peerExpiry | quarantineEnd => cases first
  | steerLimitReached | warmupExpiry | agingSample | busOffRecovery => cases first
  | oscGap t =>
    show execOscGap t s = execOscGap t (settle s)
    rw [execOscGap, execOscGap, if_pos running, if_pos dead]
    exact same _
  | sitePwrEdge t b =>
    show execSitePwrEdge t b s = execSitePwrEdge t b (settle s)
    rw [execSitePwrEdge, execSitePwrEdge, if_pos running, if_pos dead]
    exact same _
  | _ => exact same _

/-! ### The steering limit first (R119) -/

theorem takeSteerLimit_not_due (s : State) : (takeSteerLimit s).steerDue = false := by
  simp [State.steerDue, takeSteerLimit]

theorem settleSteer_takeSteerLimit {s : State} (due : s.steerDue = true) :
    settleSteer (takeSteerLimit s) = settleSteer s := by
  rw [settleSteer, if_neg (by simp [takeSteerLimit_not_due]), settleSteer, if_pos due]

/-- A due row finds a due steering limit taken. -/
theorem dueEvent_takeSteerLimit {s : State} {due : State → Bool} {f g : State → State} (work : ∀ s, f s = g (settleSteer s))
    (steer : s.steerDue = true) (running : s.running = true) (dueNow : due s = true)
    (dueThen : due (takeSteerLimit s) = true) : dueEvent due f s = dueEvent due f (takeSteerLimit s) := by
  have runs : (takeSteerLimit s).running = true := running ▸ running_of_pwr (by simp)
  rw [dueEvent_of_due _ running dueNow, dueEvent_of_due _ runs dueThen, work, work, settleSteer_takeSteerLimit steer]

/-- A steering limit taken leaves an entry as old as it was. -/
theorem takeSteerLimit_peerExpired (s : State) (a : Fin 16) : (takeSteerLimit s).peerExpired a = s.peerExpired a := by
  unfold State.peerExpired State.second
  simp

theorem takeSteerLimit_quarantineOver (s : State) (a : Fin 16) :
    (takeSteerLimit s).quarantineOver a = s.quarantineOver a := by
  unfold State.quarantineOver
  simp

/-! ### The queue -/

theorem pending_kept (i : Instr) (q : List Instr) : Kept i fun t => t.pending = q where

/-- Every command completes (log entry 3). -/
theorem exec_next (i : Instr) (s : State) : ∃ t, exec i s = .next t := by
  unfold Machine.exec
  cases i with
  | resetNAssert n b => exact ⟨_, (apply_ite Host.Outcome.next _ _ _).symm⟩
  | oscGap t => exact ⟨_, (apply_ite Host.Outcome.next _ _ _).symm⟩
  | sitePwrEdge t b => exact ⟨_, (apply_ite Host.Outcome.next _ _ _).symm⟩
  | _ => exact ⟨_, rfl⟩

/-- Every command leaves the queue as it was. -/
theorem exec_pending {i : Instr} {s t : State} (e : exec i s = .next t) : t.pending = s.pending := by
  obtain rfl | ⟨n, b, p, -, -, rfl⟩ | ⟨b, g, r, -, rfl⟩ | ⟨hr, ho⟩ := exec_cases e
  · rfl
  · simp
  · simp
  · exact (pending_kept i s.pending).exec hr ho rfl e

end Sys2Proof.Machine

open Sys2Proof Sys2Proof.Machine

/-- Settles O2: what is due is taken once, a steering limit before the rows of the monitor and of the peers. -/
theorem dueWorkTakenFirst : Obligations.DueWorkTakenFirst := by
  refine ⟨fun i s first running => exec_settle first running,
    fun s running => ⟨settle_settled running, by simpa using running⟩, fun s running steer =>
      ⟨fun stage => ?_, fun stage qual => ?_, fun stage qual => ?_, fun a stage past => ?_, fun a stage past => ?_⟩,
    fun i s => ?_⟩
  · unfold Machine.exec
    refine dueEvent_takeSteerLimit (g := takeStaleBlock) (fun _ => rfl) steer running ?_ ?_ <;> simp [stage]
  · unfold Machine.exec
    refine dueEvent_takeSteerLimit (g := takeQualification) (fun _ => rfl) steer running ?_ ?_ <;> simp [stage, qual]
  · unfold Machine.exec
    refine dueEvent_takeSteerLimit (g := takeHoldoff) (fun _ => rfl) steer running ?_ ?_ <;> simp [stage, qual]
  · unfold Machine.exec
    refine dueEvent_takeSteerLimit (g := fun s => afterExpiry (expirePeer a s)) (fun _ => rfl) steer running ?_ ?_ <;>
      simp [stage, past, takeSteerLimit_peerExpired]
  · unfold Machine.exec
    refine dueEvent_takeSteerLimit (g := fun s => afterQuarantine (endQuarantine a s)) (fun _ => rfl) steer running
      ?_ ?_ <;> simp [stage, past, takeSteerLimit_quarantineOver]
  · obtain ⟨t, e⟩ := exec_next i s
    exact ⟨t, e, exec_pending e⟩

end

section
/-! PROOF. Fields as bytes, most significant first (R174): the pages of TABLE_READ (R163).
-/

namespace Sys2Proof.Machine

/-! ### Numbers as bytes -/

theorem bytesOf_two (v : Int) : bytesOf 2 v = [(v / 256 % 256).toNat, (v % 256).toNat] := by
  simp [bytesOf, List.range_succ]

theorem bytesOf_three (v : Int) : bytesOf 3 v = [(v / 65536 % 256).toNat, (v / 256 % 256).toNat, (v % 256).toNat] := by
  simp [bytesOf, List.range_succ]

theorem bytesOf_four (v : Int) : bytesOf 4 v =
    [(v / 16777216 % 256).toNat, (v / 65536 % 256).toNat, (v / 256 % 256).toNat, (v % 256).toNat] := by
  simp [bytesOf, List.range_succ]

/-- A byte of a field, `2 ^ k` being its place. -/
theorem extractByte_ofInt {w : Nat} (v : Int) (k : Nat) (hk : k + 8 ≤ w) :
    ((BitVec.ofInt w v).extractLsb' k 8).toNat = (v / 2 ^ k % 256).toNat := by
  have place : ∀ n : Nat, (2 : Int) ^ n ≠ 0 := fun n => Int.ne_of_gt (Int.pow_pos (by decide))
  have cast : ∀ n : Nat, ((2 ^ n : Nat) : Int) = 2 ^ n := fun n => Int.natCast_pow 2 n
  have wrap : v % 2 ^ w / 2 ^ k % 256 = v / 2 ^ k % 256 := by
    have split : (2 : Int) ^ w = 2 ^ k * 256 * 2 ^ (w - (k + 8)) := by
      rw [show (256 : Int) = 2 ^ 8 from rfl, ← Int.pow_add, ← Int.pow_add]
      congr 1
      omega
    rw [Int.emod_def v, split]
    have : v - 2 ^ k * 256 * 2 ^ (w - (k + 8)) * (v / (2 ^ k * 256 * 2 ^ (w - (k + 8)))) =
        v + 2 ^ k * (-(256 * (2 ^ (w - (k + 8)) * (v / (2 ^ k * 256 * 2 ^ (w - (k + 8))))))) := by
      simp only [Int.mul_neg, Int.sub_eq_add_neg, Int.mul_assoc]
    rw [this, Int.add_mul_ediv_left _ _ (place k)]
    omega
  have small : 0 ≤ v % 2 ^ w := Int.emod_nonneg _ (place w)
  simp only [BitVec.extractLsb'_toNat, BitVec.toNat_ofInt, Nat.shiftRight_eq_div_pow]
  refine Int.ofNat_inj.mp ?_
  rw [Int.toNat_of_nonneg (Int.emod_nonneg _ (by decide)), ← wrap]
  rw [Int.natCast_emod, Int.natCast_ediv, cast w, cast k, Int.toNat_of_nonneg small]
  rfl

theorem be16_ofInt (v : Int) : (be16 (BitVec.ofInt 16 v)).map BitVec.toNat = bytesOf 2 v := by
  simp [be16, bytesOf_two, extractByte_ofInt, -BitVec.extractLsb'_toNat]

theorem be24_ofInt (v : Int) : (be24 (BitVec.ofInt 24 v)).map BitVec.toNat = bytesOf 3 v := by
  simp [be24, bytesOf_three, extractByte_ofInt, -BitVec.extractLsb'_toNat]

theorem be32_ofInt (v : Int) : (be32 (BitVec.ofInt 32 v)).map BitVec.toNat = bytesOf 4 v := by
  simp [be32, bytesOf_four, extractByte_ofInt, -BitVec.extractLsb'_toNat]

theorem ofNat_eq_ofInt (w n : Nat) : BitVec.ofNat w n = BitVec.ofInt w (n : Int) := by simp

theorem be16_ofNat (n : Nat) : (be16 (BitVec.ofNat 16 n)).map BitVec.toNat = bytesOf 2 (n : Int) := by
  rw [ofNat_eq_ofInt, be16_ofInt]

theorem word16_toNat (v : Int) : (word16 v).map BitVec.toNat = bytesOf 2 v := be16_ofInt v

theorem clamp_eq {lo hi : Int} (h : lo ≤ hi) (x : Int) : clamp lo hi x = max lo (min hi x) := by
  unfold clamp
  (repeat' split) <;> omega

theorem clampAbs_eq {limit : Int} (h : 0 ≤ limit) (x : Int) : clampAbs limit x = max (-limit) (min limit x) :=
  clamp_eq (by omega) x

/-- A field in the low bits of a wider one. -/
theorem append_toNat {m n : Nat} (a : BitVec m) (b : BitVec n) : (a ++ b).toNat = a.toNat * 2 ^ n + b.toNat := by
  rw [BitVec.toNat_append, ← Nat.shiftLeft_add_eq_or_of_lt b.isLt, Nat.shiftLeft_eq]

theorem be16_toNat (v : BitVec 16) : (be16 v).map BitVec.toNat = bytesOf 2 (v.toNat : Int) := by
  rw [← be16_ofNat, BitVec.ofNat_toNat, BitVec.setWidth_eq]

theorem be24_toNat (v : BitVec 24) : (be24 v).map BitVec.toNat = bytesOf 3 (v.toNat : Int) := by
  rw [← be24_ofInt, ← ofNat_eq_ofInt, BitVec.ofNat_toNat, BitVec.setWidth_eq]

/-- The bytes of a number depend on it modulo their reach alone. -/
theorem bytesOf_two_emod (v : Int) : bytesOf 2 (v % 65536) = bytesOf 2 v := by
  rw [bytesOf_two, bytesOf_two]
  congr 2 <;> omega

theorem historyByte_toNat (h : HistoryRing) :
    (historyByte h).toNat = 16 * (h.fill % 16) + 2 * h.pointer.val + h.frozen.toNat := by
  have pointer := h.pointer.isLt
  rw [historyByte, append_toNat, append_toNat]
  cases h.frozen <;> simp [bit] <;> omega

/-! ### The pages of R163 -/

/-- The rate and the fill of the aging ring share the first two bytes of page 69. -/
theorem agingField_toNat (rate : Int) (fill : Nat) :
    (be16 (BitVec.ofInt 12 rate ++ BitVec.ofNat 4 fill)).map BitVec.toNat =
      bytesOf 2 (16 * rate + (fill % 16 : Nat)) := by
  rw [be16_toNat, ← bytesOf_two_emod (16 * rate + _), append_toNat]
  congr 1
  simp only [BitVec.toNat_ofInt, BitVec.toNat_ofNat]
  omega

/-- The content of the page of bin `n` (R163). -/
theorem binPage_toNat (b : Bin) :
    (be16 (BitVec.ofNat 16 (min 65535 b.count)) ++
      be24 (BitVec.ofInt 24 (clamp (-8388608) 8388607 (roundDiv b.mean 250))) ++
      be16 (BitVec.ofNat 16 (min 65535 b.deviation))).map BitVec.toNat =
    bytesOf 2 (min 65535 b.count : Nat) ++
      bytesOf 3 (max (-8388608) (min 8388607 (roundDiv b.mean 250))) ++ bytesOf 2 (min 65535 b.deviation : Nat) := by
  rw [List.map_append, List.map_append, be16_ofNat, be24_ofInt, be16_ofNat, clamp_eq (by decide)]

end Sys2Proof.Machine

open Sys2Proof Sys2Proof.Machine

/-- Settles O39: a page is its content field by field, and its reading one branch for each state of the queue. -/
theorem historyReleaseAndTableRead : Obligations.HistoryReleaseAndTableRead := by
  refine ⟨fun s n hn => ?_, fun s st t c hears named => ⟨?_, fun page open_ free => ?_, fun page quiet => ?_, fun bad => ?_⟩⟩
  · dsimp only
    rw [pageBytes, List.map_cons]
    congr 1
    · simp
      omega
    unfold pageContent
    dsimp only
    have zero : bytesOf 2 0 = [0, 0] := rfl
    have frozen := historyByte_toNat s.mon.history
    by_cases bin : n < 64
    · have entry : s.lrn.table[n]? = some s.lrn.table[n] := Vector.getElem?_eq_getElem bin
      rw [if_pos bin, if_pos bin, entry]
      exact binPage_toNat s.lrn.table[n]
    obtain rfl | rfl | rfl | rfl | rfl | rfl : n = 64 ∨ n = 65 ∨ n = 66 ∨ n = 67 ∨ n = 68 ∨ n = 69 := by omega
    · simp [word16_toNat, frozen]
    · simp [word16_toNat, frozen]
    · simp [word16_toNat, frozen, zero]
    · simp [word16_toNat]
    · simp [word16_toNat]
    · simp only [Nat.reduceLT, Nat.reduceEqDiff, if_false]
      rw [List.map_append, List.map_append, agingField_toNat, be32_ofInt, clamp_eq (by decide)]
      cases s.eng.record with
      | none => simp
      | some r => simp [clamp_eq]
  · exact (event_command t 11 hears named).trans (by simp [runCommand, releaseHistory, HistoryRing.empty])
  · refine (event_command t 12 hears named).trans (congrArg _ ?_)
    show readPage c.byte3.toNat (s.heard t) = _
    have small : ¬69 < c.byte3.toNat := Nat.not_lt.mpr page
    have room : ¬2 ≤ s.bus.pages.length := Nat.not_le.mpr free
    simp [readPage, small, room, heard_bus, open_, Config.second]
  · refine (event_command t 12 hears named).trans (congrArg _ ?_)
    show readPage c.byte3.toNat (s.heard t) = _
    have small : ¬69 < c.byte3.toNat := Nat.not_lt.mpr page
    simp [readPage, small, heard_bus, quiet]
  · have refused : readPage c.byte3.toNat (s.heard t) =
        refuse (if 69 < c.byte3.toNat then .invalid else .busy) (s.heard t) := by
      by_cases large : 69 < c.byte3.toNat
      · simp [readPage, large]
      · obtain ⟨open_, full⟩ := bad.resolve_left large
        simp [readPage, large, heard_bus, open_, full]
    refine ⟨_, (event_command t 12 hears named).trans (congrArg _ refused), ?_⟩
    simp [refuse, heard_bus]

end

section
/-! PROOF. The Reference Monitor: missing pulses (R19, R39, R42, R43).
-/

namespace Sys2Proof.Machine

/-- The monitor's record after an entry (R30, R40). -/
@[simp] theorem enterQual_mon (q : Qualification) (s : State) : (enterQual q s).mon = s.mon.entered s.cfg q := by
  simp [enterQual]

/-- What an entry leaves as it was in the monitor's record (R30, R40). -/
theorem Monitor.entered_keeps (m : Monitor) (c : Settings) (q : Qualification) :
    (m.entered c q).history = m.history ∧ (m.entered c q).extraCount = m.extraCount ∧
    (m.entered c q).missingCount = m.missingCount ∧ (m.entered c q).qual = q := by
  cases q <;> simp [entered, emptyBlock]

/-- A missing-pulse event by the count it finds (R39, R42, R43). -/
theorem missingPulse_of_few {s : State} {d : Instant} (hd : s.mon.missingDue = some d) (few : s.mon.consecutiveMissing < 2) :
    missingPulse s = (s.missedAt d).withMon { s.mon.missed d with
      qualTimer := if s.mon.qual = .candidate then some s.cfg.qualification else s.mon.qualTimer } := by
  obtain ⟨candidate, qualified, other⟩ := missingPulse_of_due hd
  by_cases hc : s.mon.qual = .candidate
  · rw [candidate hc, if_neg (Nat.not_le.mpr few), if_pos hc]
  · rw [if_neg hc]
    by_cases hq : s.mon.qual = .qualified
    · rw [qualified hq, if_neg (Nat.not_le.mpr few)]
      rfl
    · rw [other hc hq]
      rfl

theorem missingPulse_of_third {s : State} {d : Instant} (hd : s.mon.missingDue = some d) (third : 2 ≤ s.mon.consecutiveMissing)
    (h : s.mon.qual = .qualified ∨ s.mon.qual = .candidate) : missingPulse s = enterQual .absent
      (if s.mon.qual = .qualified then raise .refLost (s.missedAt d) else s.missedAt d) := by
  obtain ⟨candidate, qualified, -⟩ := missingPulse_of_due hd
  obtain hq | hc := h
  · rw [qualified hq, if_pos third, if_pos hq]
  · rw [candidate hc, if_pos third, if_neg (by simp [hc])]

/-- What every missing-pulse event does (R19). -/
theorem missingPulse_counts {s : State} {d : Instant} (hd : s.mon.missingDue = some d) :
    (missingPulse s).mon.missingCount = countUp s.mon.missingCount ∧ (missingPulse s).tsg.now = d ∧
    (missingPulse s).mon.history = s.mon.history ∧ (missingPulse s).mon.extraCount = s.mon.extraCount ∧
    (missingPulse s).ptu = s.ptu ∧ (missingPulse s).pwr = s.pwr ∧ (missingPulse s).cfg = s.cfg ∧
    (missingPulse s).eeprom = s.eeprom := by
  by_cases few : s.mon.consecutiveMissing < 2
  · rw [missingPulse_of_few hd few]
    simp [State.missedAt, Monitor.missed]
  · by_cases h : s.mon.qual = .qualified ∨ s.mon.qual = .candidate
    · rw [missingPulse_of_third hd (Nat.not_lt.mp few) h]
      split <;> simp [State.missedAt, Monitor.missed, Monitor.entered_keeps]
    · obtain ⟨-, -, other⟩ := missingPulse_of_due hd
      rw [other (fun hc => h (.inr hc)) fun hq => h (.inl hq)]
      simp [State.missedAt, Monitor.missed]

end Sys2Proof.Machine

open Sys2Proof Sys2Proof.Machine

/-- Settles O22: fewer than three in a row only count, and the third is an entry to ABSENT. -/
theorem missingPulsesLoseTheReference : Obligations.MissingPulsesLoseTheReference := by
  intro s d ready due present
  have run : exec .missingPulseEvent s = .next (missingPulse s) := by
    show event missingPulse s = _
    rw [event_of_ready _ ready]
  obtain ⟨count, now, history, extra, ptu, pwr, cfg, eeprom⟩ := missingPulse_counts due
  refine ⟨_, run, count, now, history, extra, fun few => ?_, fun third qual => ?_, fun third qual => ?_, ptu, pwr, cfg,
    eeprom⟩
  · rw [missingPulse_of_few due few]
    simp [State.missedAt, Monitor.missed]
    omega
  · rw [missingPulse_of_third due (Nat.le_of_eq third.symm) qual]
    split <;> simp [State.missedAt, Monitor.missed, Monitor.entered, Monitor.emptyBlock]
  · rw [missingPulse_of_third due (Nat.le_of_eq third.symm) (.inl qual), if_pos qual]
    exact (raised_kept (i := .missingPulseEvent) .refLost rfl rfl).enterQual .absent _ (by simp)

end

section
/-! PROOF. Pulses: what an accepted one leaves, the block it fills, and the residual fault (R18 to R26, R33 to R37).
-/

namespace Sys2Proof.Machine

/-! ### A raise and the monitor -/

theorem offerAlert_withMon (x : FlagSet) (m : Monitor) (s : State) :
    offerAlert x (s.withMon m) = (offerAlert x s).withMon m := by
  cases quiet : s.bus.listenOnly
  · cases sending : s.bus.attempting .alert <;> simp [offerAlert, quiet, sending] <;> rfl
  · simp [offerAlert, quiet]

theorem raise_withMon (f : Flag) (m : Monitor) (s : State) : raise f (s.withMon m) = (raise f s).withMon m := by
  cases raised : hasFlag s.scu.raised f
  · cases enabled : hasFlag s.scu.enabled f
    · simp [raise, raised, enabled]
      rfl
    · simp only [raise, State.withMon_scu, raised, enabled, Bool.false_eq_true, if_false, if_true]
      exact offerAlert_withMon f.mask m (s.withScu { s.scu with raised := s.scu.raised ||| f.mask })
  · simp [raise, raised]

/-! ### The block and the residual check on the monitor's record -/

/-- The monitor's record with a measurement added to the block (R24). -/
def Monitor.added (b : Monitor) (m : Int) (tag : Second) : Monitor :=
  { b with
    blockSum := b.blockSum + m
    blockCount := b.blockCount + 1
    blockOpen := if b.blockCount = 0 then some tag else b.blockOpen }

/-- The monitor's record with the block's observation formed (R25). -/
def Monitor.observed (b : Monitor) (decimation : Nat) : Monitor :=
  { b.emptyBlock with prediction := some (clampAbs 32767 (roundDiv b.blockSum decimation)) }

theorem addToBlock_eq (m : Int) (tag : Second) (s : State) : addToBlock m tag s =
    if s.cfg.decimation ≤ (s.mon.added m tag).blockCount then completeBlock (s.withMon (s.mon.added m tag))
    else s.withMon (s.mon.added m tag) := rfl

theorem addToBlock_of_open {s : State} (m : Int) (tag : Second) (h : s.mon.blockCount + 1 < s.cfg.decimation) :
    addToBlock m tag s = s.withMon (s.mon.added m tag) :=
  if_neg (Nat.not_le.mpr h)

/-- The addition that completes the block (R25, R26). -/
theorem addToBlock_of_full {s : State} (m : Int) (tag : Second) (h : s.cfg.decimation ≤ s.mon.blockCount + 1) :
    addToBlock m tag s = completeBlock (s.withMon (s.mon.added m tag)) :=
  if_pos h

/-- The state after a block's observation, with OBS_SAT where it was saturated (R25). -/
def State.observed (s : State) : State :=
  if 32767 < (roundDiv s.mon.blockSum s.cfg.decimation).natAbs then
    raise .obsSat (s.withMon (s.mon.observed s.cfg.decimation))
  else s.withMon (s.mon.observed s.cfg.decimation)

theorem completeBlock_eq (s : State) : completeBlock s = if s.mon.qual = .qualified then
    takeObservation (clampAbs 32767 (roundDiv s.mon.blockSum s.cfg.decimation)) s.observed else s.observed := by
  have large : Config.limitObservation < ((observationOf s.mon.blockSum s.cfg.decimation).natAbs : Int) ↔
      32767 < (roundDiv s.mon.blockSum s.cfg.decimation).natAbs := Int.ofNat_lt (n := 32767)
  have formed : s.observed = State.withMon (if Config.limitObservation <
      ((observationOf s.mon.blockSum s.cfg.decimation).natAbs : Int) then raise .obsSat s else s)
      (s.mon.observed s.cfg.decimation) := by
    rw [ite_congr (propext large) (fun _ => rfl) (fun _ => rfl)]
    unfold State.observed
    split
    · exact raise_withMon ..
    · rfl
  rw [formed]
  unfold completeBlock
  dsimp only
  have limit : Config.limitObservation = 32767 := rfl
  split <;> simp [Monitor.observed, Monitor.emptyBlock, observationOf, limit]

@[simp] theorem State.observed_mon (s : State) : s.observed.mon = s.mon.observed s.cfg.decimation := by
  unfold State.observed
  split <;> simp

@[simp] theorem completeBlock_mon (s : State) : (completeBlock s).mon = s.mon.observed s.cfg.decimation := by
  rw [completeBlock_eq]
  split <;> simp

theorem addToBlock_mon (m : Int) (tag : Second) (s : State) : (addToBlock m tag s).mon =
    if s.cfg.decimation ≤ s.mon.blockCount + 1 then (s.mon.added m tag).observed s.cfg.decimation
    else s.mon.added m tag := by
  split
  · next h => simp [addToBlock_of_full m tag h]
  · next h => simp [addToBlock_of_open m tag (Nat.not_le.mp h)]

/-- The monitor's record as a residual fault finds the reference (R36). -/
def Monitor.faulted (m : Monitor) : Monitor :=
  { m with history := { m.history with frozen := true }, window := [], ordered := none }

theorem residualFault_of_disqualified {s : State} (h : s.mon.qual = .disqualified) : residualFault s =
    raise .refFault (s.withMon { s.mon.faulted with holdoffTimer := some s.cfg.holdoff }) := by
  unfold residualFault
  dsimp only
  rw [if_pos (by simpa using h), raise_withMon, raise_withMon]
  simp [Monitor.faulted]

theorem residualFault_of_ne {s : State} (h : s.mon.qual ≠ .disqualified) : residualFault s =
    enterQual .disqualified (raise .refFault (s.withMon s.mon.faulted)) := by
  unfold residualFault
  dsimp only
  rw [if_neg (by simpa using h)]
  rfl

theorem residualFault_mon (s : State) : (residualFault s).mon = if s.mon.qual = .disqualified then
    { s.mon.faulted with holdoffTimer := some s.cfg.holdoff } else s.mon.faulted.entered s.cfg .disqualified := by
  split
  · next h => simp [residualFault_of_disqualified h]
  · next h => simp [residualFault_of_ne h]

/-- What tells of pulses in the monitor's record (R18 to R20, R21). -/
structure Monitor.SamePulses (m n : Monitor) : Prop where
  lastPulse : n.lastPulse = m.lastPulse
  missingDue : n.missingDue = m.missingDue
  consecutiveMissing : n.consecutiveMissing = m.consecutiveMissing
  extraCount : n.extraCount = m.extraCount
  missingCount : n.missingCount = m.missingCount
  held : n.held = m.held

/-- A measurement leaves what tells of pulses. -/
theorem checkMeasurement_pulses (m : Int) (tag : Second) (s : State) :
    s.mon.SamePulses (checkMeasurement m tag s).mon := by
  obtain e | e | ⟨r, e⟩ := checkMeasurement_cases m tag s
  · rw [e]
    exact ⟨rfl, rfl, rfl, rfl, rfl, rfl⟩
  · rw [e, addToBlock_mon]
    split <;> exact ⟨rfl, rfl, rfl, rfl, rfl, rfl⟩
  · rw [e]
    split
    · rw [residualFault_mon]
      split <;> exact ⟨rfl, rfl, rfl, rfl, rfl, rfl⟩
    · split
      · exact ⟨rfl, rfl, rfl, rfl, rfl, rfl⟩
      · rw [addToBlock_mon]
        split <;> exact ⟨rfl, rfl, rfl, rfl, rfl, rfl⟩

/-! ### Accepted pulses (R18, R21) -/

/-- The monitor's record after a pulse accepted at `t` (R18, R19). -/
def State.accepted (s : State) (t : Instant) : Monitor :=
  { s.mon with
    lastPulse := some ⟨t, s.tagOf t⟩, missingDue := some (t + 1100000000), consecutiveMissing := 0 }

/-- What a pulse at `t` measures (R21, R22). -/
def State.measurement (s : State) (t : Instant) : Int :=
  fold 1000000000 (s.tsg.lastBoundary - t) + s.cfg.cableDelay + s.tsg.trim

theorem exec_refPulse {s : State} (t : Instant) (ready : s.ready = true) :
    exec (.refPulse t) s = .next (takePulse t (s.at t)) := by
  show execRefPulse t s = _
  rw [execRefPulse, event_of_ready _ ready]

theorem takePulse_of_extra {s : State} {t : Instant} (extra : s.extraPulse t = true) :
    takePulse t (s.at t) = (s.at t).withMon { s.mon with extraCount := countUp s.mon.extraCount } :=
  if_pos extra

/-- A pulse that lies before its boundary is held for it (R21). -/
theorem takePulse_of_next {s : State} {t : Instant} (accepted : s.extraPulse t = false) (present : s.mon.qual ≠ .absent)
    (next : s.tagsNext t = true) :
    takePulse t (s.at t) = (s.at t).withMon { s.accepted t with held := some ⟨t, s.tagOf t⟩ } := by
  have extra : ¬(s.at t).extraPulse t = true := by
    show ¬s.extraPulse t = true
    simp [accepted]
  have later : (s.at t).tagsNext t = true := next
  unfold takePulse
  rw [if_neg extra]
  simp [present, later]
  rfl

/-- Any other is measured at once (R21). -/
theorem takePulse_of_now {s : State} {t : Instant} (accepted : s.extraPulse t = false) (present : s.mon.qual ≠ .absent)
    (now : s.tagsNext t = false) :
    takePulse t (s.at t) = checkMeasurement (s.measurement t) (s.tagOf t) ((s.at t).withMon (s.accepted t)) := by
  have extra : ¬(s.at t).extraPulse t = true := by
    show ¬s.extraPulse t = true
    simp [accepted]
  have past : ¬(s.at t).tagsNext t = true := by
    show ¬s.tagsNext t = true
    simp [now]
  unfold takePulse
  rw [if_neg extra]
  simp [present, past]
  rfl

/-- The first pulse in ABSENT enters CANDIDATE, and is then held or measured as any other (R41). -/
theorem takePulse_of_absent {s : State} {t : Instant} (accepted : s.extraPulse t = false) (absent : s.mon.qual = .absent) :
    takePulse t (s.at t) =
      if s.tagsNext t then State.withMon (enterQual .candidate ((s.at t).withMon (s.accepted t)))
        { (enterQual .candidate ((s.at t).withMon (s.accepted t))).mon with held := some ⟨t, s.tagOf t⟩ }
      else checkMeasurement (s.measurement t) (s.tagOf t) (enterQual .candidate ((s.at t).withMon (s.accepted t))) := by
  have extra : ¬(s.at t).extraPulse t = true := by
    show ¬s.extraPulse t = true
    simp [accepted]
  have entered : measure t (enterQual .candidate ((s.at t).withMon (s.accepted t))).tsg.lastBoundary (s.tagOf t)
      (enterQual .candidate ((s.at t).withMon (s.accepted t))) =
      checkMeasurement (s.measurement t) (s.tagOf t) (enterQual .candidate ((s.at t).withMon (s.accepted t))) := by
    simp [measure, State.measurement, Config.second]
  have taken : takePulse t (s.at t) =
      if s.tagsNext t then State.withMon (if s.mon.qual = .absent then enterQual .candidate ((s.at t).withMon (s.accepted t))
          else (s.at t).withMon (s.accepted t))
        { (if s.mon.qual = .absent then enterQual .candidate ((s.at t).withMon (s.accepted t))
            else (s.at t).withMon (s.accepted t)).mon with held := some ⟨t, s.tagOf t⟩ }
      else measure t (if s.mon.qual = .absent then enterQual .candidate ((s.at t).withMon (s.accepted t))
          else (s.at t).withMon (s.accepted t)).tsg.lastBoundary (s.tagOf t)
        (if s.mon.qual = .absent then enterQual .candidate ((s.at t).withMon (s.accepted t))
          else (s.at t).withMon (s.accepted t)) := if_neg extra
  rw [taken, if_pos absent, entered]

/-- A verdict on a residual and the window it is tested on, in a state where a pulse was accepted. -/
theorem accepted_testedWindow (s : State) (t : Instant) :
    ((s.at t).withMon (s.accepted t)).testedWindow = (s.at t).testedWindow := rfl

/-- A verdict is tested on the window of the record, but at the instant of an order taken (R36, R46). -/
theorem testedWindow_of_window {s : State} (h : s.mon.qual ≠ .disqualified ∨ ∀ v, s.mon.ordered ≠ some ⟨s.tsg.now, v⟩) :
    s.testedWindow = s.mon.window := by
  unfold State.testedWindow
  split
  · next w ordered =>
    refine if_neg ?_
    rintro ⟨qual, instant⟩
    obtain other | none_ := h
    · exact other qual
    · exact none_ w.verdicts (by rw [ordered, ← instant])
  · rfl

theorem residualOut_iff (c : Settings) (r : Int) : residualOut c r = true ↔ r < c.lmin ∨ c.lmax < r := by
  simp [residualOut]

/-! ### Where the reference is not selected -/

/-- Where the reference is not selected, a selection leaves the engine on another source, or on none (R106, R107). -/
theorem applySelection_source_off_reference {s : State} (h : s.selected ≠ .source .reference)
    (stays : s.eng.state = .holdover ∨ s.eng.state = .freerun → s.eng.source = none) :
    (applySelection s).eng.source ≠ some .reference := by
  unfold applySelection
  split
  · next e => exact absurd e h
  · next t e =>
    obtain ⟨c, hc⟩ := State.consensus_of_selected e
    split
    · next on =>
      simp only [State.onSource, Bool.and_eq_true, decide_eq_true_eq] at on
      simp [on.1]
    · rw [hc]
      dsimp only
      split
      · simp [enterFollow_course]
      · simp [enterAcquireTier_source]
  · split
    · next hs => simp [stays (.inl hs)]
    · simp [enterHoldover_course]
  · split
    · next hs => simp [stays (.inr hs)]
    · simp [enterFreerun_course]

theorem selected_of_not_qualified {s : State} (h : s.mon.qual ≠ .qualified) : s.selected ≠ .source .reference :=
  fun e => h (State.selected_reference_iff.mp e).1

/-- An entry to another state than QUALIFIED takes LOCKED from the engine (R106). -/
theorem enterQual_not_locked {q : Qualification} (s : State) (hq : q ≠ .qualified) : (enterQual q s).eng.state ≠ .locked := by
  have qual : (s.withMon (s.mon.entered s.cfg q)).mon.qual ≠ .qualified := by simpa [Monitor.entered_keeps] using hq
  unfold enterQual
  by_cases silent : (s.withMon (s.mon.entered s.cfg q)).silent = true
  · intro locked
    rw [selectSource, if_pos silent] at locked
    simp [State.silent, show s.eng.state = .locked from locked] at silent
  · rw [selectSource_of_not_silent (Bool.eq_false_iff.mpr silent)]
    exact (applySelection_off_reference (selected_of_not_qualified qual)).1

end Sys2Proof.Machine

open Sys2Proof Sys2Proof.Machine

/-- Settles O20: an accepted pulse is held or measured, and a measurement is added to the block or completes it. -/
theorem pulseAcceptedOrExtra : Obligations.PulseAcceptedOrExtra := by
  refine ⟨fun s t => ⟨by simp [State.tagsNext], fun next => ?_, fun now => ?_, ?_⟩, fun s t ready extra => ?_,
    fun s t ready accepted => ?_, fun s t ready accepted present next => ?_,
    fun s t x ready accepted present now record => ?_⟩
  · rw [State.tagOf, if_pos next]
    exact Nat.mod_add_mod _ _ _
  · rw [State.tagOf, if_neg (by simp [now])]
    rfl
  · unfold State.extraPulse
    cases s.mon.lastPulse <;> simp
  · rw [exec_refPulse t ready, takePulse_of_extra extra]
  · refine ⟨_, exec_refPulse t ready, ?_⟩
    by_cases absent : s.mon.qual = .absent
    · rw [takePulse_of_absent accepted absent]
      have entered : (enterQual .candidate ((s.at t).withMon (s.accepted t))).mon =
          (s.accepted t).entered s.cfg .candidate := by simp
      cases next : s.tagsNext t
      · have same := checkMeasurement_pulses (s.measurement t) (s.tagOf t)
          (enterQual .candidate ((s.at t).withMon (s.accepted t)))
        have seeded := checkMeasurement_of_seed (s.measurement t) (s.tagOf t)
          (s := enterQual .candidate ((s.at t).withMon (s.accepted t))) (by simp [Monitor.entered])
          (.inl (by simp [Monitor.entered]))
        have record := congrArg State.mon seeded
        rw [addToBlock_mon, State.withMon_mon, entered] at record
        rw [entered] at same
        rw [if_neg (by decide)]
        refine ⟨same.lastPulse, same.missingDue, same.consecutiveMissing, same.extraCount, same.missingCount,
          fun _ => ?_, nofun, fun _ _ few => ?_, by simp, by simp, by simp, by simp⟩
        · rw [record]
          split <;> exact ⟨rfl, rfl⟩
        · rw [record, if_neg (by simpa [Monitor.entered, Monitor.emptyBlock] using few)]
          simp [Monitor.entered, Monitor.emptyBlock, Monitor.added, State.accepted, State.measurement]
      · rw [if_pos rfl, State.withMon_mon, entered]
        refine ⟨rfl, rfl, rfl, rfl, rfl, fun _ => ⟨rfl, rfl⟩, fun _ => rfl, fun _ => nofun, by simp, by simp,
          by simp, by simp⟩
    · cases next : s.tagsNext t
      · rw [takePulse_of_now accepted absent next]
        have same := checkMeasurement_pulses (s.measurement t) (s.tagOf t) ((s.at t).withMon (s.accepted t))
        exact ⟨same.lastPulse, same.missingDue, same.consecutiveMissing, same.extraCount, same.missingCount,
          fun none_ => absurd none_ absent, nofun, fun none_ => absurd none_ absent, by simp, by simp,
          by simp, by simp⟩
      · rw [takePulse_of_next accepted absent next]
        exact ⟨rfl, rfl, rfl, rfl, rfl, fun none_ => absurd none_ absent, fun _ => rfl, fun none_ => absurd none_ absent,
          rfl, rfl, rfl, rfl⟩
  · rw [exec_refPulse t ready, takePulse_of_next accepted present next]
    rfl
  · rw [exec_refPulse t ready, takePulse_of_now accepted present now]
    have measured : checkMeasurement (s.measurement t) (s.tagOf t) ((s.at t).withMon (s.accepted t)) =
        if s.cfg.decimation ≤ x.blockCount then completeBlock ((s.at t).withMon x) else (s.at t).withMon x := by
      have same := accepted_testedWindow s t
      obtain ⟨seed, rfl⟩ | ⟨p, prediction, seed, low, high, few, rfl⟩ := record
      · have seeded := checkMeasurement_of_seed (s := (s.at t).withMon (s.accepted t)) (s.measurement t) (s.tagOf t)
          present seed
        rw [seeded, addToBlock_eq]
        rfl
      · have verdict : residualOut s.cfg (s.measurement t - p) = false := by
          rw [← Bool.not_eq_true, residualOut_iff]
          exact not_or.mpr ⟨Int.not_lt.mpr low, Int.not_lt.mpr high⟩
        have judged := checkMeasurement_of_residual (s := (s.at t).withMon (s.accepted t)) (s.measurement t) (s.tagOf t)
          present seed prediction
        simp only [State.withMon_cfg, State.at_cfg, verdict, same] at judged
        rw [if_neg (Nat.not_le.mpr few), if_neg (by decide), addToBlock_eq] at judged
        rw [judged]
        simp only [State.judged, State.withMon_cfg, State.at_cfg, verdict]
        rfl
    rw [measured]
    refine ⟨fun few => ?_, fun full => ?_⟩
    · rw [if_neg (Nat.not_le.mpr few)]
    · rw [if_pos full, completeBlock_eq]
      have qual : x.qual = s.mon.qual := by
        obtain ⟨-, rfl⟩ | ⟨p, -, -, -, -, -, rfl⟩ := record <;> rfl
      rw [State.withMon_mon, ← qual]
      rfl

/-- Settles O21: the fault is the branch of the residual check that completes LCNT verdicts OUT, and an order enters
DISQUALIFIED by itself. -/
theorem residualFaultDisqualifies : Obligations.ResidualFaultDisqualifies := by
  refine ⟨fun s t p ready accepted now tracked prediction seed => ?_, fun s t p ready accepted now prediction seed => ?_,
    fun s w => ⟨fun qual ordered => ?_, fun other => ?_⟩, fun s qual => ⟨?_, fun loud stays => ?_⟩, fun s qual => if_neg qual⟩
  · intro r out fault
    have present : s.mon.qual ≠ .absent := by rcases tracked with h | h <;> simp [h]
    have healthy : s.mon.qual ≠ .disqualified := by rcases tracked with h | h <;> simp [h]
    have verdict : residualOut s.cfg (s.measurement t - p) = true := (residualOut_iff _ _).mpr out
    have judged := checkMeasurement_of_residual (s := (s.at t).withMon (s.accepted t)) (s.measurement t) (s.tagOf t)
      present seed prediction
    rw [accepted_testedWindow, testedWindow_of_window (s := s.at t) (.inl healthy)] at judged
    simp only [State.withMon_cfg, State.at_cfg, State.at_mon, verdict] at judged
    rw [if_pos fault, residualFault_of_ne (by exact healthy)] at judged
    refine ⟨_, exec_refPulse t ready, ?_⟩
    rw [takePulse_of_now accepted present now, judged]
    refine ⟨by simp [Monitor.entered], by simp [Monitor.entered], by simp [Monitor.entered], by simp [Monitor.entered], ?_,
      by simp [Monitor.entered, Monitor.emptyBlock], by simp [Monitor.entered, Monitor.emptyBlock],
      by simp [Monitor.entered, Monitor.emptyBlock, Monitor.faulted, State.judged, State.accepted, State.measurement, r],
      (raised_kept (i := .refPulse t) .refFault rfl rfl).enterQual .disqualified _ (by simp),
      fun _ => enterQual_not_locked _ (by decide), by simp, by simp, by simp, by simp⟩
    simp [Monitor.entered, Monitor.emptyBlock, Monitor.faulted, State.judged, State.accepted, prediction]
  · intro r a out
    have verdict : residualOut s.cfg (s.measurement t - p) = true := (residualOut_iff _ _).mpr out
    have judged := fun present => checkMeasurement_of_residual (s := (s.at t).withMon (s.accepted t)) (s.measurement t)
      (s.tagOf t) present seed prediction
    rw [accepted_testedWindow] at judged
    simp only [State.withMon_cfg, State.at_cfg, verdict] at judged
    refine ⟨fun qual fault => ?_, fun present few => ?_⟩
    · have present : s.mon.qual ≠ .absent := by simp [qual]
      have faulted := judged present
      rw [if_pos fault, residualFault_of_disqualified (by exact qual)] at faulted
      rw [exec_refPulse t ready, takePulse_of_now accepted present now, faulted]
      rfl
    · have measured := judged present
      rw [if_neg (Nat.not_le.mpr few), if_pos trivial] at measured
      rw [exec_refPulse t ready, takePulse_of_now accepted present now, measured]
      simp only [State.judged, State.withMon_cfg, State.at_cfg]
      rw [show residualOut s.cfg (s.measurement t - p) = true from verdict]
      rfl
  · simp [State.testedWindow, qual, ordered]
  · exact testedWindow_of_window other
  · simp [orderDisqualification, qual, Monitor.entered, Monitor.emptyBlock]
  · have order : (orderDisqualification s).eng = (enterQual .disqualified s).eng := by simp [orderDisqualification, qual]
    have speaks : (s.withMon (s.mon.entered s.cfg .disqualified)).silent = false := loud
    rw [order, enterQual, selectSource_of_not_silent speaks]
    exact applySelection_source_off_reference (selected_of_not_qualified (by simp [Monitor.entered])) stays

end

section
/-! PROOF. What LOAD reads (R168, R169, R175): the settings, each from its own bytes and within its range.
-/

namespace Sys2Proof.Machine

/-! ### Numbers in the EEPROM -/

theorem Memory.unsigned_zero (m : Memory) (a : Nat) : m.unsigned a 0 = 0 := rfl

/-- A number's first byte is its most significant one. -/
theorem Memory.unsigned_succ (m : Memory) (a w : Nat) :
    m.unsigned a (w + 1) = (Memory.read m a).toNat * 256 ^ w + m.unsigned (a + 1) w := by
  simp only [Memory.unsigned, List.range_succ_eq_map, List.map_cons, List.map_map, List.sum_cons]
  congr 1
  refine congrArg List.sum (List.map_congr_left fun i _ => ?_)
  simp only [Function.comp_apply, Nat.succ_eq_add_one, Nat.add_sub_cancel]
  rw [show a + 1 + i = a + (i + 1) by omega, show w - 1 - i = w - (i + 1) by omega]

/-- The bytes read as one number are the number that lies there. -/
theorem readBytes_readAll (m : Memory) : ∀ (w a : Nat), readBytes (m.readAll a w) = m.unsigned a w
  | 0, _ => rfl
  | w + 1, a => by
    rw [Memory.readAll, readBytes, Memory.readAll_length, readBytes_readAll m w, Memory.unsigned_succ]

theorem field_eq (m : Memory) (a w : Nat) : field m a w = m.unsigned a w := readBytes_readAll m w a

theorem natCast_pow_256 (w : Nat) : ((256 ^ w : Nat) : Int) = 256 ^ w := Int.natCast_pow 256 w

theorem readSigned_readAll (m : Memory) (a w : Nat) : readSigned (m.readAll a w) = m.signed a w := by
  simp only [readSigned, Memory.signed, readBytes_readAll, Memory.readAll_length]
  rw [natCast_pow_256]

theorem Memory.unsigned_lt (m : Memory) (a w : Nat) : m.unsigned a w < 256 ^ w := by
  have below := readBytes_lt (m.readAll a w)
  rwa [readBytes_readAll, Memory.readAll_length] at below

/-- A signed number's limits. -/
theorem Memory.signed_bounds (m : Memory) (a w : Nat) :
    -(256 ^ w : Int) ≤ 2 * m.signed a w ∧ 2 * m.signed a w < 256 ^ w := by
  have below := m.unsigned_lt a w
  unfold Memory.signed
  rw [← natCast_pow_256]
  split <;> omega

theorem Memory.readAll_eq_range (m : Memory) : ∀ (w a : Nat),
    m.readAll a w = (List.range w).map fun i => Memory.read m (a + i)
  | 0, _ => rfl
  | w + 1, a => by
    rw [Memory.readAll, readAll_eq_range m w, List.range_succ_eq_map, List.map_cons, List.map_map]
    congr 1
    refine List.map_congr_left fun i _ => ?_
    rw [Function.comp_apply, show a + 1 + i = a + i.succ by omega]

/-- The check value is the sum of the bytes, modulo 65,536 (R175). -/
theorem checkSum_toNat (bs : List Byte) : (checkSum bs).toNat = (bs.map BitVec.toNat).sum % 65536 := by
  have from_ : ∀ (bs : List Byte) (acc : BitVec 16),
      (bs.foldl (fun acc b => acc + b.zeroExtend 16) acc).toNat = (acc.toNat + (bs.map BitVec.toNat).sum) % 65536 := by
    intro bs
    induction bs with
    | nil =>
      intro acc
      have := acc.isLt
      simp
      omega
    | cons b bs ih =>
      intro acc
      have := b.isLt
      rw [List.foldl_cons, ih, List.map_cons, List.sum_cons]
      simp
      omega
  rw [checkSum, from_]
  simp

theorem checkSum_readAll (m : Memory) (a w : Nat) :
    (checkSum (m.readAll a w)).toNat = ((List.range w).map fun i => (Memory.read m (a + i)).toNat).sum % 65536 := by
  rw [checkSum_toNat, Memory.readAll_eq_range, List.map_map]
  rfl

/-- A marker of two bytes. -/
theorem readAll_two_eq_iff (m : Memory) (a : Nat) (x y : Byte) :
    m.readAll a 2 = [x, y] ↔ m.unsigned a 1 = x.toNat ∧ m.unsigned (a + 1) 1 = y.toNat := by
  simp [Memory.readAll, Memory.unsigned_succ, Memory.unsigned_zero, BitVec.toNat_inj]

/-! ### Settings in use (R169) -/

theorem inRange_eq {lo hi : Nat} (h : lo ≤ hi) (v : Nat) :
    inRange lo hi v = if v < lo then lo else if hi < v then hi else v := by
  unfold inRange
  (repeat' split) <;> omega

theorem inRange_bounds {lo hi : Nat} (h : lo ≤ hi) (v : Nat) : lo ≤ inRange lo hi v ∧ inRange lo hi v ≤ hi := by
  unfold inRange
  omega

/-- A value stays on being put into use exactly when it lies in its range. -/
theorem eq_inRange_iff {lo hi : Nat} (h : lo ≤ hi) (v : Nat) : v = inRange lo hi v ↔ lo ≤ v ∧ v ≤ hi := by
  unfold inRange
  omega

theorem eq_inRange_zero_iff (hi v : Nat) : v = inRange 0 hi v ↔ v ≤ hi := by
  unfold inRange
  omega

theorem powerBelow_bounds {n : Nat} (h : n ≠ 0) : powerBelow n ≤ n ∧ n < 2 * powerBelow n := by
  refine ⟨Nat.log2_self_le h, ?_⟩
  have above := (Nat.lt_log2_self (n := n))
  rw [Nat.pow_succ, Nat.mul_comm] at above
  exact above

/-- A time constant in use is a power of two between those of its limits. -/
theorem timeConstant_bounds {i j : Nat} (h : i ≤ j) (v : Nat) :
    ∃ k, timeConstant (2 ^ i) (2 ^ j) v = 2 ^ k ∧ i ≤ k ∧ k ≤ j := by
  obtain ⟨low, high⟩ := inRange_bounds (Nat.pow_le_pow_right (n := 2) (by decide) h) v
  have pos : inRange (2 ^ i) (2 ^ j) v ≠ 0 := Nat.ne_of_gt (Nat.lt_of_lt_of_le (Nat.two_pow_pos i) low)
  refine ⟨_, rfl, (Nat.le_log2 pos).mpr low, ?_⟩
  have : 2 ^ (inRange (2 ^ i) (2 ^ j) v).log2 ≤ 2 ^ j := Nat.le_trans (Nat.log2_self_le pos) high
  exact (Nat.pow_le_pow_iff_right (by decide)).mp this

theorem timeConstant_near {lo hi : Nat} (pos : 0 < lo) (h : lo ≤ hi) (v : Nat) :
    timeConstant lo hi v ≤ inRange lo hi v ∧ inRange lo hi v < 2 * timeConstant lo hi v :=
  powerBelow_bounds (Nat.ne_of_gt (Nat.lt_of_lt_of_le pos (inRange_bounds h v).1))

/-- A time constant stays on being put into use exactly when it is a power of two within its limits. -/
theorem eq_timeConstant_iff {i j : Nat} (h : i ≤ j) (v : Nat) :
    v = timeConstant (2 ^ i) (2 ^ j) v ↔ ∃ k, v = 2 ^ k ∧ i ≤ k ∧ k ≤ j := by
  constructor
  · intro e
    obtain ⟨k, hk⟩ := timeConstant_bounds h v
    exact ⟨k, by rw [e, hk.1], hk.2⟩
  · rintro ⟨k, rfl, low, high⟩
    have inside : 2 ^ k = inRange (2 ^ i) (2 ^ j) (2 ^ k) :=
      (eq_inRange_iff (Nat.pow_le_pow_right (by decide) h) _).mpr
        ⟨Nat.pow_le_pow_right (by decide) low, Nat.pow_le_pow_right (by decide) high⟩
    rw [timeConstant, ← inside, powerBelow, Nat.log2_two_pow]

theorem eq_listed_iff {values : List Nat} {default : Nat} (h : default ∈ values) (v : Nat) :
    v = listed values default v ↔ v ∈ values := by
  unfold listed
  split
  · next inside => exact iff_of_true rfl inside
  · next outside => exact iff_of_false (fun e => outside (e ▸ h)) outside

theorem listed_mem {values : List Nat} {default : Nat} (h : default ∈ values) (v : Nat) :
    listed values default v ∈ values := by
  unfold listed
  split
  · assumption
  · exact h

/-- The code that the configuration block stores for a bus rate, and for an AUX_OUT mode. -/
def BusRate.code : BusRate → Nat
  | .kbit250 => 0
  | .kbit500 => 1
  | .kbit1000 => 2

def AuxMode.code : AuxMode → Nat
  | .off => 0
  | .ppsCopy => 1
  | .sourceIndicator => 2

theorem usedFields_eq (c : Settings) : usedFields c =
    [(BusRate.code c.busRate : Int), (c.busDelay : Int), (c.decimation : Int), (c.pointInterval : Int), (c.tauRef : Int),
     (c.tauFollow : Int), (c.tauEns : Int), c.lmin, c.lmax, (c.lwin : Int), (c.lcnt : Int), (c.qualification : Int),
     (c.holdoff : Int), (c.stepThreshold : Int), (c.lockThreshold : Int), (c.peerLimit : Int), (c.filterConstant : Int),
     (c.markInterval : Int), (c.statusInterval : Int), (c.warmup : Int), (c.sigmaFloor : Int), (c.sigmaAging : Int),
     (c.holdoverLimit : Int), (c.disagreeThreshold : Int), (c.disagreeCount : Int), (c.slewRate : Int),
     (AuxMode.code c.auxMode : Int), if c.muteOnExhaustion then 1 else 0] := by
  unfold usedFields
  cases c.busRate <;> cases c.auxMode <;> rfl

/-- A code above 2 is put into use as another one (R169). -/
theorem eq_rateCode_iff (v : Nat) : v = BusRate.code (rateOfCode v) ↔ v ≤ 2 := by
  unfold rateOfCode
  (repeat' split) <;> simp only [BusRate.code] <;> omega

theorem eq_auxCode_iff (v : Nat) : v = AuxMode.code (auxOfCode v) ↔ v ≤ 2 := by
  unfold auxOfCode
  (repeat' split) <;> simp only [AuxMode.code] <;> omega

theorem eq_switch_iff (v : Nat) : (v : Int) = (if decide (v = 1) then 1 else 0) ↔ v ≤ 1 := by
  by_cases h : v = 1
  · simp [h]
  · simp only [h, decide_false, Bool.false_eq_true, if_false]
    omega

theorem eq_clamp_iff {lo hi : Int} (h : lo ≤ hi) (x : Int) : x = clamp lo hi x ↔ lo ≤ x ∧ x ≤ hi := by
  rw [clamp_eq h]
  omega

theorem natCast_eq_iff (v w : Nat) : (v : Int) = (w : Int) ↔ v = w := Int.ofNat_inj

/-- No field changes on being put into use exactly when every stored value lies in its range (R169). -/
theorem storedFields_eq_usedFields_iff (m : Memory) :
    storedFields m = usedFields (readSettings m) ↔
      m.unsigned 2 1 ≤ 2 ∧ m.unsigned 3 2 ≤ 2000 ∧ (1 ≤ m.unsigned 7 1 ∧ m.unsigned 7 1 ≤ 64) ∧
      (4 ≤ m.unsigned 8 1 ∧ m.unsigned 8 1 ≤ 64) ∧
      (∃ k, m.unsigned 9 2 = 2 ^ k ∧ 6 ≤ k ∧ k ≤ 13) ∧ (∃ k, m.unsigned 11 2 = 2 ^ k ∧ 6 ≤ k ∧ k ≤ 13) ∧
      (∃ k, m.unsigned 13 2 = 2 ^ k ∧ 8 ≤ k ∧ k ≤ 14) ∧ (-32767 ≤ m.signed 15 2 ∧ m.signed 15 2 ≤ 0) ∧
      0 ≤ m.signed 17 2 ∧ (1 ≤ m.unsigned 19 1 ∧ m.unsigned 19 1 ≤ 32) ∧
      (1 ≤ m.unsigned 20 1 ∧ m.unsigned 20 1 ≤ m.unsigned 19 1) ∧
      (10 ≤ m.unsigned 21 2 ∧ m.unsigned 21 2 ≤ 3600) ∧ (60 ≤ m.unsigned 23 2 ∧ m.unsigned 23 2 ≤ 3600) ∧
      (100 ≤ m.unsigned 25 3 ∧ m.unsigned 25 3 ≤ 100000) ∧ (10 ≤ m.unsigned 28 2 ∧ m.unsigned 28 2 ≤ 10000) ∧
      (20 ≤ m.unsigned 30 2 ∧ m.unsigned 30 2 ≤ 20000) ∧ m.unsigned 32 1 ∈ [2, 4, 8, 16] ∧
      m.unsigned 33 1 ∈ [1, 2, 4, 8] ∧ (1 ≤ m.unsigned 34 1 ∧ m.unsigned 34 1 ≤ 60) ∧ m.unsigned 35 2 ≤ 3600 ∧
      (1 ≤ m.unsigned 37 2 ∧ m.unsigned 37 2 ≤ 10000) ∧ m.unsigned 39 2 ≤ 1000 ∧
      (100 ≤ m.unsigned 41 3 ∧ m.unsigned 41 3 ≤ 1000000) ∧ (100 ≤ m.unsigned 44 3 ∧ m.unsigned 44 3 ≤ 100000) ∧
      (1 ≤ m.unsigned 47 1 ∧ m.unsigned 47 1 ≤ 16) ∧ (1 ≤ m.unsigned 48 2 ∧ m.unsigned 48 2 ≤ 1000) ∧
      m.unsigned 50 1 ≤ 2 ∧ m.unsigned 51 1 ≤ 1 := by
  have top := (m.signed_bounds 17 2).2
  have window : m.unsigned 19 1 = inRange 1 32 (m.unsigned 19 1) ∧
      m.unsigned 20 1 = inRange 1 (inRange 1 32 (m.unsigned 19 1)) (m.unsigned 20 1) ↔
      m.unsigned 19 1 = inRange 1 32 (m.unsigned 19 1) ∧ 1 ≤ m.unsigned 20 1 ∧ m.unsigned 20 1 ≤ m.unsigned 19 1 := by
    refine and_congr_right fun stays => ?_
    rw [← stays, eq_inRange_iff (by rw [stays]; exact (inRange_bounds (by decide) _).1)]
  have limit : m.signed 17 2 = clamp 0 32767 (m.signed 17 2) ↔ 0 ≤ m.signed 17 2 := by
    rw [eq_clamp_iff (by decide)]
    omega
  rw [usedFields_eq]
  simp only [storedFields, readSettings, field_eq, readSigned_readAll, List.cons.injEq, natCast_eq_iff, and_true]
  refine and_congr (eq_rateCode_iff _) <| and_congr (eq_inRange_zero_iff _ _) <|
    and_congr (eq_inRange_iff (by decide) _) <| and_congr (eq_inRange_iff (by decide) _) <|
    and_congr (eq_timeConstant_iff (i := 6) (j := 13) (by decide) _) <|
    and_congr (eq_timeConstant_iff (i := 6) (j := 13) (by decide) _) <|
    and_congr (eq_timeConstant_iff (i := 8) (j := 14) (by decide) _) <| and_congr (eq_clamp_iff (by decide) _) <|
    and_congr limit <| ?_
  rw [← and_assoc, window, and_assoc]
  exact and_congr (eq_inRange_iff (by decide) _) <| and_congr Iff.rfl <| and_congr (eq_inRange_iff (by decide) _) <|
    and_congr (eq_inRange_iff (by decide) _) <| and_congr (eq_inRange_iff (by decide) _) <|
    and_congr (eq_inRange_iff (by decide) _) <| and_congr (eq_inRange_iff (by decide) _) <|
    and_congr (eq_listed_iff (by decide) _) <| and_congr (eq_listed_iff (by decide) _) <|
    and_congr (eq_inRange_iff (by decide) _) <| and_congr (eq_inRange_zero_iff _ _) <|
    and_congr (eq_inRange_iff (by decide) _) <| and_congr (eq_inRange_zero_iff _ _) <|
    and_congr (eq_inRange_iff (by decide) _) <| and_congr (eq_inRange_iff (by decide) _) <|
    and_congr (eq_inRange_iff (by decide) _) <| and_congr (eq_inRange_iff (by decide) _) <|
    and_congr (eq_auxCode_iff _) <| eq_switch_iff _

/-- The block is sound with its marker and its check value (R168, R175). -/
theorem configurationSound_iff (m : Memory) : configurationSound m = true ↔
    m.unsigned 0 1 = 196 ∧ m.unsigned 1 1 = 23 ∧
      ((List.range 54).map fun a => (Memory.read m a).toNat).sum % 65536 = m.unsigned 54 2 := by
  rw [configurationSound, Bool.and_eq_true, decide_eq_true_eq, decide_eq_true_eq, readAll_two_eq_iff, checkSum_readAll,
    field_eq, and_assoc]
  simp

end Sys2Proof.Machine

open Sys2Proof Sys2Proof.Machine

/-- Settles O7: field by field. -/
theorem settingsInRange : Obligations.SettingsInRange := by
  intro m
  have low := m.signed_bounds 15 2
  have high := m.signed_bounds 17 2
  dsimp only [readSettings]
  simp only [field_eq, readSigned_readAll]
  have cable : m.unsigned 5 2 ≤ 65535 := Nat.le_of_lt_succ (m.unsigned_lt 5 2)
  have enables : (BitVec.ofNat 16 (m.unsigned 52 2)).toNat = m.unsigned 52 2 := by
    rw [BitVec.toNat_ofNat]
    exact Nat.mod_eq_of_lt (m.unsigned_lt 52 2)
  have lowest : clamp (-32767) 0 (m.signed 15 2) = max (-32767) (min 0 (m.signed 15 2)) := clamp_eq (by decide) _
  have highest : clamp 0 32767 (m.signed 17 2) = max 0 (m.signed 17 2) := by
    rw [clamp_eq (by decide)]
    omega
  have window := inRange_bounds (lo := 1) (hi := 32) (by decide) (m.unsigned 19 1)
  have near : ∀ {lo hi v : Nat}, 0 < lo → lo ≤ hi → _ := fun {lo hi v} pos h =>
    inRange_eq h v ▸ timeConstant_near pos h v
  refine ⟨(inRange_bounds (by decide) _).2, cable, inRange_bounds (by decide) _, inRange_bounds (by decide) _,
    timeConstant_bounds (i := 6) (j := 13) (by decide) _, timeConstant_bounds (i := 6) (j := 13) (by decide) _,
    timeConstant_bounds (i := 8) (j := 14) (by decide) _, by rw [lowest]; omega, by rw [highest]; omega, window,
    inRange_bounds window.1 _, inRange_bounds (by decide) _, inRange_bounds (by decide) _,
    inRange_bounds (by decide) _, inRange_bounds (by decide) _, inRange_bounds (by decide) _,
    listed_mem (by decide) _, listed_mem (by decide) _, inRange_bounds (by decide) _, (inRange_bounds (by decide) _).2,
    inRange_bounds (by decide) _, (inRange_bounds (by decide) _).2, inRange_bounds (by decide) _,
    inRange_bounds (by decide) _, inRange_bounds (by decide) _, inRange_bounds (by decide) _,
    rfl, inRange_eq (by decide) _, trivial, inRange_eq (by decide) _, inRange_eq (by decide) _,
    near (by decide) (by decide), near (by decide) (by decide), near (by decide) (by decide),
    lowest, highest, inRange_eq (by decide) _, inRange_eq window.1 _, inRange_eq (by decide) _, inRange_eq (by decide) _,
    inRange_eq (by decide) _, inRange_eq (by decide) _, inRange_eq (by decide) _, rfl, rfl, inRange_eq (by decide) _,
    inRange_eq (by decide) _, inRange_eq (by decide) _, inRange_eq (by decide) _, inRange_eq (by decide) _,
    inRange_eq (by decide) _, inRange_eq (by decide) _, inRange_eq (by decide) _, rfl, trivial, enables,
    configurationSound_iff m, storedFields_eq_usedFields_iff m⟩

end

section
/-! PROOF. The opening of second 0, LOAD, and the loss of OSC_IN (R9, R10, R152, R166 to R170).
-/

namespace Sys2Proof.Machine

/-! ### The entry to FAULT, block by block -/

theorem announce_tsg (old : EngineState) (s : State) : (announce old s).tsg = (refreshOutputs s).tsg := by
  unfold announce
  dsimp only
  (repeat' split) <;> simp

theorem abortSlot_committed_of_none {s : State} (h : s.tsg.committed = none) : (abortSlot s).tsg.committed = none := by
  unfold abortSlot
  simp only [h]
  (repeat' split) <;> simp [Timescale.endSlew, h]

/-- What FAULT leaves of the schedule (R120). -/
@[simp] theorem enterFault_schedule (s : State) : (enterFault s).tsg.nextBoundary = s.tsg.nextBoundary ∧
    (enterFault s).tsg.fSet = s.tsg.fSet := by
  unfold enterFault
  split
  · exact ⟨rfl, rfl⟩
  · obtain ⟨x, e, -, -, next, -, -, f, -⟩ := abortSlot_eq s
    simp [announce_tsg, emptyMarkSlots, e, next, f]

theorem enterFault_committed_of_none {s : State} (h : s.tsg.committed = none) :
    (enterFault s).tsg.committed = none := by
  unfold enterFault
  split
  · exact h
  · simp [announce_tsg, emptyMarkSlots, abortSlot_committed_of_none h]

/-- The slot is emptied (R120), or was empty. -/
theorem enterFault_slot {s : State} (h : s.tsg.slot = none ∨ s.eng.state ≠ .fault) :
    (enterFault s).tsg.slot = none := by
  by_cases hf : s.eng.state = .fault
  · rw [enterFault_of_fault hf]
    exact h.resolve_right (Decidable.not_not.mpr hf)
  · obtain ⟨x, e, slot, -⟩ := abortSlot_eq s
    simp [enterFault, hf, announce_tsg, emptyMarkSlots, e, slot]

/-- The outputs are low in FAULT (R8). -/
theorem enterFault_silent {s : State} (h : s.MuteObeyed) :
    (enterFault s).tsg.outputsRunning = false ∧ (enterFault s).tsg.ppsOut = false := by
  obtain ⟨running, pps, -⟩ := mute_course.enterFault s h (by simp [muteOf])
  exact ⟨running, pps⟩

@[simp] theorem enterFault_integral (s : State) : (enterFault s).eng.integral = s.eng.integral := by
  by_cases h : s.eng.state = .fault
  · rw [enterFault_of_fault h]
  · rw [enterFault_eng h]
    rfl

/-! ### The loss of OSC_IN (R9) -/

theorem windowGood_iff (n : Nat) (gap : Bool) : windowGood n gap = true ↔ 9900 ≤ n ∧ n ≤ 10100 ∧ gap = false := by
  simp [windowGood, and_assoc]

/-- The boundary in progress without its amount (R2, R9). -/
theorem Timescale.discarded_nextBoundary {x : Timescale} (h : x.osc = .present) :
    x.discardCommitted.schedule.nextBoundary = place (x.boundaryIndex + 1) (narrowPhi (x.phi + x.fInForce)) := by
  have scheduled := (scheduled_iff _).mp x.discardCommitted.schedule_scheduled (by simpa using h)
  rw [scheduled.2.1, scheduled.1]
  simp [amountOf, Timescale.discardCommitted_committed]

/-- What the declared loss leaves: the boundary without the amount, FAULT, the outputs low (R9). -/
theorem declareLoss_eq {s : State} (h : s.tsg.osc ≠ .lost) : declareLoss s =
    enterFault (raise .oscLoss (s.withTsg { s.tsg.discardCommitted.schedule with osc := .lost })) := if_neg h

theorem declareLoss_muted {s : State} (h : s.tsg.osc ≠ .lost) (hm : s.MuteObeyed) :
    (declareLoss s).tsg.outputsRunning = false ∧ (declareLoss s).tsg.ppsOut = false := by
  rw [declareLoss_eq h]
  refine enterFault_silent fun mute => ?_
  have cause : s.muteCause = true := by simpa [State.muteCause] using mute
  simpa using hm cause

theorem declareLoss_tsg {s : State} (h : s.tsg.osc ≠ .lost) :
    (declareLoss s).tsg.osc = .lost ∧ (declareLoss s).tsg.committed = none ∧
    (s.tsg.osc = .present → (declareLoss s).tsg.nextBoundary =
      place (s.tsg.boundaryIndex + 1) (narrowPhi (s.tsg.phi + s.tsg.fInForce))) := by
  rw [declareLoss_eq h]
  refine ⟨by simp, enterFault_committed_of_none (by simp [Timescale.discardCommitted_committed]), fun present => ?_⟩
  simpa using Timescale.discarded_nextBoundary present

/-! ### Second 0 (R166) -/

/-- After a good window second 0 opens with no more; after another the loss is reported (log entry 7). -/
theorem openSecond0_of_window (n : Nat) (b : BitVec 4) (p : Bool) (s : State) :
    ∃ t : State, openSecond0 n b p s = (if windowGood n s.tsg.windowGap then t else reportLoss t) ∧
      t.tsg = { Timescale.reset with osc := if windowGood n s.tsg.windowGap then .present else .lost } ∧
      t.lrn = { s.lrn with converting := true, sampling := .waiting, staleDue := 4000000000 } ∧
      t.scu.raised = 0 ∧ t.pwr = { s.pwr with
        opened := true, state := .load, stage := .configuration, address := b.toFin, sitePwr := p, filtered := p
        filterDue := none } :=
  ⟨_, rfl, rfl, rfl, rfl, rfl⟩

/-! ### The configuration read (R168, R169) -/

theorem indicates_cls {s : State} {e : EngineState} (h : s.eng.state = e) :
    indicates s.cls = (decide (e = .locked) || decide (e = .follow)) := by
  unfold indicates State.cls
  rw [h]
  cases e <;> rfl

theorem beq_decide {α : Type} [BEq α] [LawfulBEq α] [DecidableEq α] (x y : α) : (x == y) = decide (x = y) := by
  by_cases h : x = y <;> simp [h]

theorem configurationOutcome_eq (a : Bool) (m : Memory) : configurationOutcome a m =
    (if (a && configurationSound m) = true then readSettings m else {},
      decide ((a && configurationSound m) = false ∨ storedFields m ≠ usedFields (readSettings m))) := by
  unfold configurationOutcome
  cases a && configurationSound m with
  | true => simp [bne, beq_decide]
  | false => simp

/-- The flags that the configuration read finds (R168). -/
def foundFlags (defaulted acknowledged : Bool) : List Flag :=
  (if defaulted then [.configDefaulted] else []) ++ if acknowledged then [] else [.storeFault]

theorem mem_foundFlags (f : Flag) (d a : Bool) : f ∈ foundFlags d a ↔
    f = .configDefaulted ∧ d = true ∨ f = .storeFault ∧ a = false := by
  cases d <;> cases a <;> simp [foundFlags]

theorem loadConfiguration_eq (a : Bool) (s : State) : loadConfiguration a s =
    (raiseAll (foundFlags (configurationOutcome a s.eeprom).2 a)
      (refreshOutputs ((s.withCfg (configurationOutcome a s.eeprom).1).withScu
        { s.scu with enabled := (configurationOutcome a s.eeprom).1.alertEnables }))).withPwr
      { s.pwr with stage := .learning } := by
  unfold loadConfiguration foundFlags
  dsimp only
  cases (configurationOutcome a s.eeprom).2 <;> cases a <;> simp [raiseAll]

theorem raiseAll_raised_set (fs : List Flag) (s : State) :
    (raiseAll fs s).scu.raised = s.scu.raised ||| masks fs :=
  flagSet_ext fun f => by simp [raiseAll_raised, hasFlag_masks]

/-- What an ALERT offers: the flags that came newly and are enabled (R158). -/
theorem newly_raised (x r e : FlagSet) : x &&& e &&& ~~~r = (r ||| x) &&& ~~~r &&& e :=
  flagSet_ext fun f => by
    simp only [hasFlag_and, hasFlag_or, hasFlag_not]
    cases hasFlag r f <;> simp

/-! ### The learning block (R152, R175) -/

/-- The validity marker of the learning block (R175). -/
def LearningMarked (m : Memory) : Prop := m.unsigned 256 1 = 182 ∧ m.unsigned 257 1 = 77

/-- The learning block passes its check value and the ranges of its fields (R152). -/
def LearningFits (m : Memory) : Prop :=
  ((List.range 576).map fun i => (Memory.read m (272 + i)).toNat).sum % 65536 = m.unsigned 261 2 ∧
  m.unsigned 260 1 ≤ 8 ∧ -1000 ≤ m.signed 258 2 ∧ m.signed 258 2 ≤ 1000 ∧
  ∀ b, b < 64 → -2000000000 ≤ m.signed (274 + 8 * b) 4 ∧ m.signed (274 + 8 * b) 4 ≤ 2000000000 ∧
    (m.unsigned (272 + 8 * b) 2 = 0 → m.signed (274 + 8 * b) 4 = 0 ∧ m.unsigned (278 + 8 * b) 2 = 0)

theorem storedBin_eq (m : Memory) (b : Nat) : storedBin m b =
    ⟨m.unsigned (272 + 8 * b) 2, m.signed (274 + 8 * b) 4, m.unsigned (278 + 8 * b) 2⟩ := by
  simp only [storedBin, readBytes_readAll, readSigned_readAll]

theorem storedBin_inRange_iff (m : Memory) (b : Nat) : (storedBin m b).inRange = true ↔
    -2000000000 ≤ m.signed (274 + 8 * b) 4 ∧ m.signed (274 + 8 * b) 4 ≤ 2000000000 ∧
    (m.unsigned (272 + 8 * b) 2 = 0 → m.signed (274 + 8 * b) 4 = 0 ∧ m.unsigned (278 + 8 * b) 2 = 0) := by
  rw [storedBin_eq]
  simp only [Bin.inRange, Bool.and_eq_true, Bool.or_eq_true, decide_eq_true_eq]
  omega

theorem storedBins_inRange_iff (m : Memory) :
    (Vector.ofFn fun i : Fin 64 => storedBin m i.val).toList.all Bin.inRange = true ↔
      ∀ b, b < 64 → (storedBin m b).inRange = true := by
  rw [List.all_eq_true]
  constructor
  · intro all b hb
    refine all _ ?_
    rw [Vector.mem_toList_iff]
    exact Vector.mem_ofFn.mpr ⟨⟨b, hb⟩, rfl⟩
  · intro all x hx
    rw [Vector.mem_toList_iff] at hx
    obtain ⟨i, rfl⟩ := Vector.mem_ofFn.mp hx
    exact all i.val i.isLt

theorem storedSample_eq (m : Memory) (i : Nat) : storedSample m i =
    ⟨m.signed (784 + 8 * i) 4, (4294967296 - m.unsigned (788 + 8 * i) 4) % 4294967296⟩ := by
  have age := m.unsigned_lt (788 + 8 * i) 4
  simp only [storedSample, readBytes_readAll, readSigned_readAll, secondsSince, Config.secondModulus, AgingSample.mk.injEq, true_and]
  rw [Nat.zero_add, Nat.mod_eq_of_lt (b := 4294967296) age]

/-- What the learning block turns out to be (R152). -/
theorem readLearningBlock_finds (m : Memory) :
    ¬LearningMarked m ∧ readLearningBlock m = .absent ∨
    LearningMarked m ∧ ¬LearningFits m ∧ readLearningBlock m = .faulty ∨
    LearningMarked m ∧ LearningFits m ∧ readLearningBlock m = .sound (Vector.ofFn fun i => storedBin m i.val)
      ((List.range (m.unsigned 260 1)).map (storedSample m)) (m.signed 258 2) := by
  have marked : m.readAll 256 2 = [182, 77] ↔ LearningMarked m := readAll_two_eq_iff m 256 182 77
  unfold readLearningBlock LearningFits
  simp only [readBytes_readAll, readSigned_readAll, checkSum_readAll, storedBins_inRange_iff, storedBin_inRange_iff]
  by_cases hm : m.readAll 256 2 = [182, 77]
  · refine .inr ?_
    rw [if_neg (Decidable.not_not.mpr hm), ← marked]
    repeat' split
    · next sum => exact .inl ⟨hm, fun fits => sum fits.1, rfl⟩
    · next fields =>
      refine .inl ⟨hm, fun ⟨_, fill, low, high, bins⟩ => ?_, rfl⟩
      obtain large | under | above | wrong := fields
      · omega
      · omega
      · omega
      · exact wrong bins
    · next sum fields =>
      simp only [not_or, Nat.not_lt, Int.not_lt, Decidable.not_not] at fields
      obtain ⟨fill, low, high, bins⟩ := fields
      exact .inr ⟨hm, ⟨Decidable.not_not.mp sum, fill, low, high, bins⟩, rfl⟩
  · exact .inl ⟨fun h => hm (marked.mpr h), if_pos hm⟩

/-! ### The end of LOAD (R152, R170) -/

/-- Warm-up remaining is moved by a boundary and by the end of LOAD alone. -/
theorem warmupLeft_walk (n : Nat) : EngineWalk (fun e => e.warmupLeft = n) False where
  plain _ _ _ _ _ _ _ _ _ _ _ _ same h := (same.resolve_left id).trans h
  order _ _ _ h := h
  unordered _ h := h
  predicted _ _ _ h := h
  nudged _ _ _ h := h
  counted _ _ _ h := h
  locked _ _ h := h
  large _ _ _ h := h
  steered boundary := boundary.elim
  disagreed _ _ _ h := h
  acquire _ _ h := h
  back _ _ h := h
  follow _ _ h := h
  holdover _ _ h := h
  freerun _ h := h
  warmup _ h := h
  faulted _ h := h

theorem applySelection_warmupLeft (s : State) : (applySelection s).eng.warmupLeft = s.eng.warmupLeft :=
  (warmupLeft_walk _).applySelection s rfl

/-- The state after which LOAD may make its selection. -/
def State.loaded (s : State) : State :=
  offerStatus (refreshOutputs ((s.withPwr { s.pwr with
    stage := .done, state := if s.pwr.filtered then .runNormal else .runSave }).withEng
    { s.eng with warmupLeft := s.cfg.warmup }))

theorem endLoad_eq (s : State) : endLoad s =
    if s.cfg.warmup = 0 ∧ s.loaded.eng.state = .warmup then applySelection s.loaded else s.loaded := by
  unfold endLoad State.loaded
  simp

theorem loaded_eng (s : State) : s.loaded.eng = { s.eng with warmupLeft := s.cfg.warmup } := by
  simp [State.loaded]

/-- LOAD ends with a warm-up, or leaves WARMUP by a selection (R104, R170). -/
theorem endLoad_eng {s : State} (h : s.eng.state = .warmup) :
    (endLoad s).eng.warmupLeft = s.cfg.warmup ∧
    (0 < s.cfg.warmup → (endLoad s).eng = { s.eng with warmupLeft := s.cfg.warmup }) ∧
    (s.cfg.warmup = 0 → (endLoad s).eng.state ≠ .warmup) := by
  rw [endLoad_eq, loaded_eng]
  by_cases hw : s.cfg.warmup = 0
  · rw [if_pos ⟨hw, h⟩, applySelection_warmupLeft, loaded_eng]
    exact ⟨rfl, fun hp => absurd hw (Nat.ne_of_gt hp), fun _ => applySelection_not_warmup _⟩
  · rw [if_neg fun h => hw h.1, loaded_eng]
    exact ⟨rfl, fun _ => rfl, fun h => absurd h hw⟩

theorem endLoad_pwr (s : State) : (endLoad s).pwr = { s.pwr with
    stage := .done, state := if s.pwr.filtered then .runNormal else .runSave } := by
  have loaded : s.loaded.pwr = { s.pwr with
      stage := .done, state := if s.pwr.filtered then .runNormal else .runSave } := by simp [State.loaded]
  rw [endLoad_eq, ← loaded]
  (repeat' split) <;> simp

theorem endLoad_lrn (s : State) : (endLoad s).lrn = s.lrn := by
  rw [endLoad_eq]
  (repeat' split) <;> simp [State.loaded]

/-- A flag that stands before the end of LOAD stands after it (R154). -/
theorem endLoad_raised {f : Flag} {s : State} (h : hasFlag s.scu.raised f = true) :
    hasFlag (endLoad s).scu.raised f = true :=
  (raised_kept (i := .learningBlockRead true) f rfl rfl).endLoad s h

theorem restoreLearning_agingClock (a : Bool) (s : State) : (restoreLearning a s).lrn.agingClock = 0 := by
  unfold restoreLearning putLearning
  cases a with
  | false => simp
  | true => cases h : readLearningBlock s.eeprom <;> simp

/-- The read restores a sound block of a memory that answers (R152). -/
theorem restoreLearning_of_sound {s : State} {table : Vector Bin 64} {aging : List AgingSample} {rate : Int}
    (h : readLearningBlock s.eeprom = .sound table aging rate) :
    restoreLearning true s = putLearning table aging rate s := by
  simp [restoreLearning, h]

/-- Where it finds none, nothing is learned; a faulty one, and a memory that does not answer, raise STORE_FAULT. -/
theorem restoreLearning_of_none {a : Bool} {s : State}
    (h : a = false ∨ readLearningBlock s.eeprom = .absent ∨ readLearningBlock s.eeprom = .faulty) :
    (restoreLearning a s).lrn = (putLearning (Vector.replicate 64 Bin.empty) [] 0 s).lrn ∧
    (a = false ∨ readLearningBlock s.eeprom = .faulty →
      hasFlag (restoreLearning a s).scu.raised .storeFault = true) := by
  unfold restoreLearning
  cases a with
  | false => simp
  | true =>
    obtain no | absent | faulty := h
    · cases no
    · simp [absent]
    · simp [faulty]

end Sys2Proof.Machine

open Sys2Proof Sys2Proof.Machine

/-- Settles O12: both findings of a loss are the declaration of the loss on the clock of the finding. -/
theorem oscillatorLossAndReturn : Obligations.OscillatorLossAndReturn := by
  refine ⟨fun s t i ready osc muted hi => ?_, fun s t n ready low high gap => ?_, fun s t ready lost => ?_⟩
  · have running := ((ready_iff s).mp ready).1
    have declared : ∃ gap, exec i s = .next (declareLoss (s.withTsg { s.tsg with now := t, windowGap := gap })) := by
      obtain rfl | ⟨n, rfl, bad⟩ := hi
      · refine ⟨true, ?_⟩
        show execOscGap t s = _
        rw [execOscGap, if_pos running, event_of_ready _ ready]
      · refine ⟨false, ?_⟩
        have notGood : ¬windowGood n s.tsg.windowGap = true := by
          rw [windowGood_iff]
          cases hg : s.tsg.windowGap <;> simp [hg] at bad ⊢
          omega
        show execCheckWindowEnd t n s = _
        rw [execCheckWindowEnd, event_of_ready _ ready]
        exact congrArg _ (if_neg notGood)
    obtain ⟨gap, declared⟩ := declared
    refine ⟨_, declared, ?_⟩
    obtain ⟨lost, committed, next⟩ := declareLoss_tsg (s := s.withTsg { s.tsg with now := t, windowGap := gap }) osc
    obtain ⟨running, pps⟩ := declareLoss_muted (s := s.withTsg { s.tsg with now := t, windowGap := gap }) osc muted
    refine ⟨lost, committed, ?_, ?_, ?_, ?_, next, ?_, ?_, ?_, pps, running, ?_⟩ <;>
      rw [declareLoss_eq (s := s.withTsg { s.tsg with now := t, windowGap := gap }) osc] <;> simp [enterFault_raised]
  · have good : windowGood n s.tsg.windowGap = true := (windowGood_iff n _).mpr ⟨low, high, gap⟩
    show execCheckWindowEnd t n s = _
    rw [execCheckWindowEnd, event_of_ready _ ready]
    refine congrArg _ ((if_pos good).trans ?_)
    by_cases lost : s.tsg.osc = .lost
    · simp [lost, gap]
    · simp [lost, gap]
  · have running := ((ready_iff s).mp ready).1
    show execOscGap t s = _
    rw [execOscGap, if_pos running, event_of_ready _ ready]
    exact congrArg _ (if_pos lost)

/-- Settles O5. -/
theorem secondZeroOpens : Obligations.SecondZeroOpens := by
  intro s cycles straps high held opened
  obtain ⟨t, ht, tsg, lrn, scu, pwr⟩ := openSecond0_of_window cycles straps high s
  have run : exec (.openSecond0 cycles straps high) s = .next (openSecond0 cycles straps high s) := by
    show execOpenSecond0 cycles straps high s = _
    rw [execOpenSecond0, held, opened]
    rfl
  have held' : s.pwr.supplyGood = true ∧ s.pwr.resetLow = false := by simpa [State.held] using held
  refine ⟨_, run, ?_⟩
  rw [← windowGood_iff]
  have keeps := openSecond0_keeps cycles straps high s
  by_cases good : windowGood cycles s.tsg.windowGap = true
  · have opens : openSecond0 cycles straps high s = t := ht.trans (if_pos good)
    rw [opens] at keeps ⊢
    rw [tsg, lrn, scu, pwr, if_pos good]
    refine ⟨?_, rfl, rfl, rfl, rfl, rfl, rfl, rfl, rfl, rfl, rfl, rfl, rfl, rfl, rfl, rfl, rfl,
      fun _ => ⟨rfl, rfl⟩, fun bad => absurd good bad, keeps⟩
    rw [State.running, State.held, pwr]
    simp [held']
  · have opens : openSecond0 cycles straps high s = reportLoss t := ht.trans (if_neg good)
    have low : t.MuteObeyed := by
      intro _
      rw [tsg]
      exact ⟨rfl, rfl, fun _ => rfl⟩
    rw [opens] at keeps ⊢
    have silent := mute_course.enterFault _ (mute_course.raise .oscLoss t low) (by simp [muteOf])
    have committed := enterFault_committed_of_none (s := raise .oscLoss t) (by simp [tsg, Timescale.reset])
    have slot := enterFault_slot (s := raise .oscLoss t) (.inl (by simp [tsg, Timescale.reset]))
    refine ⟨?_, ?_⟩
    · simp [State.running, State.held, reportLoss, pwr, held']
    · simpa [reportLoss, tsg, lrn, pwr, silent, committed, slot, good, enterFault_raised, Timescale.reset] using keeps

/-- Settles O6: the flags found come after the settings and the outputs. -/
theorem configurationPutIntoUse : Obligations.ConfigurationPutIntoUse := by
  intro s acknowledged ready stage sound
  have run : exec (.configurationRead acknowledged) s = .next (loadConfiguration acknowledged s) := by
    show execConfigurationRead acknowledged s = _
    rw [execConfigurationRead, event_of_ready _ ready]
    exact congrArg _ (if_pos stage)
  refine ⟨_, run, ?_⟩
  have cfg : (loadConfiguration acknowledged s).cfg = if sound = true then readSettings s.eeprom else {} := by
    rw [loadConfiguration_eq, configurationOutcome_eq]
    simp [sound]
  have enabled : (loadConfiguration acknowledged s).scu.enabled = (loadConfiguration acknowledged s).cfg.alertEnables := by
    rw [loadConfiguration_eq]
    simp
  have bus : (loadConfiguration acknowledged s).bus = s.bus.alerted ((loadConfiguration acknowledged s).scu.raised &&&
      ~~~s.scu.raised &&& (loadConfiguration acknowledged s).scu.enabled) := by
    rw [loadConfiguration_eq, State.withPwr_bus, raiseAll_bus_alerted, newly_raised]
    simp [raiseAll_raised_set]
  have unsound (h : sound = false) : (loadConfiguration acknowledged s).cfg = {} := cfg.trans (if_neg (by simp [h]))
  refine ⟨fun h => cfg.trans (if_pos h), unsound, enabled, fun h => by rw [enabled, unsound h], fun f => ?_, ?_, ?_, ?_,
    bus, by simp, by simp, by simp, by simp, by simp, by simp⟩
  · rw [loadConfiguration_eq, configurationOutcome_eq, State.withPwr_scu, raiseAll_raised]
    simp [mem_foundFlags, sound, Bool.or_assoc]
  · simp [loadConfiguration_eq]
  · simp [loadConfiguration_eq]
  · have mute : (loadConfiguration acknowledged s).muteCause = s.muteCause := by
      rw [loadConfiguration_eq]
      simp [State.muteCause, State.withPwr]
    have before (c : Settings) (x : StatusUnit) : ((s.withCfg c).withScu x).muteCause = s.muteCause := rfl
    have class_ (c : Settings) (x : StatusUnit) : indicates ((s.withCfg c).withScu x).cls =
        (decide (s.eng.state = .locked) || decide (s.eng.state = .follow)) := indicates_cls rfl
    rw [mute, loadConfiguration_eq, State.withPwr_tsg, (raiseAll_keeps _ _).1, refreshOutputs]
    cases hm : (configurationOutcome acknowledged s.eeprom).1.auxMode <;> simp [hm, before, class_, bne, beq_decide]

/-- Settles O8: the three findings of the read, then the end of LOAD on the restored state. -/
theorem loadEnds : Obligations.LoadEnds := by
  refine ⟨fun m => ?_, fun s acknowledged ready stage warmup => ?_⟩
  · show (_ ↔ ¬LearningMarked m) ∧ (_ ↔ LearningMarked m ∧ ¬LearningFits m) ∧
      ∀ (table : Vector Bin 64) (aging : List AgingSample) (rate : Int), _ → LearningMarked m ∧ LearningFits m ∧ _
    obtain ⟨marked, found⟩ | ⟨marked, fits, found⟩ | ⟨marked, fits, found⟩ := readLearningBlock_finds m <;> rw [found]
    · simp [marked]
    · simp [marked, fits]
    · refine ⟨by simp [marked], by simp [fits], fun table aging rate e => ?_⟩
      obtain ⟨rfl, rfl, rfl⟩ := StoredCopy.sound.inj e
      refine ⟨marked, fits, rfl, by simp, fun b => by simp [storedBin_eq], fun i a ha => ?_⟩
      rw [List.getElem?_map] at ha
      obtain ⟨j, hj, rfl⟩ := Option.map_eq_some_iff.mp ha
      obtain ⟨-, rfl⟩ := List.getElem?_eq_some_iff.mp hj
      rw [List.getElem_range, storedSample_eq]
  · have run : exec (.learningBlockRead acknowledged) s = .next (endLoad (restoreLearning acknowledged s)) := by
      show execLearningBlockRead acknowledged s = _
      rw [execLearningBlockRead, event_of_ready _ ready]
      exact congrArg _ (if_pos stage)
    obtain ⟨left, counted, ended⟩ := endLoad_eng (s := restoreLearning acknowledged s) (by simpa using warmup)
    refine ⟨_, run, by simp [endLoad_pwr], by simpa using left, by simpa using counted, by simpa using ended, ?_, ?_, ?_,
      ?_, by simp⟩
    · rw [endLoad_lrn, restoreLearning_agingClock]
    · rintro table aging rate rfl sound
      rw [endLoad_lrn, restoreLearning_of_sound sound]
      exact ⟨rfl, rfl, rfl⟩
    · intro none_
      rw [endLoad_lrn, (restoreLearning_of_none none_).1]
      exact ⟨rfl, rfl, rfl⟩
    · intro faulty
      exact endLoad_raised ((restoreLearning_of_none (faulty.imp_right .inr)).2 faulty)

end

section
/-! PROOF. RESTART (R164).
-/

namespace Sys2Proof.Machine

/-! ### Raises and offers while no frame of the queue is under attempt -/

/-- No slot of the queue is under attempt (R66). -/
def Bus.Idle (b : Bus) : Prop := ∀ a, b.attempt = some a → a.inSlot = false

theorem Bus.Idle.attempting {b : Bus} (h : b.Idle) (k : SlotKind) : b.attempting k = false := by
  unfold Bus.attempting
  cases ha : b.attempt with
  | none => rfl
  | some a => simp [h a ha]

theorem raise_raised_ne (f : Flag) (s : State) : (raise f s).scu.raised ≠ 0 := fun e => by
  have := raise_raised f f s
  rw [e] at this
  simp at this

theorem raise_bus_of_idle {f : Flag} {s : State} (h : s.bus.Idle) :
    ∃ a, (raise f s).bus = { s.bus with alert := a } := by
  rw [raise_bus_alerted, Bus.alerted, h.attempting, if_neg (by decide : ¬false = true)]
  split
  · exact ⟨_, rfl⟩
  · exact ⟨_, rfl⟩

theorem offerStatus_bus_of_idle {s : State} (h : s.bus.Idle) :
    ∃ p q, (offerStatus s).bus = { s.bus with status0 := p, status1 := q } := by
  unfold offerStatus
  simp only [h.attempting, if_neg (by decide : ¬false = true)]
  split
  · exact ⟨_, _, rfl⟩
  · exact ⟨_, _, rfl⟩

theorem exhaustionTest_bus_of_idle {s : State} (h : s.bus.Idle) : ∃ a,
    (exhaustionTest s).bus = { s.bus with alert := a } ∧ ((exhaustionTest s).scu.raised = 0 → a = s.bus.alert) := by
  unfold exhaustionTest
  split
  · obtain ⟨a, ha⟩ := raise_bus_of_idle (f := .holdExhausted) h
    have ne := raise_raised_ne .holdExhausted s
    refine ⟨a, ?_⟩
    dsimp only
    (repeat' split) <;> simp_all
  · exact ⟨_, rfl, fun _ => rfl⟩

theorem announce_bus_of_idle {s : State} (old : EngineState) (h : s.bus.Idle) : ∃ p q a,
    (announce old s).bus = { s.bus with status0 := p, status1 := q, alert := a } ∧
    (old = s.eng.state → p = s.bus.status0 ∧ q = s.bus.status1) ∧
    ((announce old s).scu.raised = 0 → a = s.bus.alert ∧ s.scu.raised = 0) := by
  have changed : ∃ a, ∃ t : State, t.bus = { s.bus with alert := a } ∧ t.eng = s.eng ∧
      (t.scu.raised = 0 → a = s.bus.alert ∧ s.scu.raised = 0) ∧
      announce old s = if old ≠ t.eng.state then offerStatus t else t := by
    by_cases same : classOf old ≠ (refreshOutputs s).cls
    · obtain ⟨a, ha⟩ := raise_bus_of_idle (f := .sourceChange) (s := refreshOutputs s) (by simpa using h)
      refine ⟨a, raise .sourceChange (refreshOutputs s), by simpa using ha, by simp, ?_, ?_⟩
      · exact fun e => absurd e (raise_raised_ne _ _)
      · rw [announce, if_pos same]
    · refine ⟨s.bus.alert, refreshOutputs s, by simp, by simp, by simp, ?_⟩
      rw [announce, if_neg same]
  obtain ⟨a, t, bus, eng, quiet, e⟩ := changed
  have idle : t.bus.Idle := by rw [bus]; exact h
  rw [e, eng]
  by_cases stays : old = s.eng.state
  · rw [if_neg (Decidable.not_not.mpr stays)]
    exact ⟨_, _, a, bus, fun _ => ⟨rfl, rfl⟩, quiet⟩
  · rw [if_pos stays]
    obtain ⟨p, q, ho⟩ := offerStatus_bus_of_idle idle
    refine ⟨p, q, a, by rw [ho, bus], fun e => absurd e stays, by simpa using quiet⟩

theorem Bus.restarted_idle (b : Bus) : b.restarted.Idle := by
  intro a ha
  simp only [Bus.restarted, Bus.emptied, Option.map_eq_some_iff] at ha
  obtain ⟨a, -, rfl⟩ := ha
  rfl

/-! ### The engine's RESTART -/

/-- The Bus Interface at the end of a COMMAND's reception (R56, R57): an open attempt keeps the seen timestamp (log entry
17). -/
def Bus.commanded (b : Bus) : Bus :=
  { b with
    receiveErrors := b.lessReceiveError.receiveErrors, error := b.lessReceiveError.updateError.error
    seen := if b.attempt = none then none else b.seen }

theorem Bus.commanded_of_attempt {b : Bus} {a : Attempt} (h : b.attempt = some a) :
    b.lessReceiveError.updateError = b.commanded := by
  cases b
  obtain rfl : _ = some a := h
  simp only [commanded, updateError, lessReceiveError]
  (repeat' split) <;> simp_all

theorem exec_restart {s : State} {st : Stamp} {c : CommandFrame} (t : Instant) (ready : s.ready = true)
    (joined : s.bus.joined = true) (seen : s.bus.seen = some st) (named : isNamed c s = true) :
    exec (.restart t c) s = .next (restart ((s.at t).withBus s.bus.commanded)) := by
  show execRestart t c s = _
  have run (u : State) (hu : u.pwr = s.pwr) : handOver (.command 15 c) st u = restart u :=
    handOver_command 15 st (by rw [hu]; exact named)
  cases attempt : s.bus.attempt with
  | none =>
    have hears : s.hears st = true := (hears_iff s st).mpr ⟨ready, joined, attempt, seen⟩
    have heard : s.heard t = (s.at t).withBus s.bus.commanded := by
      rw [State.heard, endReception, State.at_bus, Bus.endReception_eq, Bus.commanded, if_pos attempt]
    rw [execRestart, receive_of_hears t _ hears, heard]
    exact congrArg _ (run _ rfl)
  | some a =>
    have commanded := Bus.commanded_of_attempt attempt
    rw [execRestart, event_of_ready _ ready, receive, seen]
    simp only [joined, attempt, Option.isNone_some, Bool.and_false, if_neg Bool.false_ne_true, Bool.true_and]
    rw [commanded]
    exact congrArg _ (run _ rfl)

/-- The counts and the error state after a reception (R56, R57). -/
theorem Bus.commanded_errors (b : Bus) :
    b.commanded.receiveErrors = (if b.error = .busOff ∨ b.listenOnly = true then b.receiveErrors
      else b.receiveErrors - 1) ∧
    b.commanded.error = if b.error = .busOff then .busOff
      else if b.transmitErrors < 128 ∧ b.commanded.receiveErrors < 128 then .errorActive else .errorPassive := by
  have held : b.countsHeld = true ↔ b.error = .busOff ∨ b.listenOnly = true := by simp [countsHeld]
  refine ⟨?_, ?_⟩
  · simp only [commanded, lessReceiveError, held]
    (repeat' split) <;> rfl
  · simp only [commanded, updateError]
    have same : b.lessReceiveError.error = b.error ∧ b.lessReceiveError.transmitErrors = b.transmitErrors := by
      unfold lessReceiveError
      (repeat' split) <;> exact ⟨rfl, rfl⟩
    rw [same.1, same.2]
    by_cases off : b.error = .busOff
    · rw [if_pos off, if_pos off, same.1, off]
    · rw [if_neg off, if_neg off]
      rfl

/-- The exhaustion test, in full (R134). -/
theorem exhaustionTest_found {s : State} (h : (s.eng.state = .holdover ∨ s.eng.state = .freerun) ∧
    s.cfg.holdoverLimit < s.eng.u) :
    (exhaustionTest s).eng = { s.eng with exhaustionOrder := s.cfg.muteOnExhaustion || s.eng.exhaustionOrder } ∧
    ∀ f, hasFlag (exhaustionTest s).scu.raised f = (hasFlag s.scu.raised f || decide (f = .holdExhausted)) := by
  unfold exhaustionTest
  rw [if_pos h]
  dsimp only
  cases hm : s.cfg.muteOnExhaustion <;> simp [hm]

theorem exhaustionTest_of_not {s : State} (h : ¬((s.eng.state = .holdover ∨ s.eng.state = .freerun) ∧
    s.cfg.holdoverLimit < s.eng.u)) : exhaustionTest s = s := if_neg h

@[simp] theorem announce_scu (old : EngineState) (s : State) :
    (announce old s).scu.enabled = s.scu.enabled ∧ (announce old s).scu.cause = s.scu.cause := by
  unfold announce
  dsimp only
  (repeat' split) <;> simp

@[simp] theorem exhaustionTest_scu (s : State) :
    (exhaustionTest s).scu.enabled = s.scu.enabled ∧ (exhaustionTest s).scu.cause = s.scu.cause := by
  unfold exhaustionTest
  dsimp only
  (repeat' split) <;> simp

/-- The outputs after an entry follow its mute cause (R8). -/
theorem announce_exhaustionTest_outputs (old : EngineState) (s : State) :
    let u := announce old (exhaustionTest s)
    u.tsg.outputsRunning = (s.tsg.outputsRunning && !u.muteCause) ∧ u.tsg.ppsOut = (s.tsg.ppsOut && !u.muteCause) := by
  intro u
  have mute : u.muteCause = (exhaustionTest s).muteCause := by simp [u, State.muteCause]
  rw [mute, announce_tsg]
  show ((exhaustionTest s).tsg.outputsRunning && _) = _ ∧ ((exhaustionTest s).tsg.ppsOut && _) = _
  unfold exhaustionTest
  dsimp only
  repeat' split
  · simp [refreshOutputs, State.muteCause]
  · simp
  · simp

/-- The state that RESTART enters (R122). -/
def Engine.restartState (e : Engine) : EngineState := if 0 < e.warmupLeft then .warmup else .freerun

/-- The engine's RESTART values (R122, R137). -/
def Engine.restarted (e : Engine) : Engine :=
  { e with
    state := e.restartState, source := none, pt := 0, ring := [], lockCount := 0, largeCount := 0, steerCount := 0
    inhibit := false, lastY := none, lastC := none, disagree := 0, record := none, nudge := 0
    lastPrediction := none, followedU := none, u := 2097151, exhaustionOrder := false }

/-- The engine and F at RESTART, before the exhaustion test. -/
def State.engineRestarted (s : State) : State :=
  (if 0 < s.eng.warmupLeft then s else setF (freeRunF s) s).withEng s.eng.restarted

theorem restartEngine_eq (s : State) :
    restartEngine s = announce s.eng.state (exhaustionTest s.engineRestarted) := by
  unfold restartEngine State.engineRestarted
  by_cases hw : 0 < s.eng.warmupLeft
  · simp only [if_pos hw, enterState_eq, Engine.restarted, Engine.restartState]
    rfl
  · simp only [if_neg hw, enterFreerun, enterState_eq, Engine.restarted, Engine.restartState]
    rfl

theorem engineRestarted_keeps (s : State) :
    s.engineRestarted.eng = s.eng.restarted ∧ s.engineRestarted.bus = s.bus ∧ s.engineRestarted.scu = s.scu ∧
    s.engineRestarted.cfg = s.cfg ∧ s.engineRestarted.lrn = s.lrn ∧
    s.engineRestarted.tsg = { s.tsg with fSet := if 0 < s.eng.warmupLeft then s.tsg.fSet else freeRunF s } := by
  unfold State.engineRestarted
  (repeat' split) <;> simp

theorem restarted_tracks_iff (e : Engine) :
    e.restarted.state = .holdover ∨ e.restarted.state = .freerun ↔ e.warmupLeft = 0 := by
  by_cases hw : 0 < e.warmupLeft
  · simp [Engine.restarted, Engine.restartState, hw, Nat.ne_of_gt hw]
  · simp [Engine.restarted, Engine.restartState, Nat.eq_zero_of_not_pos hw]

/-- The record and the flags that the engine's RESTART leaves (R122, R134, R137). -/
theorem restartEngine_values {s : State} (clear : s.scu.raised = 0) :
    (restartEngine s).eng = { s.eng.restarted with
      exhaustionOrder := decide ((s.eng.warmupLeft = 0 ∧ s.cfg.holdoverLimit < 2097151) ∧
        s.cfg.muteOnExhaustion = true) } ∧
    ∀ f, hasFlag (restartEngine s).scu.raised f = decide
      (f = .sourceChange ∧ classOf s.eng.state ≠ classOf s.eng.restartState ∨
        f = .holdExhausted ∧ s.eng.warmupLeft = 0 ∧ s.cfg.holdoverLimit < 2097151) := by
  obtain ⟨eng, -, scu, cfg, -, -⟩ := engineRestarted_keeps s
  have limit : s.eng.restarted.u = 2097151 := rfl
  rw [restartEngine_eq, announce_eng]
  by_cases exhausted : s.eng.warmupLeft = 0 ∧ s.cfg.holdoverLimit < 2097151
  · obtain ⟨found, raised⟩ := exhaustionTest_found (s := s.engineRestarted)
      (by rw [eng, cfg, restarted_tracks_iff, limit]; exact exhausted)
    have cls : (exhaustionTest s.engineRestarted).cls = classOf s.eng.restartState := by rw [State.cls, found, eng]; rfl
    rw [found, eng, cfg]
    refine ⟨?_, fun f => ?_⟩
    · simp [exhausted, Engine.restarted]
    · rw [announce_raised, raised, scu, clear, cls]
      simp [exhausted, or_comm]
  · have none_ : exhaustionTest s.engineRestarted = s.engineRestarted := exhaustionTest_of_not
      (by rw [eng, cfg, restarted_tracks_iff, limit]; exact exhausted)
    have cls : s.engineRestarted.cls = classOf s.eng.restartState := by rw [State.cls, eng]; rfl
    rw [none_, eng]
    refine ⟨?_, fun f => ?_⟩
    · simp [exhausted, Engine.restarted]
    · rw [announce_raised, scu, clear, cls]
      simp [exhausted]

/-- The queue that the engine's RESTART leaves (R60, R66). -/
theorem restartEngine_bus {s : State} (idle : s.bus.Idle) : ∃ p q a,
    (restartEngine s).bus = { s.bus with status0 := p, status1 := q, alert := a } ∧
    (s.eng.state = s.eng.restartState → p = s.bus.status0 ∧ q = s.bus.status1) ∧
    ((restartEngine s).scu.raised = 0 → a = s.bus.alert) := by
  obtain ⟨eng, bus, -⟩ := engineRestarted_keeps s
  obtain ⟨a, tested, quiet⟩ := exhaustionTest_bus_of_idle (s := s.engineRestarted) (by rw [bus]; exact idle)
  obtain ⟨p, q, b, announced, stays, silent⟩ := announce_bus_of_idle (s := exhaustionTest s.engineRestarted) s.eng.state
    (by rw [tested, bus]; exact idle)
  obtain ⟨o, he, -⟩ := exhaustionTest_eng s.engineRestarted
  rw [restartEngine_eq]
  refine ⟨p, q, b, by rw [announced, tested, bus], fun same => ?_, fun zero => ?_⟩
  · have kept := stays (by rw [he, eng]; exact same)
    rwa [tested, bus] at kept
  · obtain ⟨hb, zero'⟩ := silent zero
    rw [hb, tested, ← bus]
    exact quiet zero'

@[simp] theorem exhaustionTest_schedule (s : State) :
    (exhaustionTest s).tsg.nextBoundary = s.tsg.nextBoundary ∧ (exhaustionTest s).tsg.fSet = s.tsg.fSet ∧
    (exhaustionTest s).tsg.slot = s.tsg.slot ∧ (exhaustionTest s).tsg.committed = s.tsg.committed ∧
    (exhaustionTest s).tsg.stepCount = s.tsg.stepCount ∧ (exhaustionTest s).tsg.slewing = s.tsg.slewing := by
  unfold exhaustionTest
  dsimp only
  (repeat' split) <;> simp

/-- The outputs that the engine's RESTART leaves (R8, R17). -/
theorem restartEngine_tsg (s : State) :
    (restartEngine s).tsg.slot = s.tsg.slot ∧ (restartEngine s).tsg.committed = s.tsg.committed ∧
    (restartEngine s).tsg.nextBoundary = s.tsg.nextBoundary ∧ (restartEngine s).tsg.stepCount = s.tsg.stepCount ∧
    (restartEngine s).tsg.slewing = s.tsg.slewing ∧
    (restartEngine s).tsg.fSet = (if 0 < s.eng.warmupLeft then s.tsg.fSet else freeRunF s) ∧
    (restartEngine s).tsg.outputsRunning = (s.tsg.outputsRunning && !(restartEngine s).muteCause) ∧
    (restartEngine s).tsg.ppsOut = (s.tsg.ppsOut && !(restartEngine s).muteCause) := by
  obtain ⟨-, -, -, -, -, tsg⟩ := engineRestarted_keeps s
  obtain ⟨running, pps⟩ := announce_exhaustionTest_outputs s.eng.state s.engineRestarted
  rw [restartEngine_eq]
  refine ⟨?_, ?_, ?_, ?_, ?_, ?_, by rw [running, tsg], by rw [pps, tsg]⟩ <;> simp [announce_tsg, tsg]

/-- The slot at RESTART (R14, R15). -/
theorem restarting_tsg (s : State) : ∃ x : Timescale, s.restarting =
      (((((s.withScu { s.scu with raised := 0, cause := .none }).withBus s.bus.restarted).withTsg x).withMon
        Monitor.reset).withPtu PeerUnit.reset) ∧ x.slot = none ∧ x.committedAmount = s.tsg.committedAmount ∧
    x.nextBoundary = s.tsg.nextBoundary ∧ x.fSet = s.tsg.fSet ∧
    (s.tsg.committed ≠ none ∨ s.tsg.slewStarted = false →
      x.stepCount = s.tsg.stepCount ∧ x.slewing = s.tsg.slewing) ∧
    (s.tsg.committed = none → s.tsg.slewStarted = true →
      x.stepCount = s.tsg.stepCount + 1 ∧ x.slewing = false) ∧
    x.outputsRunning = s.tsg.outputsRunning ∧ x.ppsOut = s.tsg.ppsOut := by
  have outputs := abortSlot_outputs ((s.withScu { s.scu with raised := 0, cause := .none }).withBus s.bus.restarted)
  obtain ⟨x, aborted, slot, amount, next, phi, trim, f, keeps, ends⟩ := abortSlot_eq
    ((s.withScu { s.scu with raised := 0, cause := .none }).withBus s.bus.restarted)
  rw [aborted] at outputs
  exact ⟨x, by rw [State.restarting, aborted], slot, amount, next, f, keeps, ends, outputs.1, outputs.2.1⟩

@[simp] theorem restarting_keeps (s : State) :
    s.restarting.eng = s.eng ∧ s.restarting.cfg = s.cfg ∧ s.restarting.bus = s.bus.restarted ∧
    s.restarting.scu = { s.scu with raised := 0, cause := .none } ∧ s.restarting.lrn = s.lrn := by
  simp [State.restarting]

/-- The engine's record and the flags after RESTART (R122, R137, R164). -/
theorem restart_eng (s : State) :
    (restart s).eng = { s.eng.restarted with
      exhaustionOrder := decide ((s.eng.warmupLeft = 0 ∧ s.cfg.holdoverLimit < 2097151) ∧
        s.cfg.muteOnExhaustion = true) } ∧
    ∀ f, hasFlag (restart s).scu.raised f = decide
      (f = .sourceChange ∧ classOf s.eng.state ≠ classOf s.eng.restartState ∨
        f = .holdExhausted ∧ s.eng.warmupLeft = 0 ∧ s.cfg.holdoverLimit < 2097151) := by
  have values := restartEngine_values (s := s.restarting) (by simp)
  rw [(restarting_keeps s).1, (restarting_keeps s).2.1] at values
  exact values

/-- The Bus Interface after RESTART (R66). -/
theorem restart_bus (s : State) : ∃ p q a,
    (restart s).bus = { s.bus.restarted with status0 := p, status1 := q, alert := a } ∧
    (s.eng.state = s.eng.restartState → p = none ∧ q = none) ∧ ((restart s).scu.raised = 0 → a = none) := by
  have queue := restartEngine_bus (s := s.restarting) (by rw [(restarting_keeps s).2.2.1]; exact s.bus.restarted_idle)
  rw [(restarting_keeps s).1, (restarting_keeps s).2.2.1] at queue
  exact queue

/-- The other blocks after RESTART (R32, R88, R153). -/
theorem restart_blocks (s : State) :
    (restart s).mon = Monitor.reset ∧ (restart s).ptu = PeerUnit.reset ∧ (restart s).lrn = s.lrn.restarted ∧
    (restart s).scu.enabled = s.scu.enabled ∧ (restart s).scu.cause = .none := by
  have announced (r : State) : (restartEngine r).mon = r.mon ∧ (restartEngine r).ptu = r.ptu ∧
      (restartEngine r).lrn = r.lrn ∧ (restartEngine r).scu.enabled = r.scu.enabled ∧
      (restartEngine r).scu.cause = r.scu.cause := by
    obtain ⟨-, -, scu, -, lrn, -⟩ := engineRestarted_keeps r
    have entered : r.engineRestarted.mon = r.mon ∧ r.engineRestarted.ptu = r.ptu := by
      unfold State.engineRestarted
      (repeat' split) <;> simp
    simp [restartEngine_eq, entered, lrn, scu]
  obtain ⟨mon, ptu, lrn, enabled, cause⟩ := announced s.restarting
  rw [restart_eq]
  refine ⟨mon, ptu, ?_, ?_, ?_⟩
  · rw [State.withLrn_lrn, lrn, (restarting_keeps s).2.2.2.2]
  · rw [State.withLrn_scu, enabled]
    simp
  · rw [State.withLrn_scu, cause]
    simp

/-- The clock, the slot and the outputs after RESTART (R8, R17). -/
theorem restart_tsg (s : State) :
    (restart s).tsg.slot = none ∧ (restart s).tsg.committedAmount = s.tsg.committedAmount ∧
    (restart s).tsg.nextBoundary = s.tsg.nextBoundary ∧
    (restart s).tsg.fSet = (if 0 < s.eng.warmupLeft then s.tsg.fSet else freeRunF s) ∧
    (s.tsg.committed ≠ none ∨ s.tsg.slewStarted = false →
      (restart s).tsg.stepCount = s.tsg.stepCount ∧ (restart s).tsg.slewing = s.tsg.slewing) ∧
    (s.tsg.committed = none → s.tsg.slewStarted = true →
      (restart s).tsg.stepCount = s.tsg.stepCount + 1 ∧ (restart s).tsg.slewing = false) ∧
    (restart s).tsg.outputsRunning = (s.tsg.outputsRunning && !(restart s).muteCause) ∧
    (restart s).tsg.ppsOut = (s.tsg.ppsOut && !(restart s).muteCause) := by
  obtain ⟨x, base, slot, amount, next, f, keeps, ends, running, pps⟩ := restarting_tsg s
  obtain ⟨slot', committed, next', steps, slewing, fSet, running', pps'⟩ := restartEngine_tsg s.restarting
  have clock : s.restarting.tsg = x := by rw [base]; rfl
  have free : freeRunF s.restarting = freeRunF s := by simp [freeRunF]
  have amount' : (restart s).tsg.committedAmount = x.committedAmount := by
    rw [Timescale.committedAmount_eq, Timescale.committedAmount_eq, ← clock, ← committed]
    rfl
  rw [clock] at slot' next' steps slewing fSet running' pps'
  rw [free, (restarting_keeps s).1, f] at fSet
  rw [running] at running'
  rw [pps] at pps'
  refine ⟨slot'.trans slot, amount'.trans amount, next'.trans next, fSet, fun h => ?_, fun h h' => ?_, running', pps'⟩
  · exact ⟨steps.trans (keeps h).1, slewing.trans (keeps h).2⟩
  · exact ⟨steps.trans (ends h h').1, slewing.trans (ends h h').2⟩

end Sys2Proof.Machine

open Sys2Proof Sys2Proof.Machine

/-- Settles O42: a RESTART is taken at the end of its reception, whether or not an attempt is open. -/
theorem restartValues : Obligations.RestartValues := by
  intro s st t c ready joined seen named state exhausted
  have run := exec_restart t ready joined seen named
  obtain ⟨record, raised⟩ := restart_eng ((s.at t).withBus s.bus.commanded)
  obtain ⟨p, q, a, queue, stays, quiet⟩ := restart_bus ((s.at t).withBus s.bus.commanded)
  obtain ⟨slot, amount, next, fSet, keeps, ends, running, pps⟩ := restart_tsg ((s.at t).withBus s.bus.commanded)
  obtain ⟨receives, error⟩ := s.bus.commanded_errors
  obtain ⟨mon, ptu, lrn, enabled, cause⟩ := restart_blocks ((s.at t).withBus s.bus.commanded)
  refine ⟨_, run, mon, ptu, lrn, record, raised, enabled, cause, slot, amount, by simp, by simp, by simp, by simp, by simp,
    next, by simp, by simp, fSet, keeps, ends, running, pps, ?_⟩
  rw [queue]
  refine ⟨rfl, rfl, rfl, rfl, rfl, rfl, rfl, rfl, stays, quiet, rfl, rfl, rfl, joined, rfl, rfl, receives, error,
    by simp, by simp, by simp, fun idle => ?_, fun open_ attempt => ?_⟩
  · simp [Bus.restarted, Bus.emptied, Bus.commanded, idle]
  · simp [Bus.restarted, Bus.emptied, Bus.commanded, attempt]

end

section
/-! PROOF. The save's pages and the page writes (R150, R151, R175).
-/

namespace Sys2Proof.Machine

theorem savePageAddr_toNat (n : Nat) : (savePageAddr n).toNat = if n = 0 ∨ 37 ≤ n then 256 else 256 + 16 * n := by
  unfold savePageAddr
  rw [BitVec.toNat_ofNat]
  (repeat' split) <;> omega

theorem binBytes_toNat (b : Bin) : (binBytes b).map BitVec.toNat =
    bytesOf 2 b.count ++ bytesOf 4 b.mean ++ bytesOf 2 (min 65535 b.deviation : Nat) := by
  simp only [binBytes, List.map_append, be16_ofNat, be32_ofInt]

theorem agingBytes_toNat (z : Int) (age : Nat) : (agingBytes (some (z, age))).map BitVec.toNat =
    bytesOf 4 (max (-2147483647) (min 2147483647 z)) ++ bytesOf 4 age := by
  simp only [agingBytes, List.map_append, ofNat_eq_ofInt, be32_ofInt, clampAbs_eq (by decide : (0 : Int) ≤ 2147483647)]

theorem checkSum_eq (bs : List Byte) : checkSum bs = BitVec.ofNat 16 (bs.map BitVec.toNat).sum :=
  BitVec.eq_of_toNat_eq (by rw [checkSum_toNat, BitVec.toNat_ofNat])

/-- What the memory holds after a page write that ends (R150, R151). -/
def PageWrite.landed (w : PageWrite) (m : Memory) : Memory :=
  if w.lands then m.writeAll w.addr.toNat w.bytes else m

/-- The state once a page write has ended. -/
def State.pageEnded (s : State) (w : PageWrite) : State :=
  (s.withLrn { s.lrn with pageWrite := none }).withEeprom (w.landed s.eeprom)

theorem pageEnded_eq (s : State) (w : PageWrite) :
    (if w.lands then landPage w (s.withLrn { s.lrn with pageWrite := none })
      else s.withLrn { s.lrn with pageWrite := none }) = s.pageEnded w := by
  unfold State.pageEnded PageWrite.landed landPage
  split
  · rw [Memory.take_transfer]
    rfl
  · rfl

theorem cutPage_eq (taken : Bool) (w : PageWrite) (s : State) : cutPage taken w s =
    s.withEeprom (if taken && !w.validates then s.eeprom.writeAll w.addr.toNat w.bytes else s.eeprom) := by
  unfold cutPage landPage
  split
  · rw [Memory.take_transfer]
  · rfl

section
variable {s : State} {w : PageWrite} (h : s.lrn.pageWrite = some w)
include h

theorem pageWriteDone_of_none (none_ : s.lrn.save = none) : pageWriteDone s = s.pageEnded w := by
  rw [← pageEnded_eq]
  simp only [pageWriteDone, h, none_]

theorem pageWriteDone_of_last {p : SaveProgress} (save : s.lrn.save = some p) (own : w.ofSave = true)
    (last : 37 ≤ p.page) : pageWriteDone s = (s.pageEnded w).withLrn { s.lrn with pageWrite := none, save := none } := by
  have done : pageWriteDone s = (if w.lands then landPage w (s.withLrn { s.lrn with pageWrite := none })
      else s.withLrn { s.lrn with pageWrite := none }).withLrn { s.lrn with pageWrite := none, save := none } := by
    simp [pageWriteDone, h, save, own, last, PageWrite.lands]
  rw [done, pageEnded_eq]

theorem pageWriteDone_of_next {p : SaveProgress} (save : s.lrn.save = some p) (own : w.ofSave = true)
    (more : p.page < 37) : pageWriteDone s = beginPage { p with page := p.page + 1 } (s.pageEnded w) := by
  rw [← pageEnded_eq]
  simp [pageWriteDone, h, save, own, Nat.not_le.mpr more]

theorem pageWriteDone_of_left {p : SaveProgress} (save : s.lrn.save = some p) (left : w.ofSave = false) :
    pageWriteDone s = beginPage p (s.pageEnded w) := by
  rw [← pageEnded_eq]
  simp [pageWriteDone, h, save, left]

/-- Of every page write that ends, its bytes and no other come into the memory (R150). -/
theorem pageWriteDone_memory : (pageWriteDone s).eeprom = w.landed s.eeprom ∧
    (pageWriteDone s).lrn.table = s.lrn.table := by
  cases save : s.lrn.save with
  | none =>
    rw [pageWriteDone_of_none h save]
    exact ⟨rfl, rfl⟩
  | some p =>
    cases own : w.ofSave with
    | false =>
      rw [pageWriteDone_of_left h save own]
      exact ⟨rfl, rfl⟩
    | true =>
      by_cases last : 37 ≤ p.page
      · rw [pageWriteDone_of_last h save own last]
        exact ⟨rfl, rfl⟩
      · rw [pageWriteDone_of_next h save own (Nat.not_le.mp last)]
        exact ⟨rfl, rfl⟩

/-- The failure of a page write of a save (R151). -/
theorem pageWriteFailed_of_save (taken : Bool) (own : w.ofSave = true) : pageWriteFailed taken s =
    raise .storeFault ((s.withLrn { s.lrn with pageWrite := none, save := none }).withEeprom
      (if taken && !w.validates then s.eeprom.writeAll w.addr.toNat w.bytes else s.eeprom)) := by
  simp only [pageWriteFailed, h, own, if_true, cutPage_eq]
  exact congrArg (raise .storeFault) rfl

/-- The failure of a page write that a RESTART left, with no save waiting (log entry 16). -/
theorem pageWriteFailed_of_left (taken : Bool) (left : w.ofSave = false) (none_ : s.lrn.save = none) :
    pageWriteFailed taken s = (s.withLrn { s.lrn with pageWrite := none }).withEeprom
      (if taken && !w.validates then s.eeprom.writeAll w.addr.toNat w.bytes else s.eeprom) := by
  simp only [pageWriteFailed, h, left, none_, cutPage_eq]
  exact if_neg Bool.false_ne_true

end

/-- The check value stands on the last page alone (R150). -/
theorem savePageBytes_check (s : State) (p : SaveProgress) (c : BitVec 16) (h : p.page ≤ 36) :
    savePageBytes s { p with check := c } = savePageBytes s p := by
  unfold savePageBytes
  dsimp only
  rw [if_pos h, if_pos h]

/-- What the beginning of a page notes (R150). -/
theorem beginPage_lrn (p : SaveProgress) (s : State) : ∃ q v,
    (beginPage p s).lrn.save = some q ∧ q.page = p.page ∧ (beginPage p s).lrn.pageWrite = some v ∧
    v.addr = savePageAddr p.page ∧ v.ofSave = true ∧ v.bytes = savePageBytes s q ∧
    q.aging = (if p.page = 33 then agedRing s else p.aging) ∧
    q.check = if 1 ≤ p.page ∧ p.page ≤ 36 then p.check + BitVec.ofNat 16 (v.bytes.map BitVec.toNat).sum else p.check := by
  unfold beginPage
  dsimp only
  generalize hr : (if p.page = 33 then { p with aging := agedRing s } else p : SaveProgress) = r
  have page : r.page = p.page := by rw [← hr]; (repeat' split) <;> rfl
  have check : r.check = p.check := by rw [← hr]; (repeat' split) <;> rfl
  have aging : r.aging = if p.page = 33 then agedRing s else p.aging := by rw [← hr]; (repeat' split) <;> rfl
  refine ⟨_, _, rfl, page, rfl, by rw [page], rfl, ?_, aging, by rw [← checkSum_eq, page, check]⟩
  by_cases covered : 1 ≤ r.page ∧ r.page ≤ 36
  · exact (savePageBytes_check _ _ _ covered.2).symm
  · rw [if_neg covered]

theorem readAll_append (m : Memory) : ∀ (n k a : Nat), m.readAll a (n + k) = m.readAll a n ++ m.readAll (a + n) k
  | 0, k, a => by rw [Nat.zero_add]; rfl
  | n + 1, k, a => by
    rw [Nat.add_right_comm, Memory.readAll, Memory.readAll, readAll_append m n k (a + 1), Nat.add_right_comm a 1 n]
    rfl

end Sys2Proof.Machine

open Sys2Proof Sys2Proof.Machine

/-- Settles O41: the pages' bytes, then the four ways a page write ends, then the transfers. -/
theorem pageWritesLandOrFail : Obligations.PageWritesLandOrFail := by
  refine ⟨savePageAddr_toNat, fun s p => ?_, fun s w ready writing wf => ?_, fun s w taken ready writing own => ?_,
    fun s w taken ready writing left none_ => ?_, fun w => ?_, fun m => ?_⟩
  · intro n bytes bin sample
    have bins (i : Nat) (hi : i < 64) : (binBytes (s.lrn.bin i)).map BitVec.toNat = bin i := by
      simp only [bin, Learning.bin, Vector.getElem?_eq_getElem hi, Option.getD_some, binBytes_toNat]
    have samples (i : Nat) : (agingBytes p.aging[i]?).map BitVec.toNat = sample i := by
      simp only [sample]
      cases p.aging[i]? with
      | none => rfl
      | some x => exact agingBytes_toNat x.1 x.2
    refine ⟨fun h => ?_, fun low high => ?_, fun low high => ?_, fun low => ?_⟩ <;>
      simp only [bytes, savePageBytes, n] at *
    · rw [if_pos h]
      rfl
    · rw [if_neg (Nat.ne_of_gt low), if_pos high, List.map_append, bins _ (by omega), bins _ (by omega),
        show 2 * (p.page - 1) + 1 = 2 * p.page - 1 by omega, show 2 * (p.page - 1) = 2 * p.page - 2 by omega]
    · rw [if_neg (by omega), if_neg (by omega), if_pos high, List.map_append, samples, samples,
        show 2 * (p.page - 33) + 1 = 2 * p.page - 65 by omega, show 2 * (p.page - 33) = 2 * p.page - 66 by omega]
    · rw [if_neg (by omega), if_neg (by omega), if_neg (by omega)]
      rw [List.map_append, List.map_append, List.map_append, List.map_append, be16_ofInt, be16_toNat]
      simp
  · have run : exec .eepromPageWriteDone s = .next (pageWriteDone s) := by
      show event pageWriteDone s = _
      rw [event_of_ready _ ready]
    obtain ⟨memory, table⟩ := pageWriteDone_memory writing
    refine ⟨_, run, fun lands k b hk => ?_, fun left marker => ?_, fun a outside => ?_, fun none_ => ?_,
      fun p save own last => ?_, fun p save own more => ?_, table, by simp, by simp, by simp, by simp, by simp, by simp⟩
    · have landed : w.lands = true := by simpa [PageWrite.lands] using lands
      rw [memory, PageWrite.landed, if_pos landed]
      exact Memory.read_writeAll_inside _ _ _ _ wf hk
    · rw [memory, PageWrite.landed, if_neg (by simp [PageWrite.lands, left, marker])]
    · rw [memory, PageWrite.landed]
      split
      · exact Memory.read_writeAll_outside _ _ _ wf outside
      · rfl
    · rw [pageWriteDone_of_none writing none_]
      rfl
    · rw [pageWriteDone_of_last writing save own last]
      rfl
    · obtain ⟨q, v, hq, page, hv, addr, ofSave, bytes, aging, check⟩ :=
        beginPage_lrn { p with page := p.page + 1 } (s.pageEnded w)
      rw [pageWriteDone_of_next writing save own more]
      refine ⟨q, v, hq, page, hv, addr, ofSave, bytes, ?_, ?_⟩
      · rw [aging, page]
        rfl
      · rw [check, page]
        simp
  · have run : exec (.eepromFailure taken) s = .next (pageWriteFailed taken s) := by
      show event (pageWriteFailed taken) s = _
      rw [event_of_ready _ ready]
    refine ⟨_, run, ?_⟩
    rw [pageWriteFailed_of_save writing taken own]
    simp
  · show event (pageWriteFailed taken) s = _
    rw [event_of_ready _ ready, pageWriteFailed_of_left writing taken left none_]
  · refine ⟨rfl, ?_⟩
    simp [PageWrite.validates]
  · refine ⟨?_, ?_, ?_⟩
    · simp [LoadStage.transfers]
    · have whole : m.readAll 256 (16 + (512 + 64)) = m.readAll 256 592 := rfl
      rw [← whole, readAll_append, readAll_append]
      simp [LoadStage.transfers]
    · simp [LoadStage.transfers, transferAt, memoryDevice]

end

section
/-! PROOF. FOLLOWs and the samples they give (R70 to R80).
-/

namespace Sys2Proof.Machine

/-! ### The entry after a sample -/

/-- The entry as the FOLLOW reports its peer (R75). -/
def PeerEntry.reported (e : PeerEntry) (f : FollowData) (second : Second) : PeerEntry :=
  { e with lastHeard := second, cls := f.cls, u := f.u.toNat, slewing := false }

theorem fourWithin_iff (times : List Second) : fourWithin times = true ↔ times.length = 4 ∧
    ∀ x y, times.head? = some x → times.getLast? = some y → secondsSince y x ≤ 600 := by
  unfold fourWithin
  cases times with
  | nil => simp
  | cons x times =>
    cases last : (x :: times).getLast? with
    | none => simp at last
    | some y => simp

theorem takeEntry_of_none (l : Int) (f : FollowData) (second : Second) (limit k : Nat) :
    takeEntry none l f second limit k = (if f.slewing then none else some (seedEntry none l f second), false) := rfl

theorem takeEntry_of_quarantined {e : PeerEntry} (h : e.state = .quarantined) (l : Int) (f : FollowData) (second : Second)
    (limit k : Nat) : takeEntry (some e) l f second limit k = (some { e with lastHeard := second }, false) :=
  if_pos h

section
variable {e : PeerEntry} {f : FollowData} (h : e.state ≠ .quarantined)
include h

theorem takeEntry_of_slewing (slewing : f.slewing = true) (l : Int) (second : Second) (limit k : Nat) :
    takeEntry (some e) l f second limit k = (some { e with lastHeard := second, slewing := true }, false) :=
  (if_neg h).trans (if_pos slewing)

variable (steady : f.slewing = false)
include steady

theorem takeEntry_of_unfiltered (none_ : e.lf16 = none) (l : Int) (second : Second) (limit k : Nat) :
    takeEntry (some e) l f second limit k = (some { e.reported f second with
      state := .learning, lf16 := some (16 * l), stepSeen := f.stepCount, run := 0, window := [] }, false) := by
  simp [takeEntry, h, steady, none_, seedEntry, PeerEntry.reported]

theorem takeEntry_of_step {v : Int} (filtered : e.lf16 = some v) (changed : f.stepCount ≠ e.stepSeen) (l : Int)
    (second : Second) (limit k : Nat) : takeEntry (some e) l f second limit k =
      (some ((e.reported f second).stepChange l f second).1, ((e.reported f second).stepChange l f second).2) := by
  simp [takeEntry, h, steady, filtered, changed, PeerEntry.reported]

theorem takeEntry_of_sample {v : Int} (filtered : e.lf16 = some v) (same : f.stepCount = e.stepSeen) (l : Int)
    (second : Second) (limit k : Nat) : takeEntry (some e) l f second limit k =
      (some ((e.reported f second).checked v l limit k).1, ((e.reported f second).checked v l limit k).2) := by
  simp [takeEntry, h, steady, filtered, same, PeerEntry.reported]

end

theorem stepChange_of_four {e : PeerEntry} {l : Int} {f : FollowData} {second : Second}
    (h : fourWithin (pushBounded 4 e.stepTimes second) = true) :
    e.stepChange l f second = ({ e.quarantined with stepSeen := f.stepCount }, true) := if_pos h

theorem stepChange_of_few {e : PeerEntry} {l : Int} {f : FollowData} {second : Second}
    (h : ¬fourWithin (pushBounded 4 e.stepTimes second) = true) :
    e.stepChange l f second = ({ e with
      stepSeen := f.stepCount, stepTimes := pushBounded 4 e.stepTimes second, lf16 := some (16 * l), window := []
      run := 0 }, false) := if_neg h

theorem sampleOut_iff (v l : Int) (limit : Nat) :
    sampleOut v l limit = true ↔ limit < (fold 1000000000 (l - roundDiv v 16)).natAbs := decide_eq_true_iff

/-- An entry that a sample is checked against, when the sample is IN (R78, R79). -/
theorem checked_of_in {e : PeerEntry} {v l : Int} {limit : Nat} (k : Nat) (h : e.state ≠ .quarantined)
    (inside : ¬sampleOut v l limit = true) : e.checked v l limit k = ({ e with
      window := pushBounded 8 e.window false, run := min 4 (e.run + 1), lf16 := some (filterStep v l k)
      state := if min 4 (e.run + 1) = 4 then .active else e.state }, false) := by
  have in_ : sampleOut v l limit = false := by simpa using inside
  have state : (if e.state = .learning ∧ min 4 (e.run + 1) = 4 then PeerState.active else e.state) =
      if min 4 (e.run + 1) = 4 then .active else e.state := by
    cases hs : e.state <;> simp_all
  simp only [PeerEntry.checked, in_, state, if_neg Bool.false_ne_true]

theorem checked_of_few {e : PeerEntry} {v l : Int} {limit : Nat} (k : Nat) (outside : sampleOut v l limit = true)
    (few : outCount (pushBounded 8 e.window true) < 3) : e.checked v l limit k =
      ({ e with window := pushBounded 8 e.window true, run := 0 }, false) := by
  simp [PeerEntry.checked, outside, Nat.not_le.mpr few]

theorem checked_of_active {e : PeerEntry} {v l : Int} {limit : Nat} (k : Nat) (outside : sampleOut v l limit = true)
    (three : 3 ≤ outCount (pushBounded 8 e.window true)) (active : e.state = .active) :
    e.checked v l limit k = (e.quarantined, true) := by
  simp [PeerEntry.checked, outside, three, active, PeerEntry.quarantined]

theorem checked_of_learning {e : PeerEntry} {v l : Int} {limit : Nat} (k : Nat) (outside : sampleOut v l limit = true)
    (three : 3 ≤ outCount (pushBounded 8 e.window true)) (learning : e.state = .learning) :
    e.checked v l limit k = ({ e with lf16 := some (16 * l), window := [], run := 0 }, false) := by
  simp [PeerEntry.checked, outside, three, learning, PeerEntry.reseed]

theorem stepChange_quarantines {e : PeerEntry} (h : e.state ≠ .quarantined) (l : Int) (f : FollowData)
    (second : Second) : (e.stepChange l f second).2 = true ↔ (e.stepChange l f second).1.state = .quarantined := by
  by_cases four : fourWithin (pushBounded 4 e.stepTimes second) = true
  · rw [stepChange_of_four four]
    exact iff_of_true rfl rfl
  · rw [stepChange_of_few four]
    exact iff_of_false Bool.false_ne_true h

theorem checked_quarantines {e : PeerEntry} (h : e.state ≠ .quarantined) (v l : Int) (limit k : Nat) :
    (e.checked v l limit k).2 = true ↔ (e.checked v l limit k).1.state = .quarantined := by
  by_cases outside : sampleOut v l limit = true
  · by_cases three : 3 ≤ outCount (pushBounded 8 e.window true)
    · cases state : e.state with
      | active =>
        rw [checked_of_active k outside three state]
        exact iff_of_true rfl rfl
      | learning =>
        rw [checked_of_learning k outside three state]
        exact iff_of_false Bool.false_ne_true h
      | quarantined => exact absurd state h
    · rw [checked_of_few k outside (Nat.not_le.mp three)]
      exact iff_of_false Bool.false_ne_true h
  · rw [checked_of_in k h outside]
    refine iff_of_false Bool.false_ne_true ?_
    dsimp only
    split
    · decide
    · exact h

/-- A sample says that it quarantines exactly where the entry after it is QUARANTINED and the one before was not. -/
theorem takeEntry_quarantines {e : PeerEntry} (h : e.state ≠ .quarantined) (l : Int) (f : FollowData)
    (second : Second) (limit k : Nat) : ∃ x, (takeEntry (some e) l f second limit k).1 = some x ∧
      ((takeEntry (some e) l f second limit k).2 = true ↔ x.state = .quarantined) := by
  cases slewing : f.slewing with
  | true =>
    rw [takeEntry_of_slewing h slewing]
    exact ⟨_, rfl, iff_of_false Bool.false_ne_true h⟩
  | false =>
    cases filtered : e.lf16 with
    | none =>
      rw [takeEntry_of_unfiltered h slewing filtered]
      exact ⟨_, rfl, iff_of_false Bool.false_ne_true nofun⟩
    | some v =>
      by_cases same : f.stepCount = e.stepSeen
      · rw [takeEntry_of_sample h slewing filtered same]
        exact ⟨_, rfl, checked_quarantines (e := e.reported f second) h _ _ _ _⟩
      · rw [takeEntry_of_step h slewing filtered same]
        exact ⟨_, rfl, stepChange_quarantines (e := e.reported f second) h _ _ _⟩

/-! ### A FOLLOW and its mark (R70) -/

theorem markFor_of_held {s : State} {a : Fin 16} {m : PendingMark} (h : s.ptu.marks[a] = some m) :
    s.markFor a = some m := by
  unfold State.markFor
  rw [h]

theorem markFor_of_none {s : State} {a : Fin 16} (h : s.ptu.marks[a] = none) :
    s.markFor a = if s.tsg.now = s.tsg.lastBoundary then s.ptu.lapsed[a] else none := by
  unfold State.markFor
  rw [h]

theorem takeFollow_of_pair {s : State} {a : Fin 16} {m : PendingMark} {f : FollowData} (st : Stamp)
    (h : s.markFor a = some m) (seq : m.seq = f.seq) : takeFollow a f st s =
      takeSample a (leadSample f.txTime.toNat m s.cfg.busDelay) f st.second (s.withPtu (s.ptu.consume a)) := by
  simp only [takeFollow, h, if_pos seq]

theorem takeFollow_of_orphan {s : State} {a : Fin 16} {f : FollowData} (st : Stamp)
    (h : ∀ m, s.markFor a = some m → m.seq ≠ f.seq) :
    takeFollow a f st s = s.withPtu { s.ptu with orphan := countUp s.ptu.orphan } := by
  unfold takeFollow
  cases hm : s.markFor a with
  | none => rfl
  | some m => exact if_neg (h m hm)

/-- What a sample does (R80). -/
theorem takeSample_eq (a : Fin 16) (l : Int) (f : FollowData) (second : Second) (s : State) :
    takeSample a l f second s =
      if (takeEntry s.ptu.peers[a] l f second s.cfg.peerLimit s.cfg.filterConstant).2 = true then
        raise .peerQuarantine (s.withPtu (s.ptu.setPeer a
          (takeEntry s.ptu.peers[a] l f second s.cfg.peerLimit s.cfg.filterConstant).1))
      else s.withPtu (s.ptu.setPeer a
          (takeEntry s.ptu.peers[a] l f second s.cfg.peerLimit s.cfg.filterConstant).1) := rfl

theorem takeSample_ptu (a : Fin 16) (l : Int) (f : FollowData) (second : Second) (s : State) :
    (takeSample a l f second s).ptu = s.ptu.setPeer a
      (takeEntry s.ptu.peers[a] l f second s.cfg.peerLimit s.cfg.filterConstant).1 := by
  rw [takeSample_eq]
  (repeat' split) <;> simp

/-- PEER_QUARANTINE is raised where the sample quarantines, and no other flag (R80). -/
theorem takeSample_scu (a : Fin 16) (l : Int) (f : FollowData) (second : Second) (s : State) :
    ((takeEntry s.ptu.peers[a] l f second s.cfg.peerLimit s.cfg.filterConstant).2 = false →
      (takeSample a l f second s).scu = s.scu) ∧
    ((takeEntry s.ptu.peers[a] l f second s.cfg.peerLimit s.cfg.filterConstant).2 = true →
      ∀ g, hasFlag (takeSample a l f second s).scu.raised g = (hasFlag s.scu.raised g || decide (g = .peerQuarantine))) := by
  rw [takeSample_eq]
  constructor
  · intro h
    rw [if_neg (Bool.eq_false_iff.mp h)]
    rfl
  · intro h g
    rw [if_pos h]
    simp

theorem exec_follow {s : State} {st : Stamp} {a : Fin 16} (t : Instant) (f : FollowData) (hears : s.hears st = true)
    (other : a ≠ s.pwr.address) : exec (.followFrame t a f) s = .next (takeFollow a f st (s.heard t)) := by
  show event (receive t (.follow a f)) s = _
  rw [receive_of_hears t _ hears]
  exact congrArg _ (if_neg (by simpa using other))

/-- The peer table after a pair. -/
theorem paired_ptu (p : PeerUnit) (a : Fin 16) (e : Option PeerEntry) :
    ((p.consume a).setPeer a e).peers[a] = e ∧ ((p.consume a).setPeer a e).marks[a] = none ∧
    ((p.consume a).setPeer a e).lapsed[a] = none ∧
    ∀ b, b ≠ a → ((p.consume a).setPeer a e).lapsed[b] = p.lapsed[b] ∧
      ((p.consume a).setPeer a e).marks[b] = p.marks[b] ∧ ((p.consume a).setPeer a e).peers[b] = p.peers[b] := by
  have distinct (b : Fin 16) (hb : b ≠ a) : a.val ≠ b.val := fun h => hb (Fin.ext h.symm)
  refine ⟨?_, ?_, ?_, fun b hb => ⟨?_, ?_, ?_⟩⟩
  · simp [PeerUnit.setPeer]
  · simp [PeerUnit.setPeer, PeerUnit.consume, PeerUnit.setMark]
  · simp [PeerUnit.setPeer, PeerUnit.consume]
  · simp [PeerUnit.setPeer, PeerUnit.consume, Vector.getElem_set_ne _ _ (distinct b hb)]
  · simp [PeerUnit.setPeer, PeerUnit.consume, PeerUnit.setMark, Vector.getElem_set_ne _ _ (distinct b hb)]
  · simp [PeerUnit.setPeer, PeerUnit.consume, PeerUnit.setMark, Vector.getElem_set_ne _ _ (distinct b hb)]

/-- A FOLLOW that finds its mark (R70). -/
theorem exec_follow_paired {s : State} {st : Stamp} {a : Fin 16} {t : Instant} {f : FollowData} {m : PendingMark} {l : Int}
    (hears : s.hears st = true) (other : a ≠ s.pwr.address) (held : s.ptu.marks[a] = some m) (seq : m.seq = f.seq)
    (lead : fold 1000000000 ((f.txTime.toNat : Int) - ((m.rxNs : Int) - s.cfg.busDelay) + m.correction) = l) :
    ∃ u, exec (.followFrame t a f) s = .next u ∧
      u.ptu = (s.ptu.consume a).setPeer a
        (takeEntry s.ptu.peers[a] l f st.second s.cfg.peerLimit s.cfg.filterConstant).1 ∧
      ((takeEntry s.ptu.peers[a] l f st.second s.cfg.peerLimit s.cfg.filterConstant).2 = false → u.scu = s.scu) ∧
      ((takeEntry s.ptu.peers[a] l f st.second s.cfg.peerLimit s.cfg.filterConstant).2 = true →
        ∀ g, hasFlag u.scu.raised g = (hasFlag s.scu.raised g || decide (g = .peerQuarantine))) ∧
      u.tsg = { s.tsg with now := t } ∧ u.mon = s.mon ∧ u.eng = s.eng ∧ u.lrn = s.lrn ∧ u.eeprom = s.eeprom := by
  refine ⟨_, exec_follow t f hears other, ?_⟩
  have hl : leadSample f.txTime.toNat m (s.heard t).cfg.busDelay = l := by
    rw [← lead, (heard_keeps s t).2.2.2.2.2.2.2.1]
    rfl
  have before : ((s.heard t).withPtu ((s.heard t).ptu.consume a)).ptu = s.ptu.consume a := by simp
  have entry : (s.ptu.consume a).peers[a] = s.ptu.peers[a] := rfl
  have cfg : ((s.heard t).withPtu ((s.heard t).ptu.consume a)).cfg = s.cfg := by simp
  have flags : ((s.heard t).withPtu ((s.heard t).ptu.consume a)).scu = s.scu := by simp
  have ptu := takeSample_ptu a l f st.second ((s.heard t).withPtu ((s.heard t).ptu.consume a))
  have scu := takeSample_scu a l f st.second ((s.heard t).withPtu ((s.heard t).ptu.consume a))
  rw [before, entry, cfg] at ptu scu
  rw [flags] at scu
  rw [takeFollow_of_pair (m := m) st (markFor_of_held (by simpa using held)) seq, hl]
  exact ⟨ptu, scu.1, scu.2, by simp, by simp, by simp, by simp, by simp⟩

end Sys2Proof.Machine

open Sys2Proof Sys2Proof.Machine

/-- Settles O33: the mark, then the entry after the sample case by case. -/
theorem followsPairWithTheirMark : Obligations.FollowsPairWithTheirMark := by
  intro s st t a f hears other
  have run := exec_follow t f hears other
  refine ⟨fun held lapsed => ?_, fun m none_ now lapsed seq => ?_, fun m held seq => ?_⟩
  · rw [run, takeFollow_of_orphan]
    · simp
    · intro m hm
      cases mark : s.ptu.marks[a] with
      | none =>
        rw [markFor_of_none (by simpa using mark)] at hm
        split at hm
        · next now => exact lapsed mark (by simpa using now) m (by simpa using hm)
        · cases hm
      | some n =>
        rw [markFor_of_held (m := n) (by simpa using mark)] at hm
        exact Option.some.inj hm ▸ held n mark
  · have run' := exec_follow (s := s.withPtu { s.ptu with marks := s.ptu.marks.set a (some m) }) t f hears other
    have found : (s.heard t).markFor a = some m := by
      rw [markFor_of_none (by simpa using none_), if_pos (by simpa using now)]
      simpa using lapsed
    have held : ((s.withPtu { s.ptu with marks := s.ptu.marks.set a (some m) }).heard t).markFor a = some m :=
      markFor_of_held (by simp)
    rw [run, run', takeFollow_of_pair st found seq, takeFollow_of_pair st held seq]
    have same : ((s.withPtu { s.ptu with marks := s.ptu.marks.set a (some m) }).heard t).withPtu
        (((s.withPtu { s.ptu with marks := s.ptu.marks.set a (some m) }).heard t).ptu.consume a) =
        (s.heard t).withPtu ((s.heard t).ptu.consume a) := by
      have used : ({ s.ptu with marks := s.ptu.marks.set a (some m) } : PeerUnit).consume a = s.ptu.consume a := by
        simp [PeerUnit.consume, PeerUnit.setMark]
      show (s.heard t).withPtu (({ s.ptu with marks := s.ptu.marks.set a (some m) } : PeerUnit).consume a) = _
      rw [used]
      rfl
    rw [same]
    simp
  · obtain ⟨u, run, ptu, calm, raised, tsg, mon, eng, lrn, eeprom⟩ :=
      exec_follow_paired (t := t) hears other held seq rfl
    obtain ⟨entry, mark, lapsed, others⟩ := paired_ptu s.ptu a (takeEntry s.ptu.peers[a]
      (fold 1000000000 ((f.txTime.toNat : Int) - ((m.rxNs : Int) - s.cfg.busDelay) + m.correction)) f st.second
      s.cfg.peerLimit s.cfg.filterConstant).1
    rw [← ptu] at entry mark lapsed others
    refine ⟨u, run, mark, by rw [ptu]; rfl, lapsed, fun b hb => ⟨(others b hb).1, (others b hb).2.1⟩, by rw [ptu]; rfl,
      fun b hb => (others b hb).2.2, fun none_ slewing => ?_, fun none_ steady => ?_,
      fun e he quarantined => ?_, fun none_ => ?_, fun e he => ?_, fun e he active slewing => ?_, fun e he active steady => ?_,
      tsg, mon, eng, lrn, eeprom⟩
    · rw [entry, none_, takeEntry_of_none, if_pos slewing]
    · rw [entry, none_, takeEntry_of_none, if_neg (by simp [steady])]
      exact ⟨_, rfl, rfl, rfl, rfl, rfl, rfl, rfl, rfl, rfl⟩
    · rw [entry, he, takeEntry_of_quarantined quarantined]
    · exact calm (by rw [none_]; rfl)
    · rw [entry]
      rw [he] at calm raised ⊢
      by_cases quarantined : e.state = .quarantined
      · rw [takeEntry_of_quarantined quarantined] at calm
        exact ⟨fun _ => calm rfl, fun active => absurd quarantined active⟩
      · obtain ⟨x, after, enters⟩ := takeEntry_quarantines quarantined
          (fold 1000000000 ((f.txTime.toNat : Int) - ((m.rxNs : Int) - s.cfg.busDelay) + m.correction)) f st.second
          s.cfg.peerLimit s.cfg.filterConstant
        refine ⟨fun stays => calm (Bool.eq_false_iff.mpr fun q => ?_), fun _ ⟨y, hy, state⟩ => raised ?_⟩
        · exact (stays.resolve_left quarantined) x after (enters.mp q)
        · rw [after] at hy
          exact enters.mpr (Option.some.inj hy ▸ state)
    · rw [entry, he, takeEntry_of_slewing active slewing]
    · rw [entry, he]
      intro l h out
      refine ⟨fun none_ => ?_, fun filtered changed => ?_, fun v filtered same => ?_⟩
      · rw [takeEntry_of_unfiltered active steady none_]
        rfl
      · obtain ⟨v, hv⟩ := Option.ne_none_iff_exists'.mp filtered
        intro times four
        have four_iff : fourWithin times = true ↔ four := fourWithin_iff times
        rw [takeEntry_of_step active steady hv changed]
        refine ⟨fun yes => ?_, fun no => ?_⟩
        · rw [stepChange_of_four (e := e.reported f st.second) (four_iff.mpr yes)]
          rfl
        · rw [stepChange_of_few (e := e.reported f st.second) (mt four_iff.mp no)]
          rfl
      · rw [takeEntry_of_sample active steady filtered same]
        refine ⟨fun inside => ?_, fun outside few => ?_, fun outside three => ⟨fun state => ?_, fun state => ?_⟩⟩
        · rw [checked_of_in (e := e.reported f st.second) _ active
            (by rw [sampleOut_iff]; exact Nat.not_lt.mpr inside)]
          rfl
        · rw [checked_of_few (e := e.reported f st.second) _ ((sampleOut_iff ..).mpr outside) few]
          rfl
        · rw [checked_of_active (e := e.reported f st.second) _ ((sampleOut_iff ..).mpr outside) three state]
          rfl
        · rw [checked_of_learning (e := e.reported f st.second) _ ((sampleOut_iff ..).mpr outside) three state]
          rfl

end

section
/-! PROOF. The own boundary as a run of its seven tasks, each of them once. -/

namespace Sys2Proof.Machine

/-! ### The reach of the boundary -/

/-- The clock at a boundary reached with OSC_IN present (R2). -/
theorem Timescale.reach_clock (x : Timescale) : x.reach.now = x.nextBoundary ∧
    x.reach.boundaryIndex = x.boundaryIndex + 1 ∧ x.reach.phi = x.phiNext ∧ x.reach.lastBoundary = x.nextBoundary ∧
    x.reach.osc = x.osc ∧ x.reach.fSet = x.fSet ∧ x.reach.fInForce = x.fInForce := by
  unfold reach
  dsimp only
  split <;> simp

theorem reachBoundary_index (s : State) : (reachBoundary s).tsg.boundaryIndex = s.tsg.boundaryIndex + 1 := by
  obtain e | e | e := reachBoundary_tsg_cases s <;> rw [e]
  · exact s.tsg.reach_clock.2.1
  · rfl
  · rfl

theorem openBoundary_index (s : State) : (openBoundary s).tsg.boundaryIndex = s.tsg.boundaryIndex + 1 := by
  simp [openBoundary, reachBoundary_index]

/-- A boundary ends the return of OSC_IN, and nothing else of it (R10). -/
theorem openBoundary_osc (s : State) :
    (openBoundary s).tsg.osc = if s.tsg.osc = .lost then .lost else .present := by
  have reached : (openBoundary s).tsg.osc = (reachBoundary s).tsg.osc := by simp [openBoundary]
  rw [reached]
  cases h : s.tsg.osc with
  | present => rw [reachBoundary_of_present h, State.withTsg_tsg, s.tsg.reach_clock.2.2.2.2.1, h]; rfl
  | lost => rw [reachBoundary_of_lost h]; simp [Timescale.reachLost, h]
  | returning => rw [reachBoundary_tsg_of_returning h]; rfl

/-! ### Each task once -/

theorem mem_allTasks (t : BoundaryTask) (order : List BoundaryTask) : t ∈ order ++ allTasks :=
  List.mem_append_right _ (by cases t <;> decide)

/-- What holds of the tasks run so far and of the state, from task to task, holds at the end. -/
theorem runTasks_done (c : Option Committed) {P : List BoundaryTask → State → Prop}
    (act : ∀ done t v, t ∉ done → P done v → P (t :: done) (runTask c t v)) (tasks done : List BoundaryTask) (s : State)
    (start : P done s) : ∃ all, (∀ t, t ∈ done ∨ t ∈ tasks → t ∈ all) ∧ P all (runTasks c done tasks s) := by
  induction tasks generalizing done s with
  | nil => exact ⟨done, fun t h => h.resolve_right List.not_mem_nil, start⟩
  | cons k ks ih =>
    unfold runTasks
    split
    · next hk =>
      obtain ⟨all, mem, h⟩ := ih done s start
      refine ⟨all, fun t ht => mem t ?_, h⟩
      rw [List.mem_cons] at ht
      obtain hd | rfl | hks := ht
      · exact .inl hd
      · exact .inl hk
      · exact .inr hks
    · next hk =>
      obtain ⟨all, mem, h⟩ := ih (k :: done) _ (act done k s hk start)
      refine ⟨all, fun t ht => mem t ?_, h⟩
      simp only [List.mem_cons] at ht ⊢
      grind

/-- Every task is run once: what holds of the tasks run so far and of the state holds of them all at the end. -/
theorem ownBoundary_done {order : List BoundaryTask} {s : State} {P : List BoundaryTask → State → Prop}
    (act : ∀ done t v, t ∉ done → P done v → P (t :: done) (runTask s.tsg.notice t v)) (start : P [] (openBoundary s)) :
    ∃ all, (∀ t, t ∈ all) ∧ P all (ownBoundary order s) := by
  obtain ⟨all, mem, h⟩ := runTasks_done s.tsg.notice act (order ++ allTasks) [] _ start
  exact ⟨all, fun t => mem t (.inr (mem_allTasks t order)), ownBoundary_eq order s ▸ h⟩

/-- What the task `t` makes of `P`, the other tasks keeping `P` before it and its outcome after it. -/
theorem ownBoundary_once {order : List BoundaryTask} {s : State} (t : BoundaryTask) {P Q : State → Prop}
    (before : ∀ k, k ≠ t → ∀ v, P v → P (runTask s.tsg.notice k v)) (act : ∀ v, P v → Q (runTask s.tsg.notice t v))
    (after : ∀ k, k ≠ t → ∀ v, Q v → Q (runTask s.tsg.notice k v)) (start : P (openBoundary s)) :
    Q (ownBoundary order s) := by
  have step : ∀ done k v, k ∉ done → (t ∉ done → P v) ∧ (t ∈ done → Q v) →
      (t ∉ k :: done → P (runTask s.tsg.notice k v)) ∧ (t ∈ k :: done → Q (runTask s.tsg.notice k v)) := by
    rintro done k v hk ⟨p, q⟩
    by_cases same : k = t
    · subst same
      exact ⟨fun h => absurd List.mem_cons_self h, fun _ => act v (p hk)⟩
    · exact ⟨fun h => before k same v (p fun hd => h (List.mem_cons_of_mem _ hd)),
        fun h => after k same v (q ((List.mem_cons.mp h).resolve_left (Ne.symm same)))⟩
  obtain ⟨all, mem, -, q⟩ := ownBoundary_done (order := order) step
    ⟨fun _ => start, fun h => absurd h List.not_mem_nil⟩
  exact q (mem t)

/-- What every task keeps, the boundary keeps. -/
theorem ownBoundary_keeps_of {order : List BoundaryTask} {s : State} {P : State → Prop}
    (kept : ∀ k v, P v → P (runTask s.tsg.notice k v)) (start : P (openBoundary s)) : P (ownBoundary order s) :=
  ownBoundary_once .latch (fun k _ => kept k) (kept .latch) (fun k _ => kept k) start

/-- The task named first is run first. -/
theorem ownBoundary_head {order : List BoundaryTask} {s : State} {t : BoundaryTask} {P : State → Prop}
    (head : order.head? = some t) (start : P (runTask s.tsg.notice t (openBoundary s)))
    (kept : ∀ k, k ≠ t → ∀ v, P v → P (runTask s.tsg.notice k v)) : P (ownBoundary order s) := by
  obtain ⟨rest, rfl⟩ : ∃ rest, order = t :: rest := by
    cases order with
    | nil => cases head
    | cons k ks => exact ⟨ks, by simpa using head⟩
  rw [ownBoundary_eq, List.cons_append, runTasks, if_neg List.not_mem_nil]
  have others : ∀ (tasks done : List BoundaryTask) (v : State), t ∈ done → P v → P (runTasks s.tsg.notice done tasks v) := by
    intro tasks
    induction tasks with
    | nil => exact fun _ _ _ h => h
    | cons k ks ih =>
      intro done v hd h
      unfold runTasks
      split
      · exact ih _ _ hd h
      · next hk => exact ih _ _ (List.mem_cons_of_mem _ hd) (kept k (fun e => hk (e ▸ hd)) v h)
  exact others _ _ _ List.mem_cons_self start

theorem runTask_oscillator_of_lost (c : Option Committed) {s : State} (h : s.tsg.osc = .lost) :
    runTask c .oscillator s = reportLoss (settleSteer s) := if_pos h

theorem runTask_oscillator_of_not_lost (c : Option Committed) {s : State} (h : s.tsg.osc ≠ .lost) :
    runTask c .oscillator s = s := if_neg h

/-! ### What a task is made of -/

/-- The operations that a boundary's tasks are made of keep `P`; those of a block's own task under the premise that it
is one of those in question (`T`). -/
structure TaskKept (T : BoundaryTask → Prop) (P : State → Prop) (o : Prop := True) : Prop extends DueKept P o where
  steer : ∀ s : State, s.steerDue = true → P s → P (takeSteerLimit s) := by simp +contextual
  loss : T .oscillator → ∀ s : State, s.tsg.osc = .lost → P s → P (reportLoss s) := by simp +contextual
  latch : T .latch → ∀ s, P s → P (latch s) := by simp +contextual
  engineBoundary : T .engine → ∀ s, P s → P (engineBoundary s) := by simp +contextual
  learningBoundary : T .learning → ∀ s, P s → P (learningBoundary s) := by simp +contextual
  busBoundary : T .bus → ∀ s, P s → P (busBoundary s) := by simp +contextual

section
variable {T : BoundaryTask → Prop} {P : State → Prop} {o : Prop} (k : TaskKept T P o)
include k

theorem TaskKept.settleSteer (s : State) (h : P s) : P (settleSteer s) :=
  keeps_ite (fun due => k.steer s due h) fun _ => h

theorem TaskKept.runTask (ho : o) (c : Option Committed) {t : BoundaryTask} (ht : T t) (s : State) (h : P s) :
    P (runTask c t s) := by
  cases t with
  | latch => exact k.latch ht s h
  | oscillator =>
    exact keeps_ite (fun lost => k.loss ht _ (by simpa using lost) (k.settleSteer s h)) fun _ => h
  | monitor => exact k.toDueKept.monitorBoundary ho _ _ (k.settleSteer s h)
  | peers => exact k.toDueKept.peersBoundary ho _ _ (k.settleSteer s h)
  | engine => exact k.engineBoundary ht s h
  | learning => exact k.learningBoundary ht s h
  | bus => exact k.busBoundary ht s h

theorem TaskKept.ownBoundary {order : List BoundaryTask} {s : State} (all : ∀ t, T t) (ho : o)
    (start : P (openBoundary s)) : P (ownBoundary order s) :=
  ownBoundary_keeps_of (fun t => k.runTask ho _ (all t)) start

end

/-- What the engine's operations keep, and with them what every task is made of. -/
theorem EngineKept.tasks {T : BoundaryTask → Prop} {P : State → Prop} {o : Prop} (k : EngineKept P o)
    (mon : ∀ (m : Monitor) (s : State), s.mon.Moves m → P s → P (s.withMon m) := by simp +contextual)
    (ptu : ∀ (p : PeerUnit) (s : State), s.ptu.Moves s.pwr.address p → P s → P (s.withPtu p) := by simp +contextual)
    (latch : T .latch → ∀ s, P s → P (latch s) := by simp +contextual)
    (learning : T .learning → ∀ s, P s → P (learningBoundary s) := by simp +contextual)
    (bus : T .bus → ∀ s, P s → P (busBoundary s) := by simp +contextual) : TaskKept T P o where
  raise := k.raise
  enterQual := k.enterQual
  takeObservation := k.takeObservation
  takePoint := k.takePoint
  mon := mon
  ptu := ptu
  steer s _ h := k.enterFault _ (k.raise _ s h)
  loss _ s _ h := k.enterFault _ (k.raise _ s h)
  latch := latch
  engineBoundary _ := k.engineBoundary
  learningBoundary := learning
  busBoundary := bus

theorem Kept.tasks {i : Instr} {T : BoundaryTask → Prop} {P : State → Prop} {o : Prop} (k : Kept i P o)
    (latch : T .latch → ∀ s, P s → P (Machine.latch s) := by simp +contextual) : TaskKept T P o :=
  k.toEngineKept.tasks k.mon k.ptu latch (fun _ => k.learningBoundary) fun _ => k.busBoundary

/-- The boundary index moves on by one. -/
theorem ownBoundary_index (order : List BoundaryTask) (s : State) :
    (ownBoundary order s).tsg.boundaryIndex = s.tsg.boundaryIndex + 1 :=
  TaskKept.ownBoundary (T := fun _ => True) (P := fun v => v.tsg.boundaryIndex = s.tsg.boundaryIndex + 1) (o := True)
    {} (fun _ => trivial) trivial (openBoundary_index s)

end Sys2Proof.Machine
end

section
/-! PROOF. U in HOLDOVER (R133).
-/

namespace Sys2Proof.Machine

/-! ### The bound -/

theorem ceilDiv_spec (n : Nat) : n ≤ 172800000 * ceilDiv n 172800000 ∧
    ∀ q, n ≤ 172800000 * q → ceilDiv n 172800000 ≤ q := by
  unfold ceilDiv
  refine ⟨by omega, fun q h => by omega⟩

theorem holdoverBound_mono (u0 sigma aging : Nat) {t t' : Nat} (h : t ≤ t') :
    holdoverBound u0 sigma aging t ≤ holdoverBound u0 sigma aging t' := by
  unfold holdoverBound
  refine Nat.add_le_add_left ((ceilDiv_spec _).2 _ (Nat.le_trans ?_ (ceilDiv_spec _).1)) _
  exact Nat.add_le_add (Nat.mul_le_mul_right _ (Nat.mul_le_mul_left _ h)) (Nat.mul_le_mul (Nat.mul_le_mul_left _ h) h)

theorem uncertainty_of_holdover {s : State} {r : HoldoverRecord} (state : s.eng.state = .holdover)
    (record : s.eng.record = some r) : s.uncertainty =
      min 2097151 (holdoverBound r.u0 r.sigma s.cfg.sigmaAging (secondsSince s.second r.entrySecond)) := by
  simp only [State.uncertainty, state, record, Config.saturatedU]

/-- U does not fall as the stay goes on (R133). -/
theorem uncertainty_mono {s s' : State} {r : HoldoverRecord} (state : s.eng.state = .holdover)
    (record : s.eng.record = some r) (state' : s'.eng.state = .holdover) (record' : s'.eng.record = some r)
    (aging : s'.cfg.sigmaAging = s.cfg.sigmaAging)
    (time : secondsSince s.second r.entrySecond ≤ secondsSince s'.second r.entrySecond) :
    s.uncertainty ≤ s'.uncertainty := by
  rw [uncertainty_of_holdover state record, uncertainty_of_holdover state' record', aging]
  have bound := holdoverBound_mono r.u0 r.sigma s.cfg.sigmaAging time
  omega

/-- The second after one that leaves room in the modulus. -/
theorem secondsSince_succ {n e : Nat} (h : secondsSince (n % 4294967296) e + 1 < 4294967296) :
    secondsSince ((n + 1) % 4294967296) e = secondsSince (n % 4294967296) e + 1 := by
  unfold secondsSince at *
  simp only [Config.secondModulus] at *
  omega

/-! ### U stands after every entry and every boundary -/

/-- U is that of the state (R131). -/
def State.UncertaintySet (s : State) : Prop := s.eng.u = s.uncertainty

theorem uncertainty_congr {s t : State} (state : t.eng.state = s.eng.state) (lastY : t.eng.lastY = s.eng.lastY)
    (lastC : t.eng.lastC = s.eng.lastC) (followed : t.eng.followedU = s.eng.followedU)
    (record : t.eng.record = s.eng.record) (aging : t.cfg.sigmaAging = s.cfg.sigmaAging) (second : t.second = s.second) :
    t.uncertainty = s.uncertainty := by
  simp only [State.uncertainty, state, lastY, lastC, followed, record, aging, second]

theorem exhaustionTest_uncertaintySet (s : State) : (exhaustionTest (recomputeU s)).UncertaintySet := by
  obtain ⟨o, e, -⟩ := exhaustionTest_eng (recomputeU s)
  have same : (exhaustionTest (recomputeU s)).uncertainty = s.uncertainty := by
    refine uncertainty_congr ?_ ?_ ?_ ?_ ?_ (by simp) (by simp [State.second]) <;> rw [e] <;> rfl
  rw [State.UncertaintySet, same, e]
  rfl

theorem enterState_uncertaintySet (st : EngineState) (src : Option Source) (f : State → State) (s : State) :
    (enterState st src f s).UncertaintySet := by
  rw [enterState_eq]
  have set := exhaustionTest_uncertaintySet (f (s.withEng (s.eng.entering st src)))
  rw [State.UncertaintySet] at *
  rw [announce_eng, set]
  exact (uncertainty_congr (by simp) (by simp) (by simp) (by simp) (by simp) (by simp) (by simp [State.second])).symm

theorem engineBoundary_uncertaintySet (s : State) : (engineBoundary s).UncertaintySet := by
  rw [engineBoundary_eq]
  exact exhaustionTest_uncertaintySet _

/-! ### Inputs leave HOLDOVER alone -/

theorem acquireInput_not_holdover (y : Int) (period : Nat) {s : State} (h : s.eng.state ≠ .holdover) :
    (acquireInput y period s).eng.state ≠ .holdover := by
  obtain large | small := Nat.lt_or_ge s.cfg.stepThreshold y.natAbs
  · rw [acquireInput_of_large period large]
    simpa using h
  · rw [acquireInput_of_small period small]
    split
    · rw [lockAchieved_eng]
      simp only [Engine.locked]
      (repeat' split) <;> simp
    · simpa using h

theorem trackInput_not_holdover (y : Int) (period tau : Nat) {s : State} (h : s.eng.state ≠ .holdover) :
    (trackInput y period tau s).eng.state ≠ .holdover := by
  refine keeps_ite (P := fun s => s.eng.state ≠ .holdover) (fun _ => ?_) fun _ => ?_
  · refine acquireInput_not_holdover _ _ ?_
    rw [enterState_state (f := setIntegralF) (fun _ => rfl) .acquire s.eng.source s]
    decide
  · refine keeps_ite (P := fun s => s.eng.state ≠ .holdover) (fun _ => ?_) fun _ => ?_
    · simpa [pushRing] using h
    · simpa using h

/-- An observation that finds HOLDOVER changes nothing, and none leads there before the selection (R109). -/
theorem observationInput_holdover (y : Int) (s : State) :
    s.observationInput y = s ∨ (s.observationInput y).eng.state ≠ .holdover := by
  unfold State.observationInput
  repeat' split
  · exact .inl rfl
  · next locked => exact .inr (trackInput_not_holdover _ _ _ (fun h => by cases locked.symm.trans h))
  · next acquire => exact .inr (acquireInput_not_holdover _ _ (fun h => by cases acquire.1.symm.trans h))
  · exact .inl rfl

theorem observationInput_frame (y : Int) (s : State) : (s.observationInput y).cfg = s.cfg ∧
    (s.observationInput y).tsg.boundaryIndex = s.tsg.boundaryIndex := by
  unfold State.observationInput
  (repeat' split) <;> simp

theorem consensusInput_holdover (s : State) :
    consensusInput s = s ∨ (consensusInput s).eng.state ≠ .holdover := by
  unfold consensusInput
  split
  · split
    · dsimp only
      repeat' split
      · next acquire => exact .inr (acquireInput_not_holdover _ _ (fun h => by cases acquire.symm.trans h))
      · next follow => exact .inr (trackInput_not_holdover _ _ _ (fun h => by cases follow.symm.trans h))
      · exact .inl rfl
    · exact .inl rfl
  · exact .inl rfl

/-- The nudge leaves the state and the record, and U or sets it (R127). -/
theorem takeNudge_stay (s : State) : (takeNudge s).eng.state = s.eng.state ∧ (takeNudge s).eng.record = s.eng.record ∧
    ((takeNudge s).eng.u = s.eng.u ∨ (takeNudge s).UncertaintySet) := by
  unfold takeNudge
  split
  · dsimp only
    split
    · next c _ => exact ⟨rfl, rfl, .inr rfl⟩
    · exact ⟨rfl, rfl, .inl rfl⟩
  · exact ⟨rfl, rfl, .inl rfl⟩

/-- A selection that ends in HOLDOVER stays there or enters it (R107). -/
theorem applySelection_holdover (s : State) : applySelection s = s ∨ applySelection s = enterHoldover s ∨
    (applySelection s).eng.state ≠ .holdover := by
  unfold applySelection
  split
  · split
    · exact .inl rfl
    · exact .inr (.inr (by simp [enterAcquireReference_course]))
  · split
    · exact .inl rfl
    · split
      · split
        · exact .inr (.inr (by simp [enterFollow_course]))
        · exact .inr (.inr (by rw [enterAcquireTier_state]; decide))
      · exact .inl rfl
  · split
    · exact .inl rfl
    · exact .inr (.inl rfl)
  · split
    · exact .inl rfl
    · exact .inr (.inr (by simp [enterFreerun_course]))

/-! ### U through a command -/

/-- During a command that began at boundary `n` in a stay with record `r` and U not below `U`: until a second boundary
has passed, U of that stay is not below `U`. -/
structure StayHeld (r : HoldoverRecord) (aging n U : Nat) (v : State) : Prop where
  aging : v.cfg.sigmaAging = aging
  index : n ≤ v.tsg.boundaryIndex
  u : v.tsg.boundaryIndex ≤ n + 1 → v.eng.state = .holdover → v.eng.record = some r → U ≤ v.eng.u

section
variable {r : HoldoverRecord} {aging n U : Nat}
  (bound : U ≤ min 2097151 (holdoverBound r.u0 r.sigma aging (secondsSince (n % 4294967296) r.entrySecond)))
  (room : secondsSince (n % 4294967296) r.entrySecond + 1 < 4294967296)

/-- A state whose clock, engine and settings are another's. -/
theorem StayHeld.congr {v w : State} (h : StayHeld r aging n U v) (cfg : w.cfg = v.cfg)
    (index : w.tsg.boundaryIndex = v.tsg.boundaryIndex) (state : w.eng.state = .holdover → v.eng.state = .holdover)
    (record : w.eng.state = .holdover → w.eng.record = v.eng.record)
    (u : w.eng.state = .holdover → w.eng.u = v.eng.u) : StayHeld r aging n U w := by
  refine ⟨by rw [cfg, h.aging], by rw [index]; exact h.index, fun first hs hr => ?_⟩
  rw [u hs]
  exact h.u (index ▸ first) (state hs) (record hs ▸ hr)

include bound room

/-- Where U has just been set it is not below that of the stay (R133). -/
theorem StayHeld.of_set {v : State} (ha : v.cfg.sigmaAging = aging) (hn : n ≤ v.tsg.boundaryIndex)
    (set : v.UncertaintySet) : StayHeld r aging n U v := by
  refine ⟨ha, hn, fun first hs hr => ?_⟩
  rw [set, uncertainty_of_holdover hs hr, ha]
  refine Nat.le_trans bound (Nat.le_min.mpr ⟨Nat.min_le_left _ _, Nat.le_trans (Nat.min_le_right _ _) (holdoverBound_mono _ _ _ ?_)⟩)
  obtain same | next : v.tsg.boundaryIndex = n ∨ v.tsg.boundaryIndex = n + 1 := by omega
  · exact Nat.le_of_eq (by rw [State.second, same])
  · rw [State.second, next, Config.secondModulus, secondsSince_succ room]
    exact Nat.le_succ _

theorem stayHeld_applySelection {s : State} (h : StayHeld r aging n U s) : StayHeld r aging n U (applySelection s) := by
  obtain same | enters | leaves := applySelection_holdover s
  · rwa [same]
  · rw [enters, enterHoldover_eq]
    refine .of_set bound room ?_ ?_ (enterState_uncertaintySet _ _ _ _) <;> rw [← enterHoldover_eq, ← enters]
    · simp [h.aging]
    · simpa using h.index
  · exact h.congr (by simp) (by simp) (fun e => absurd e leaves) (fun e => absurd e leaves) fun e => absurd e leaves

theorem stayHeld_selectSource {s : State} (h : StayHeld r aging n U s) : StayHeld r aging n U (selectSource s) :=
  keeps_ite (fun _ => h) fun _ => stayHeld_applySelection bound room h

theorem stayHeld_pointInput {s : State} (h : StayHeld r aging n U s) : StayHeld r aging n U s.pointInput := by
  have checked : StayHeld r aging n U (disagreementCheck s).1 := by
    obtain e | ⟨locked, e⟩ := disagreementCheck_cases s
    · rwa [e]
    · obtain ⟨m, e⟩ | e := e <;> rw [e]
      · exact h.congr rfl rfl id (fun _ => rfl) fun _ => rfl
      · exact h.congr (by simp) (by simp) (by simp) (by simp) (by simp)
  have taken : StayHeld r aging n U (consensusInput (disagreementCheck s).1) := by
    obtain same | out := consensusInput_holdover (disagreementCheck s).1
    · rwa [same]
    · exact checked.congr (by simp) (by simp) (fun e => absurd e out) (fun e => absurd e out) fun e => absurd e out
  obtain ⟨state, record, same | set⟩ := takeNudge_stay (consensusInput (disagreementCheck s).1)
  · exact taken.congr (by simp [State.pointInput]) (by simp [State.pointInput]) (fun e => state.symm.trans e)
      (fun _ => record) fun _ => same
  · refine .of_set bound room ?_ ?_ set
    · simp [State.pointInput, h.aging]
    · simpa [State.pointInput] using h.index

theorem stayHeld_engineKept : EngineKept (StayHeld r aging n U) where
  declareLoss s lost h := by
    refine h.congr (by simp) (by simp) ?_ ?_ ?_ <;> intro e <;> rw [declareLoss_eq lost] at e <;> simp at e
  abortSlot s h := h.congr (by simp) (by simp) (by simp) (by simp) (by simp)
  raise f s h := h.congr (by simp) (by simp) (by simp) (by simp) (by simp)
  offerStatus s h := h.congr (by simp) (by simp) (by simp) (by simp) (by simp)
  applySelection s _ h := stayHeld_applySelection bound room h
  takeObservation _ y s h := by
    refine stayHeld_selectSource bound room ?_
    obtain same | out := observationInput_holdover y s
    · show StayHeld r aging n U (s.observationInput y)
      rwa [same]
    · obtain ⟨cfg, index⟩ := observationInput_frame y s
      exact h.congr cfg index (fun e => absurd e out) (fun e => absurd e out) fun e => absurd e out
  takePoint _ s h := by
    by_cases hs : s.silent = true
    · rwa [takePoint_of_silent hs]
    · rw [takePoint_of_not_silent (by simpa using hs)]
      exact stayHeld_selectSource bound room (stayHeld_pointInput bound room h)
  enterFault s h := h.congr (by simp) (by simp) (by simp) (by simp) (by simp)
  engineBoundary s h := .of_set bound room (by simp [h.aging]) (by simpa using h.index) (engineBoundary_uncertaintySet s)
  setInhibit b s h := stayHeld_selectSource bound room (h.congr rfl rfl id (fun _ => rfl) fun _ => rfl)
  enterQual q s h := stayHeld_selectSource bound room (h.congr rfl rfl id (fun _ => rfl) fun _ => rfl)

/-- Every command but CONFIGURATION_READ, a reset and the opening of second 0 holds the stay. -/
theorem stayHeld_kept {i : Instr} (hi : ∀ a, i ≠ .configurationRead a) : Kept i (StayHeld r aging n U) where
  toEngineKept := stayHeld_engineKept bound room
  clock t g s h := h.congr rfl rfl id (fun _ => rfl) fun _ => rfl
  returning s _ h := h.congr rfl rfl id (fun _ => rfl) fun _ => rfl
  openBoundary _ s h := by
    have index := openBoundary_index s
    refine ⟨by simp [h.aging], by have := h.index; omega, fun first hs hr => ?_⟩
    simpa using h.u (by omega) (by simpa using hs) (by simpa using hr)
  latch _ s h := h.congr (by simp) (by simp) (by simp) (by simp) (by simp)
  endPulse s h := h.congr (by simp) (by simp) (by simp) (by simp) (by simp)
  acceptAdjust k a d st s _ _ _ h := h.congr (by simp) (by simp) (by simp) (by simp) (by simp)
  status e c s h := h.congr rfl rfl id (fun _ => rfl) fun _ => rfl
  clearFlags _ m s h := h.congr rfl rfl id (fun _ => rfl) fun _ => rfl
  restart _ s h := by
    have out : (restart s).eng.state ≠ .holdover := by
      obtain e | e := restart_state s <;> rw [e] <;> decide
    exact h.congr (by simp) (by simp) (fun e => absurd e out) (fun e => absurd e out) fun e => absurd e out
  mon m s _ h := h.congr rfl rfl id (fun _ => rfl) fun _ => rfl
  ptu p s _ h := h.congr rfl rfl id (fun _ => rfl) fun _ => rfl
  bus b s _ h := h.congr rfl rfl id (fun _ => rfl) fun _ => rfl
  lrn l s _ h := h.congr rfl rfl id (fun _ => rfl) fun _ => rfl
  sample _ l s _ _ _ h := h.congr rfl rfl id (fun _ => rfl) fun _ => rfl
  takeAgingSample s h := h.congr (by simp) (by simp) (by simp) (by simp) (by simp)
  clearLearning _ s h := h.congr (by simp) (by simp) (by simp) (by simp) (by simp)
  putLearning _ l s _ h := h.congr rfl rfl id (fun _ => rfl) fun _ => rfl
  landPage _ w s h := h.congr (by simp) (by simp) (by simp) (by simp) (by simp)
  pwr p s _ h := h.congr rfl rfl id (fun _ => rfl) fun _ => rfl
  reconfigured p c e w s _ _ hc h := by
    have same : c = s.cfg := hc.resolve_right fun ⟨a, ha⟩ => hi a ha
    exact h.congr (by simpa using same) (by simp) (by simp) (by simp) (by simp)

end

/-- No command opens more than one second. -/
theorem exec_index_le {i : Instr} {s u : State} (hr : isReset i = false) (ho : ∀ n b p, i ≠ .openSecond0 n b p)
    (e : exec i s = .next u) : u.tsg.boundaryIndex ≤ s.tsg.boundaryIndex + 1 := by
  by_cases hb : ∃ o, i = .ownBoundary o
  · obtain ⟨o, rfl⟩ := hb
    have e' : event (ownBoundary o) s = .next u := e
    by_cases running : s.running = true
    · rw [exec_settle rfl running] at e
      have e' : event (ownBoundary o) (settle s) = .next u := e
      cases e'
      split
      · rw [ownBoundary_index]
        simp
      · simp
    · rw [event, if_neg running] at e'
      cases e'
      exact Nat.le_succ _
  · have same := (clock_kept (fun o h => hb ⟨o, h⟩) s.tsg).exec hr ho ⟨rfl, rfl, rfl, rfl, rfl⟩ e
    exact same.1 ▸ Nat.le_succ _

/-- The seconds since an instant of this second are none. -/
theorem secondsSince_self (n : Nat) : secondsSince (n % 4294967296) (n % 4294967296) = 0 := by
  unfold secondsSince
  simp only [Config.secondModulus]
  omega

end Sys2Proof.Machine

open Sys2Proof Sys2Proof.Machine

/-- Settles O46: the last part by an invariant of the command that runs (`StayHeld`). -/
theorem holdoverUncertainty : Obligations.HoldoverUncertainty := by
  intro s r state record t
  have exact_ := uncertainty_of_holdover state record
  refine ⟨⟨_, exact_, ceilDiv_spec _⟩, fun entry => ?_, fun saturated => ?_, fun s' state' record' aging time => ?_,
    fun i u set room e state' record' cfg => ?_⟩
  · rw [exact_, ← entry, State.second, Config.secondModulus, secondsSince_self]
    simp [holdoverBound, ceilDiv]
  · rw [exact_, saturated, holdoverBound]
    omega
  · exact uncertainty_mono state record state' record' aging time
  · have start : StayHeld r s.cfg.sigmaAging s.tsg.boundaryIndex s.eng.u s :=
      ⟨rfl, Nat.le_refl _, fun _ _ _ => Nat.le_refl _⟩
    have bound := Nat.le_of_eq (set.trans exact_)
    obtain rfl | ⟨n, b, p, -, -, rfl⟩ | ⟨b, g, q, -, rfl⟩ | ⟨hr, ho⟩ := exec_cases e
    · exact Nat.le_refl _
    · obtain ⟨v, same | loss, -, -, -, -, eng, -⟩ := openSecond0_eq n b p s
      · exact Nat.le_of_eq (by rw [same, eng])
      · rw [loss, reportLoss] at state'
        simp at state'
    · cases state'
    · have held : StayHeld r s.cfg.sigmaAging s.tsg.boundaryIndex s.eng.u u := by
        by_cases hc : ∃ a, i = .configurationRead a
        · obtain ⟨a, rfl⟩ := hc
          have settled := (stayHeld_kept bound room (i := .busJoin) nofun).settle trivial s start
          have e' : event (fun s => if s.pwr.stage = .configuration then loadConfiguration a s else s) s = .next u := e
          cases e'
          by_cases running : s.running = true
          · rw [if_pos running] at cfg ⊢
            dsimp only at cfg ⊢
            by_cases stage : (settle s).pwr.stage = .configuration
            · rw [if_pos stage] at cfg ⊢
              exact settled.congr (by rw [cfg]; simp) (by simp) (by simp) (by simp) (by simp)
            · rw [if_neg stage]
              exact settled
          · rwa [if_neg running]
        · exact (stayHeld_kept bound room fun a ha => hc ⟨a, ha⟩).exec hr ho start e
      exact held.u (exec_index_le hr ho e) state' record'

end

section
/-! PROOF. The boundary while OSC_IN is lost, and the first one after its return (R9, R10).
-/

namespace Sys2Proof.Machine

/-- Φ, the trim and the oscillator state stand through the tasks. -/
theorem clock_tasks (x : Timescale) : TaskKept (fun _ => True) (fun v => v.tsg.boundaryIndex = x.boundaryIndex ∧
    v.tsg.phi = x.phi ∧ v.tsg.trim = x.trim ∧ v.tsg.lastBoundary = x.lastBoundary ∧ v.tsg.osc = x.osc) := {}

theorem ownBoundary_clock (order : List BoundaryTask) (s : State) :
    (ownBoundary order s).tsg.boundaryIndex = (reachBoundary s).tsg.boundaryIndex ∧
    (ownBoundary order s).tsg.phi = (reachBoundary s).tsg.phi ∧
    (ownBoundary order s).tsg.trim = (reachBoundary s).tsg.trim ∧
    (ownBoundary order s).tsg.lastBoundary = (reachBoundary s).tsg.lastBoundary ∧
    (ownBoundary order s).tsg.osc = (reachBoundary s).tsg.osc :=
  (clock_tasks (reachBoundary s).tsg).ownBoundary (fun _ => trivial) trivial (by simp [openBoundary])

/-- No schedule moves a boundary while OSC_IN is lost (R9). -/
theorem lostBoundary_walk (n : Instant) : Walk fun v => v.tsg.osc = .lost ∧ v.tsg.nextBoundary = n where
  requestStep y s _ h := by
    obtain e | ⟨-, ⟨d, -, e⟩ | ⟨d, e⟩⟩ := requestStep_cases y s <;> rw [e]
    · exact h
    · simpa [takeCommitted, Timescale.schedule, h.1] using h
    · exact h
  abortSlot s h := by
    obtain ⟨x, e, -, -, next, -⟩ := abortSlot_eq s
    exact ⟨by simpa using h.1, by rw [e, State.withTsg_tsg, next, h.2]⟩
  loss s h := by simpa [Timescale.schedule, h.1] using h.2

theorem ownBoundary_lost_next (order : List BoundaryTask) {s : State} (h : s.tsg.osc = .lost) :
    (ownBoundary order s).tsg.nextBoundary = s.tsg.nextBoundary + 1000000000 := by
  refine (((lostBoundary_walk (s.tsg.nextBoundary + 1000000000)).engineKept.tasks (T := fun _ => True)
    (latch := fun _ v hv => ?_)).ownBoundary (order := order) (fun _ => trivial) trivial ?_).2
  · simpa [Machine.latch, Timescale.schedule, hv.1] using hv.2
  · have reached : (reachBoundary s).tsg.osc = .lost ∧
        (reachBoundary s).tsg.nextBoundary = s.tsg.nextBoundary + 1000000000 := by
      rw [reachBoundary_of_lost h]
      exact ⟨by simpa [Timescale.reachLost] using h, rfl⟩
    obtain e | ⟨r, -, e⟩ := commitDue_cases (boundaryOutputs (reachBoundary s)) <;>
      simp [openBoundary, e, Timescale.schedule, reached]

/-- The loss is reported again (R9). -/
theorem ownBoundary_lost_report (order : List BoundaryTask) {s : State} (h : s.tsg.osc = .lost) :
    (ownBoundary order s).eng.state = .fault ∧ hasFlag (ownBoundary order s).scu.raised .oscLoss = true := by
  have flag := (raised_kept (i := .busJoin) .oscLoss rfl rfl).tasks (T := fun _ => True)
  have fault := (fault_kept (i := .busJoin) rfl).tasks (T := fun _ => True)
  refine ownBoundary_once .oscillator (P := fun v => v.tsg.osc = .lost)
    (Q := fun v => v.eng.state = .fault ∧ hasFlag v.scu.raised .oscLoss = true)
    (fun k _ => TaskKept.runTask (T := fun _ => True) (o := True) {} trivial _ trivial) (fun v lost => ?_)
    (fun k _ v hv => ⟨fault.runTask trivial _ trivial v hv.1, flag.runTask trivial _ trivial v hv.2⟩) ?_
  · rw [runTask_oscillator_of_lost _ lost, reportLoss]
    exact ⟨enterFault_state _, by simp [enterFault_raised, raise_raised]⟩
  · rw [openBoundary_osc, if_pos h]

end Sys2Proof.Machine

open Sys2Proof Sys2Proof.Machine

/-- Settles O11. -/
theorem boundaryInLossAndReturn : Obligations.BoundaryInLossAndReturn := by
  refine ⟨fun s order ready lost => ?_, fun s order ready returning => ?_⟩
  · refine ⟨ownBoundary order s, event_of_ready _ ready, ?_⟩
    obtain ⟨index, phi, trim, last, osc⟩ := ownBoundary_clock order s
    obtain ⟨fault, flag⟩ := ownBoundary_lost_report order lost
    have reach : (reachBoundary s).tsg = s.tsg.reachLost := by simp [reachBoundary_of_lost lost]
    rw [index, phi, trim, last, osc, reach]
    refine ⟨rfl, ?_, ?_, rfl, ownBoundary_lost_next order lost, ?_, flag, fault, by simp⟩ <;>
      simp [Timescale.reachLost, lost]
  · refine ⟨ownBoundary order s, event_of_ready _ ready, ?_⟩
    obtain ⟨index, phi, trim, last, osc⟩ := ownBoundary_clock order s
    rw [index, phi, trim, last, osc, reachBoundary_tsg_of_returning returning]
    refine ⟨rfl, ?_, ?_, rfl, rfl, by simp⟩ <;> simp [Timescale.reachReturned]

end

section
/-! PROOF. Warm-up and its end (R104 to R107).
-/

namespace Sys2Proof.Machine

/-! ### Warm-up at a boundary -/

/-- The engine's work at a boundary moves its counters, the prediction and U (R104, R119, R125, R131). -/
theorem engineBoundary_eng (s : State) : ∃ p u o, (engineBoundary s).eng = { s.engineCounted.eng with
    lastPrediction := p, u := u, exhaustionOrder := o } := by
  have steered : ∃ p, (if s.eng.state = .holdover then predict s.engineCounted
      else if s.eng.state = .freerun then setF (freeRunF s.engineCounted) s.engineCounted
      else s.engineCounted).eng = { s.engineCounted.eng with lastPrediction := p } := by
    repeat' split
    · obtain ⟨p, hp, -⟩ := predict_eng s.engineCounted
      exact ⟨p, hp⟩
    · exact ⟨_, rfl⟩
    · exact ⟨_, rfl⟩
  obtain ⟨p, e⟩ := steered
  obtain ⟨o, tested, -⟩ := exhaustionTest_eng (recomputeU (if s.eng.state = .holdover then predict s.engineCounted
      else if s.eng.state = .freerun then setF (freeRunF s.engineCounted) s.engineCounted else s.engineCounted))
  rw [engineBoundary_eq, tested, recomputeU_eng, e]
  exact ⟨_, _, _, rfl⟩

theorem engineBoundary_warmupLeft (s : State) : (engineBoundary s).eng.warmupLeft = s.eng.warmupLeft - 1 := by
  obtain ⟨p, u, o, e⟩ := engineBoundary_eng s
  rw [e]
  rfl

/-- The tasks but the engine's leave what is left of warm-up. -/
theorem warmupLeft_tasks (n : Nat) : TaskKept (· ≠ .engine) fun v => v.eng.warmupLeft = n where
  toDueKept := (warmupLeft_walk n).dueKept
  steer s _ h := (warmupLeft_walk n).enterFault _ (by simpa using h)
  loss _ s _ h := (warmupLeft_walk n).enterFault _ (by simpa using h)
  engineBoundary h := absurd rfl h

theorem ownBoundary_warmupLeft (order : List BoundaryTask) (s : State) :
    (ownBoundary order s).eng.warmupLeft = s.eng.warmupLeft - 1 :=
  ownBoundary_once .engine (P := fun v => v.eng.warmupLeft = s.eng.warmupLeft)
    (Q := fun v => v.eng.warmupLeft = s.eng.warmupLeft - 1)
    (fun _ h => (warmupLeft_tasks _).runTask trivial _ h) (fun v h => h ▸ engineBoundary_warmupLeft v)
    (fun _ h => (warmupLeft_tasks _).runTask trivial _ h) (by simp)

theorem selectSource_of_silent {s : State} (h : s.silent = true) : selectSource s = s := if_pos h

/-- An engine that selects nothing takes no observation (R104, R109, R121). -/
theorem takeObservation_of_silent (y : Int) {s : State} (h : s.silent = true) : takeObservation y s = s := by
  have input : s.observationInput y = s := by
    unfold State.observationInput
    obtain state | state : s.eng.state = .warmup ∨ s.eng.state = .fault := by simpa [State.silent] using h
    all_goals simp [state]
  exact (congrArg selectSource input).trans (selectSource_of_silent h)

theorem enterQual_eng_of_silent (q : Qualification) {s : State} (h : s.silent = true) : (enterQual q s).eng = s.eng := by
  unfold enterQual
  rw [selectSource_of_silent (by exact h)]
  rfl

/-- WARMUP lasts through a boundary with OSC_IN present or back (R104). -/
theorem warmup_tasks : TaskKept (fun _ => True) fun v => v.eng.state = .warmup ∧ v.tsg.osc ≠ .lost where
  enterQual q s h := by rwa [enterQual_eng_of_silent q (by simp [State.silent, h.1]), (enterQual_time q s).2.2.2.2.2.2.1]
  takeObservation _ y s h := by rwa [takeObservation_of_silent y (by simp [State.silent, h.1])]
  takePoint _ s h := by
    rwa [takePoint_of_silent (by simp [State.silent, h.1])]
  steer s due h := by simp [State.steerDue, h.1] at due
  loss _ s lost h := absurd lost h.2

/-! ### The states that a selection enters -/

theorem enterState_fSet (st : EngineState) (src : Option Source) (f : State → State) (s : State) :
    (enterState st src f s).tsg.fSet = (f (s.withEng (s.eng.entering st src))).tsg.fSet := by
  rw [enterState_eq, announce_tsg]
  simp [recomputeU]

/-- A selection that the engine has not followed yet (R107). -/
theorem applySelection_of_selected {s : State} : (s.selected = .source .reference → s.onSource .reference = false →
      applySelection s = enterAcquireReference s) ∧
    (∀ k c, s.selected = .source (.tier k) → s.onSource (.tier k) = false → (s.ptu.tier k).consensus = some c →
      applySelection s =
        if c.value.natAbs ≤ s.cfg.stepThreshold then enterFollow k c s else enterAcquireTier k c s) ∧
    (s.selected = .holdover → s.eng.state ≠ .holdover → applySelection s = enterHoldover s) ∧
    (s.selected = .freerun → s.eng.state ≠ .freerun → applySelection s = enterFreerun s) := by
  refine ⟨fun h off => ?_, fun k c h off hc => ?_, fun h off => ?_, fun h off => ?_⟩ <;>
    simp [applySelection, *]

theorem acquireInput_lastC (y : Int) (period : Nat) (s : State) :
    (acquireInput y period s).eng.lastC = s.eng.lastC := by
  obtain h | h := Nat.lt_or_ge s.cfg.stepThreshold y.natAbs
  · rw [acquireInput_of_large period h]
    simp
  · rw [acquireInput_of_small period h]
    split
    · rw [lockAchieved_eng, loopUpdate_eng]
      rfl
    · rw [loopUpdate_eng]
      rfl

theorem enterFollow_lastC (t : Tier) (c : Consensus) (s : State) :
    (enterFollow t c s).eng.lastC = some ⟨c.value, t⟩ := by
  obtain ⟨o, e⟩ := enterState_eng .follow (some (.tier t)) (followEntry t c) s
  rw [enterFollow_eq, e]
  rfl

theorem enterAcquireTier_lastC (t : Tier) (c : Consensus) (s : State) :
    (enterAcquireTier t c s).eng.lastC = some ⟨c.value, t⟩ := by
  obtain ⟨o, e⟩ := enterState_eng .acquire (some (.tier t)) (tierEntry t c) s
  rw [enterAcquireTier_eq, e]
  exact acquireInput_lastC ..

theorem enterHoldover_record (s : State) : (enterHoldover s).eng.record = some s.newRecord := by
  obtain ⟨o, e⟩ := enterState_eng .holdover none (holdoverEntry s.newRecord) s
  obtain ⟨p, e', -⟩ := predict_eng ((s.withEng (s.eng.entering .holdover none)).withEng
    { (s.withEng (s.eng.entering .holdover none)).eng with record := some s.newRecord })
  rw [enterHoldover_eq, e, holdoverEntry, e']
  rfl

theorem enterFreerun_fSet (s : State) : (enterFreerun s).tsg.fSet = freeRunF s := by
  rw [enterFreerun_eq, enterState_fSet]
  rfl

end Sys2Proof.Machine

open Sys2Proof Sys2Proof.Machine

/-- Settles O16. -/
theorem warmupEndsBySelection : Obligations.WarmupEndsBySelection := by
  refine ⟨fun s order ready => ⟨ownBoundary order s, event_of_ready _ ready, ownBoundary_warmupLeft order s,
    fun state osc => ?_⟩, fun s running loaded state zero => ?_⟩
  · have stays := (warmup_tasks.ownBoundary (order := order) (s := s) (fun _ => trivial) trivial
      ⟨by simpa using state, by
        rw [openBoundary_osc, if_neg osc]; decide⟩).1
    refine ⟨stays, ?_⟩
    simp only [State.warmupDue, stays, ownBoundary_warmupLeft, ownBoundary_keeps]
    simp
    omega
  · have due : s.warmupDue = true := by simp [State.warmupDue, loaded, state, zero]
    obtain ⟨reference, tier, holdover, freerun⟩ := applySelection_of_selected (s := s)
    have off : ∀ src, s.onSource src = false := fun src => by
      simp only [State.onSource, state]
      (repeat' split) <;> simp
    refine ⟨applySelection s, dueEvent_of_due _ running due, fun src h => ?_, fun h => ?_, fun k c h hc => ?_,
      fun h => ?_, fun h => ?_, (applySelection_warmupLeft s).trans zero, by simp⟩
    · cases src with
      | reference => rw [reference h (off _), (enterAcquireReference_course s).2.1]
      | tier k =>
        obtain ⟨c, hc⟩ := State.consensus_of_selected h
        rw [tier k c h (off _) hc]
        split
        · exact (enterFollow_course k c s).2.1
        · exact enterAcquireTier_source k c s
    · rw [reference h (off _), (enterAcquireReference_course s).1]
    · rw [tier k c h (off _) hc]
      split
      · exact ⟨(enterFollow_course k c s).1, enterFollow_lastC k c s⟩
      · exact ⟨enterAcquireTier_state k c s, enterAcquireTier_lastC k c s⟩
    · have stay : s.eng.state ≠ .holdover := by rw [state]; decide
      obtain ⟨st, src, -⟩ := enterHoldover_course s
      exact holdover h stay ▸ ⟨st, src, by simp [enterHoldover_record]⟩
    · have stay : s.eng.state ≠ .freerun := by rw [state]; decide
      obtain ⟨st, src, -⟩ := enterFreerun_course s
      exact freerun h stay ▸ ⟨st, src, enterFreerun_fSet s⟩

end

section
/-! PROOF. The peer table at a boundary: expiry, quarantine, the point (R81 to R85, R89).
-/

namespace Sys2Proof.Machine

/-! ### What a task leaves -/

/-- The clock but for F in force stands through every task. -/
@[simp] theorem runTask_time (c : Option Committed) (t : BoundaryTask) (s : State) :
    (runTask c t s).tsg.now = s.tsg.now ∧ (runTask c t s).tsg.boundaryIndex = s.tsg.boundaryIndex ∧
    (runTask c t s).tsg.lastBoundary = s.tsg.lastBoundary ∧ (runTask c t s).tsg.phi = s.tsg.phi ∧
    (runTask c t s).tsg.trim = s.tsg.trim ∧ (runTask c t s).tsg.osc = s.tsg.osc ∧
    (runTask c t s).tsg.freqCycle = s.tsg.freqCycle := by
  cases t <;> simp [runTask]
  split <;> simp

theorem runTask_second (c : Option Committed) (t : BoundaryTask) (s : State) : (runTask c t s).second = s.second := by
  simp [State.second]

/-- The peers' task alone reaches the peer table. -/
theorem runTask_ptu {c : Option Committed} {t : BoundaryTask} (h : t ≠ .peers) (s : State) :
    (runTask c t s).ptu = s.ptu := by
  cases t with
  | peers => exact absurd rfl h
  | oscillator =>
    simp only [runTask]
    split <;> simp
  | _ => simp [runTask]

/-! ### The table before the point -/

/-- A pending mark after the notice of a boundary (R84). -/
def PendingMark.noticed (n : Option Int) (k : Second) (m : PendingMark) : PendingMark :=
  n.elim m fun x => m.shifted x k

/-- An entry after the notice of a boundary (R85). -/
def PeerEntry.noticed (n : Option Int) (e : PeerEntry) : PeerEntry := n.elim e e.shifted

/-- The table after the notice of a boundary; the marks lost at the boundary before are gone (R84, R85). -/
def PeerUnit.noticed (n : Option Int) (k : Second) (p : PeerUnit) : PeerUnit :=
  { p with
    lapsed := Vector.replicate 16 none
    marks := p.marks.map (Option.map (·.noticed n k))
    peers := p.peers.map (Option.map (·.noticed n)) }

/-- The entry after the countdown of a boundary (R81). -/
def PeerEntry.counted (e : PeerEntry) : PeerEntry :=
  if e.state = .quarantined then { e with quarantine := e.quarantine - 1 } else e

/-- The table after the countdown of a boundary (R81). -/
def PeerUnit.counted (p : PeerUnit) : PeerUnit := { p with peers := p.peers.map (Option.map (·.counted)) }

@[simp] theorem PeerEntry.noticed_keeps (n : Option Int) (e : PeerEntry) :
    (e.noticed n).state = e.state ∧ (e.noticed n).lastHeard = e.lastHeard ∧
    (e.noticed n).quarantine = e.quarantine ∧ (e.noticed n).window = e.window := by
  cases n <;> simp [PeerEntry.noticed, PeerEntry.shifted]

@[simp] theorem PeerEntry.counted_keeps (e : PeerEntry) :
    e.counted.state = e.state ∧ e.counted.lastHeard = e.lastHeard ∧ e.counted.window = e.window ∧
    e.counted.lf16 = e.lf16 := by
  unfold counted
  split <;> simp

theorem PeerEntry.counted_quarantine (e : PeerEntry) :
    e.counted.quarantine = if e.state = .quarantined then e.quarantine - 1 else e.quarantine := by
  unfold counted
  split <;> simp

theorem peersBoundary_noticed (n : Option Int) (s : State) :
    peersBoundary n s = afterExpiry (s.withPtu (s.ptu.noticed n s.second)) := by
  cases n with
  | none =>
    have marks : (Option.map fun m : PendingMark => m.noticed none s.second) = id := by
      funext m; cases m <;> rfl
    have peers : (Option.map fun e : PeerEntry => e.noticed none) = id := by
      funext e; cases e <;> rfl
    simp [peersBoundary, PeerUnit.noticed, marks, peers]
  | some x => rfl

theorem countQuarantine_withPtu (p : PeerUnit) (s : State) :
    countQuarantine (s.withPtu p) = afterQuarantine (s.withPtu p.counted) := rfl

theorem mem_addresses (a : Fin 16) : a ∈ addresses := by
  revert a
  decide

theorem peerExpired_iff (s : State) (a : Fin 16) : s.peerExpired a = true ↔
    ∃ e, s.ptu.peers[a] = some e ∧ 50 ≤ secondsSince s.second e.lastHeard := by
  unfold State.peerExpired
  cases s.ptu.peers[a] <;> simp

theorem quarantineOver_iff (s : State) (a : Fin 16) : s.quarantineOver a = true ↔
    ∃ e, s.ptu.peers[a] = some e ∧ e.state = .quarantined ∧ e.quarantine = 0 := by
  unfold State.quarantineOver
  cases s.ptu.peers[a] <;> simp

theorem any_addresses (p : Fin 16 → Bool) : addresses.any p = true ↔ ∃ a, p a = true := by
  simp only [List.any_eq_true, mem_addresses, true_and]

/-- An entry of the table has not been heard for 50 s (R82). -/
def State.PeerLate (s : State) : Prop :=
  ∃ a e, s.ptu.peers[(a : Fin 16)] = some e ∧ 50 ≤ secondsSince s.second e.lastHeard

/-- A quarantine ends with the countdown of this boundary (R81). -/
def State.PeerEnded (s : State) : Prop :=
  ∃ a e, s.ptu.peers[(a : Fin 16)] = some e ∧ e.state = .quarantined ∧ e.quarantine ≤ 1

/-- The second is one of an observation point (R89). -/
def State.PointHere (s : State) : Prop := s.pwr.state ≠ .load ∧ s.second % s.cfg.pointInterval = 0

theorem any_peerExpired_noticed (n : Option Int) (s : State) :
    addresses.any (s.withPtu (s.ptu.noticed n s.second)).peerExpired = true ↔ s.PeerLate := by
  rw [any_addresses]
  refine exists_congr fun a => ?_
  rw [peerExpired_iff]
  cases h : s.ptu.peers[a] <;> simp_all [PeerUnit.noticed, State.second]

theorem any_quarantineOver_counted (n : Option Int) (s : State) :
    addresses.any (s.withPtu (s.ptu.noticed n s.second).counted).quarantineOver = true ↔ s.PeerEnded := by
  rw [any_addresses]
  refine exists_congr fun a => ?_
  rw [quarantineOver_iff]
  cases h : s.ptu.peers[a] with
  | none => simp_all [PeerUnit.noticed, PeerUnit.counted]
  | some e =>
    simp_all [PeerUnit.noticed, PeerUnit.counted, PeerEntry.counted_quarantine]
    omega

section
variable {n : Option Int} {s : State}

/-- The work stops for an entry that expires (R82). -/
theorem peersBoundary_of_late (late : s.PeerLate) :
    peersBoundary n s = s.withPtu { s.ptu.noticed n s.second with stage := .expiry } := by
  rw [peersBoundary_noticed, afterExpiry, if_pos ((any_peerExpired_noticed n s).mpr late)]
  rfl

/-- The work stops for a quarantine that ends (R81). -/
theorem peersBoundary_of_ended (late : ¬s.PeerLate) (ended : s.PeerEnded) :
    peersBoundary n s = s.withPtu { (s.ptu.noticed n s.second).counted with stage := .quarantine } := by
  rw [peersBoundary_noticed, afterExpiry, if_neg ((not_congr (any_peerExpired_noticed n s)).mpr late), countQuarantine_withPtu,
    afterQuarantine, if_pos ((any_quarantineOver_counted n s).mpr ended)]
  rfl

/-- Otherwise the point is formed where the second is one of a point (R83, R89). -/
theorem peersBoundary_of_rest (late : ¬s.PeerLate) (ended : ¬s.PeerEnded) : peersBoundary n s =
    pointDue (s.withPtu (s.ptu.noticed n s.second).counted) := by
  rw [peersBoundary_noticed, afterExpiry, if_neg ((not_congr (any_peerExpired_noticed n s)).mpr late), countQuarantine_withPtu,
    afterQuarantine, if_neg ((not_congr (any_quarantineOver_counted n s)).mpr ended)]

end

theorem pointDue_of_not_here {s : State} (h : ¬s.PointHere) : pointDue s = s.withPtu { s.ptu with stage := .idle } :=
  if_neg h

theorem pointDue_of_here {s : State} (h : s.PointHere) :
    pointDue s = observationPoint (s.withPtu { s.ptu with stage := .idle }) :=
  if_pos h

/-- What a point writes into the table (R89). -/
theorem observationPoint_ptu (s : State) : (observationPoint s).ptu = { s.ptu with
    tier1 := ⟨consensusOf (s.contributors .one), some s.second⟩
    tier2 := ⟨consensusOf (s.contributors .two), some s.second⟩ } := by
  rw [observationPoint_eq]
  split <;> simp [formResults]

theorem pointDue_ptu {s : State} (h : s.PointHere) : (pointDue s).ptu = { s.ptu with
    tier1 := ⟨consensusOf (s.contributors .one), some s.second⟩
    tier2 := ⟨consensusOf (s.contributors .two), some s.second⟩
    stage := .idle } := by
  rw [pointDue_of_here h, observationPoint_ptu]
  rfl

/-- Past the countdown the results and the stage alone change (R83). -/
theorem afterQuarantine_ptu (s : State) :
    ∃ r q st, (afterQuarantine s).ptu = { s.ptu with tier1 := r, tier2 := q, stage := st } := by
  unfold afterQuarantine
  split
  · exact ⟨_, _, _, rfl⟩
  · by_cases h : s.PointHere
    · rw [pointDue_of_here h, observationPoint_ptu]
      exact ⟨_, _, _, rfl⟩
    · rw [pointDue_of_not_here h]
      exact ⟨_, _, _, rfl⟩

/-! ### The table after a boundary -/

/-- What the boundary makes of the table `p`, at second `k` with the notice `n`. -/
structure PeerUnit.Passed (p : PeerUnit) (n : Option Int) (k : Second) (L E H : Prop) (t : State) : Prop where
  late : L → t.ptu = { p.noticed n k with stage := .expiry }
  ended : ¬L → E → t.ptu = { (p.noticed n k).counted with stage := .quarantine }
  rest : ¬L → ¬E → ¬H → t.ptu = { (p.noticed n k).counted with stage := .idle }
  point : ¬L → ¬E → H → ∃ c, t.ptu = { (p.noticed n k).counted with
    tier1 := ⟨consensusOf (t.contributors .one), some k⟩, tier2 := ⟨c, some k⟩, stage := .idle }

theorem State.contributors_one {s t : State} (h : t.ptu.peers = s.ptu.peers) :
    t.contributors .one = s.contributors .one := by
  simp [State.contributors, State.ownContribution, h]

theorem PeerUnit.Passed.congr {p : PeerUnit} {n : Option Int} {k : Second} {L E H : Prop} {t u : State}
    (h : p.Passed n k L E H t) (same : u.ptu = t.ptu) : p.Passed n k L E H u where
  late hl := same.trans (h.late hl)
  ended hl he := same.trans (h.ended hl he)
  rest hl he hp := same.trans (h.rest hl he hp)
  point hl he hp := by
    rw [same, State.contributors_one (congrArg PeerUnit.peers same)]
    exact h.point hl he hp

theorem peersBoundary_passed (n : Option Int) (s : State) :
    s.ptu.Passed n s.second s.PeerLate s.PeerEnded s.PointHere (peersBoundary n s) where
  late hl := by rw [peersBoundary_of_late hl, State.withPtu_ptu]
  ended hl he := by rw [peersBoundary_of_ended hl he, State.withPtu_ptu]
  rest hl he hp := by
    rw [peersBoundary_of_rest hl he, pointDue_of_not_here (s := s.withPtu (s.ptu.noticed n s.second).counted) hp]
    rfl
  point hl he hp := by
    have ptu := pointDue_ptu (s := s.withPtu (s.ptu.noticed n s.second).counted) hp
    have peers : (pointDue (s.withPtu (s.ptu.noticed n s.second).counted)).ptu.peers =
        (s.withPtu (s.ptu.noticed n s.second).counted).ptu.peers := by rw [ptu]
    rw [peersBoundary_of_rest hl he, State.contributors_one peers]
    exact ⟨_, ptu⟩

section
variable {p : PeerUnit} {n : Option Int} {k : Second} {L E H : Prop} {t : State} (h : p.Passed n k L E H t)
include h

theorem PeerUnit.Passed.table : ∃ g : PeerEntry → PeerEntry, (L → g = id) ∧ (¬L → g = PeerEntry.counted) ∧
    t.ptu.peers = ((p.noticed n k).peers.map (Option.map g)) ∧ t.ptu.marks = (p.noticed n k).marks ∧
    t.ptu.lapsed = Vector.replicate 16 none ∧ t.ptu.unpaired = p.unpaired ∧ t.ptu.orphan = p.orphan := by
  by_cases late : L
  · rw [h.late late]
    exact ⟨id, fun _ => rfl, fun nl => absurd late nl, by simp, rfl, rfl, rfl, rfl⟩
  · refine ⟨PeerEntry.counted, fun hl => absurd hl late, fun _ => rfl, ?_⟩
    by_cases ended : E
    · rw [h.ended late ended]
      exact ⟨rfl, rfl, rfl, rfl, rfl⟩
    · by_cases point : H
      · obtain ⟨c, e⟩ := h.point late ended point
        rw [e]
        exact ⟨rfl, rfl, rfl, rfl, rfl⟩
      · rw [h.rest late ended point]
        exact ⟨rfl, rfl, rfl, rfl, rfl⟩

/-- What the boundary makes of an entry (R81, R85). -/
theorem PeerUnit.Passed.entry {a : Fin 16} {e : PeerEntry} (he : p.peers[a] = some e) :
    ∃ f, t.ptu.peers[a] = some f ∧ (L → f = e.noticed n) ∧ (¬L → f = (e.noticed n).counted) := by
  obtain ⟨g, late, counted, peers, -⟩ := h.table
  have he' : p.peers[a.val] = some e := he
  refine ⟨g (e.noticed n), by simp [peers, PeerUnit.noticed, he'], fun hl => ?_, fun hl => ?_⟩
  · rw [late hl, id]
  · rw [counted hl]

theorem PeerUnit.Passed.no_entry {a : Fin 16} (he : p.peers[a] = none) : t.ptu.peers[a] = none := by
  obtain ⟨g, -, -, peers, -⟩ := h.table
  have he' : p.peers[a.val] = none := he
  simp [peers, PeerUnit.noticed, he']

end

/-- The seconds, the power and the settings of a boundary's tasks. -/
structure State.Opened (s v : State) : Prop where
  second : v.second = (s.tsg.boundaryIndex + 1) % 4294967296
  pwr : v.pwr = s.pwr
  cfg : v.cfg = s.cfg

theorem openBoundary_opened (s : State) : s.Opened (openBoundary s) where
  second := by rw [State.second, openBoundary_index, Config.secondModulus]
  pwr := by simp
  cfg := by simp

theorem State.Opened.runTask {s v : State} (h : s.Opened v) (c : Option Committed) (t : BoundaryTask) :
    s.Opened (runTask c t v) where
  second := (runTask_second c t v).trans h.second
  pwr := by simp [h.pwr]
  cfg := by simp [h.cfg]

theorem State.Opened.settleSteer {s v : State} (h : s.Opened v) : s.Opened (settleSteer v) where
  second := by simpa [State.second] using h.second
  pwr := by simp [h.pwr]
  cfg := by simp [h.cfg]

/-- The table after a boundary (R83). -/
theorem ownBoundary_passed (order : List BoundaryTask) (s : State) :
    s.ptu.Passed (s.tsg.notice.map (·.amount)) ((s.tsg.boundaryIndex + 1) % 4294967296)
      (∃ a e, s.ptu.peers[(a : Fin 16)] = some e ∧
        50 ≤ secondsSince ((s.tsg.boundaryIndex + 1) % 4294967296) e.lastHeard)
      s.PeerEnded
      (s.pwr.state ≠ .load ∧ (s.tsg.boundaryIndex + 1) % 4294967296 % s.cfg.pointInterval = 0)
      (ownBoundary order s) := by
  refine ownBoundary_once .peers (P := fun v => s.Opened v ∧ v.ptu = s.ptu)
    (Q := s.ptu.Passed _ _ _ _ _) (fun t ht v hv => ⟨hv.1.runTask _ _, (runTask_ptu ht v).trans hv.2⟩)
    (fun v hv => ?_) (fun t ht v hv => hv.congr (runTask_ptu ht v)) ⟨openBoundary_opened s, by simp⟩
  obtain ⟨opened, ptu⟩ := hv
  have passed := peersBoundary_passed (s.tsg.notice.map (·.amount)) (settleSteer v)
  obtain ⟨second, pwr, cfg⟩ := opened.settleSteer
  have same : (settleSteer v).ptu = s.ptu := by simp [ptu]
  simp only [State.PeerLate, State.PeerEnded, State.PointHere, same, second, pwr, cfg] at passed
  exact passed

/-! ### The two events -/

/-- The work goes on after an expiry with the countdown, or stops for another (R82, R83). -/
theorem afterExpiry_table (s : State) : ∃ g : PeerEntry → PeerEntry,
    (addresses.any s.peerExpired = true → g = id ∧ (afterExpiry s).ptu.stage = .expiry) ∧
    (addresses.any s.peerExpired = false → g = PeerEntry.counted) ∧
    (afterExpiry s).ptu.peers = s.ptu.peers.map (Option.map g) ∧ (afterExpiry s).ptu.marks = s.ptu.marks ∧
    (afterExpiry s).ptu.lapsed = s.ptu.lapsed ∧ (afterExpiry s).ptu.unpaired = s.ptu.unpaired ∧
    (afterExpiry s).ptu.orphan = s.ptu.orphan := by
  unfold afterExpiry
  cases late : addresses.any s.peerExpired with
  | true => exact ⟨id, fun _ => ⟨rfl, rfl⟩, nofun, by simp, rfl, rfl, rfl, rfl⟩
  | false =>
    obtain ⟨r, q, st, e⟩ := afterQuarantine_ptu (s.withPtu s.ptu.counted)
    refine ⟨PeerEntry.counted, nofun, fun _ => rfl, ?_⟩
    show (afterQuarantine (s.withPtu s.ptu.counted)).ptu.peers = _ ∧ _
    rw [if_neg (by decide), show countQuarantine s = afterQuarantine (s.withPtu s.ptu.counted) from rfl, e]
    exact ⟨rfl, rfl, rfl, rfl, rfl⟩

theorem expirePeer_table (a : Fin 16) (s : State) :
    (expirePeer a s).ptu.peers[a] = none ∧ (∀ b, b ≠ a → (expirePeer a s).ptu.peers[b] = s.ptu.peers[b]) ∧
    (expirePeer a s).ptu.marks[a] = none ∧ (∀ b, b ≠ a → (expirePeer a s).ptu.marks[b] = s.ptu.marks[b]) ∧
    (expirePeer a s).ptu.lapsed[a] = s.ptu.marks[a] ∧
    (expirePeer a s).ptu.unpaired = (if s.ptu.marks[a] = none then s.ptu.unpaired else countUp s.ptu.unpaired) ∧
    (expirePeer a s).ptu.orphan = s.ptu.orphan := by
  refine ⟨?_, fun b hb => ?_, PeerUnit.dropMark_marks_same _ a, fun b hb => ?_, by simp [expirePeer], ?_,
    by simp [expirePeer]⟩
  · exact (congrArg (·[a]) (PeerUnit.dropMark_peers _ a)).trans (PeerUnit.setPeer_peers_same s.ptu a none)
  · exact (congrArg (·[b]) (PeerUnit.dropMark_peers _ a)).trans (PeerUnit.setPeer_peers_other s.ptu none hb)
  · exact (PeerUnit.dropMark_marks_other _ hb).trans (congrArg (·[b]) (PeerUnit.setPeer_keeps s.ptu a none).1)
  · exact (PeerUnit.dropMark_unpaired _ a).trans (by simp)

/-- Another entry is late (R82). -/
theorem expirePeer_late (a : Fin 16) (s : State) : addresses.any (expirePeer a s).peerExpired = true ↔
    ∃ c, c ≠ a ∧ s.peerExpired c = true := by
  obtain ⟨none_, others, -⟩ := expirePeer_table a s
  have second : (expirePeer a s).second = s.second := rfl
  rw [any_addresses]
  refine exists_congr fun c => ?_
  rw [peerExpired_iff, peerExpired_iff, second]
  by_cases h : c = a
  · subst h
    simp [none_]
  · simp [others c h, h]

end Sys2Proof.Machine

open Sys2Proof Sys2Proof.Machine

/-- Settles O14. -/
theorem peerExpiryAndQuarantineEnd : Obligations.PeerExpiryAndQuarantineEnd := by
  refine ⟨fun s order ready => ?_, fun s a running stage past => ?_, fun s a e running stage he hq hz => ?_⟩
  · intro k late ended point
    refine ⟨ownBoundary order s, event_of_ready _ ready, ?_⟩
    have passed := ownBoundary_passed order s
    obtain ⟨g, -, -, -, -, lapsed, unpaired, orphan⟩ := passed.table
    refine ⟨fun a e he => ?_, fun a => passed.no_entry, by simp [lapsed], unpaired, orphan, fun hl => ?_,
      fun hl he => ?_, fun hl he => ?_, fun h => ?_, fun hl he hp => ?_⟩
    · obtain ⟨f, hf, old, counted⟩ := passed.entry he
      refine ⟨f, hf, ?_⟩
      by_cases hl : late
      · simp [old hl, hl]
      · simp [counted hl, hl, PeerEntry.counted_quarantine]
    · rw [passed.late hl]
    · rw [passed.ended hl he]
    · by_cases hp : point
      · obtain ⟨c, e⟩ := passed.point hl he hp
        rw [e]
      · rw [passed.rest hl he hp]
    · by_cases hl : late
      · rw [passed.late hl]
        exact ⟨rfl, rfl⟩
      · by_cases he : ended
        · rw [passed.ended hl he]
          exact ⟨rfl, rfl⟩
        · rw [passed.rest hl he (h.resolve_left hl |>.resolve_left he)]
          exact ⟨rfl, rfl⟩
    · obtain ⟨c, e⟩ := passed.point hl he hp
      exact ⟨congrArg PeerUnit.tier1 e, by rw [e]⟩
  · have due := dueEvent_of_due (due := fun s => s.ptu.stage = .expiry && s.peerExpired a)
      (fun s => afterExpiry (expirePeer a (settleSteer s))) running (by simp [stage, past])
    refine ⟨_, due, ?_⟩
    obtain ⟨gone, others, mark, marks, lapsed, unpaired, orphan⟩ := expirePeer_table a (settleSteer s)
    obtain ⟨g, late, counted, peers, marks', lapsed', unpaired', orphan'⟩ :=
      afterExpiry_table (expirePeer a (settleSteer s))
    have same : (settleSteer s).ptu = s.ptu := by simp
    have iff : addresses.any (expirePeer a (settleSteer s)).peerExpired = true ↔
        ∃ c, c ≠ a ∧ s.peerExpired c = true := by
      rw [expirePeer_late]
      simp [peerExpired_iff, State.second]
    have entry : ∀ b : Fin 16, (afterExpiry (expirePeer a (settleSteer s))).ptu.peers[b] =
        (expirePeer a (settleSteer s)).ptu.peers[b].map g := fun b => by rw [peers]; simp
    rw [marks', lapsed', unpaired', orphan', unpaired, orphan, lapsed, same]
    refine ⟨by rw [entry, gone]; rfl, mark, rfl, fun b e hb he => ?_, fun h => (late (iff.mpr h)).2, fun h => if_pos h,
      fun h => if_neg h, fun b hb => by rw [marks b hb, same], rfl, by simp⟩
    rw [entry, others b hb, same, he]
    by_cases h : ∃ c, c ≠ a ∧ s.peerExpired c = true
    · rw [if_pos (.inl h), (late (iff.mpr h)).1]
      rfl
    · rw [counted (Bool.eq_false_iff.mpr ((not_congr iff).mpr h))]
      simp only [h, false_or, Option.map_some, PeerEntry.counted]
      (repeat' split) <;> simp_all
  · have isOver : s.quarantineOver a = true := (quarantineOver_iff s a).mpr ⟨e, he, hq, hz⟩
    have due := dueEvent_of_due (due := fun s => s.ptu.stage = .quarantine && s.quarantineOver a)
      (fun s => afterQuarantine (endQuarantine a (settleSteer s))) running (by simp [stage, isOver])
    refine ⟨_, due, ?_⟩
    have same : (settleSteer s).ptu = s.ptu := by simp
    have ended : endQuarantine a (settleSteer s) = (settleSteer s).withPtu
        (s.ptu.setPeer a (some { e with state := .learning, lf16 := none })) := by
      rw [endQuarantine, same]
      simp only [he]
    obtain ⟨r, q, st, ptu⟩ := afterQuarantine_ptu (endQuarantine a (settleSteer s))
    rw [ptu, ended]
    refine ⟨PeerUnit.setPeer_peers_same s.ptu a _, fun b hb => PeerUnit.setPeer_peers_other s.ptu _ hb, by simp, by simp, by simp, by simp⟩

end

section
/-! PROOF. A boundary that brings the engine no observation and no point; the steering limit (R119, R120).
-/

namespace Sys2Proof.Machine

/-! ### Tasks that bring no input -/

/-- The notice of the boundary is that of an engine step (R28). -/
def stepNoticed (c : Option Committed) : Bool := c.any fun c => decide (c.origin = .engine)

theorem runTask_monitor (c : Option Committed) (s : State) :
    runTask c .monitor s = monitorBoundary (stepNoticed c) (settleSteer s) := by cases c <;> rfl

theorem runTask_peers (c : Option Committed) (s : State) :
    runTask c .peers s = peersBoundary (c.map (·.amount)) (settleSteer s) := rfl

theorem settleSteer_of_below {s : State} (h : s.steerDue = false) : settleSteer s = s :=
  if_neg (Bool.eq_false_iff.mp h)

/-- At the boundary that `s` takes, with OSC_IN present: no pulse is held for it and no point falls on it. -/
structure State.Quiet (s v : State) : Prop extends s.Opened v where
  osc : v.tsg.osc = .present
  held : ∀ p, v.mon.held = some p → p.tag ≠ v.second
  point : ¬v.PointHere

theorem measureHeld_of_not_held {s : State} (h : ∀ p, s.mon.held = some p → p.tag ≠ s.second) :
    measureHeld s = s.withMon { s.mon with stage := .idle } := by
  unfold measureHeld
  dsimp only
  split
  · next p hp => exact if_neg (h p hp)
  · rfl

theorem monitorBoundary_of_not_held (b : Bool) {s : State} (h : ∀ p, s.mon.held = some p → p.tag ≠ s.second) :
    ∃ m, monitorBoundary b s = s.withMon m ∧ m.held = s.mon.held := by
  have count : ∀ m : Monitor, m.held = s.mon.held →
      ∃ m', (if (s.withMon m).blockStale then (s.withMon m).withMon { m with stage := .stale }
        else countDown (s.withMon m)) = s.withMon m' ∧ m'.held = s.mon.held := by
    intro m hm
    split
    · exact ⟨_, rfl, hm⟩
    · rw [countDown_eq]
      split
      · exact ⟨_, rfl, hm⟩
      · rw [measureHeld_of_not_held]
        · exact ⟨_, rfl, hm⟩
        · intro p hp
          exact h p (hm.symm.trans hp)
  cases b with
  | true => exact count { s.mon.emptyBlock with seedRequest := true } rfl
  | false => exact count s.mon rfl

theorem peersBoundary_of_no_point (n : Option Int) {s : State} (h : ¬s.PointHere) :
    ∃ p, peersBoundary n s = s.withPtu p := by
  by_cases late : s.PeerLate
  · exact ⟨_, peersBoundary_of_late late⟩
  · by_cases ended : s.PeerEnded
    · exact ⟨_, peersBoundary_of_ended late ended⟩
    · exact ⟨_, (peersBoundary_of_rest late ended).trans
        (pointDue_of_not_here (s := s.withPtu (s.ptu.noticed n s.second).counted) h)⟩

section
variable {s v : State} (q : s.Quiet v)
include q

theorem State.Quiet.settleSteer : s.Quiet (settleSteer v) where
  toOpened := q.toOpened.settleSteer
  osc := by simp [q.osc]
  held p hp := by simpa [State.second] using q.held p (by simpa using hp)
  point := by simpa [State.PointHere, State.second] using q.point

/-- The monitor's task moves the monitor's own record alone, and the peers' task the peer table. -/
theorem State.Quiet.monitor (b : Bool) : ∃ m, monitorBoundary b v = v.withMon m ∧ m.held = v.mon.held :=
  monitorBoundary_of_not_held b q.held

theorem State.Quiet.peers (n : Option Int) : ∃ p, peersBoundary n v = v.withPtu p :=
  peersBoundary_of_no_point n q.point

theorem State.Quiet.held_runTask (c : Option Committed) (t : BoundaryTask) :
    (runTask c t v).mon.held = v.mon.held := by
  cases t with
  | monitor =>
    obtain ⟨m, e, held⟩ := q.settleSteer.monitor (stepNoticed c)
    rw [runTask_monitor, e]
    simpa using held
  | peers =>
    obtain ⟨p, e⟩ := q.settleSteer.peers (c.map (·.amount))
    rw [runTask_peers, e]
    simp
  | oscillator => rw [runTask_oscillator_of_not_lost c (by rw [q.osc]; decide)]
  | _ => simp [Machine.runTask]

theorem State.Quiet.runTask (c : Option Committed) (t : BoundaryTask) : s.Quiet (runTask c t v) where
  toOpened := q.toOpened.runTask c t
  osc := by simp [q.osc]
  held p hp := by
    rw [runTask_second]
    exact q.held p ((q.held_runTask c t).symm.trans hp)
  point := by simpa [State.PointHere, runTask_second] using q.point

/-- The engine sees its own task alone, where no steering limit is due. -/
theorem State.Quiet.eng (c : Option Committed) {t : BoundaryTask} (ht : t ≠ .engine) (below : v.steerDue = false) :
    (Machine.runTask c t v).eng = v.eng ∧ (Machine.runTask c t v).tsg.fSet = v.tsg.fSet ∧
      (t ≠ .learning → (Machine.runTask c t v).lrn = v.lrn) := by
  cases t with
  | engine => exact absurd rfl ht
  | monitor =>
    obtain ⟨m, e, -⟩ := q.monitor (stepNoticed c)
    rw [runTask_monitor, settleSteer_of_below below, e]
    exact ⟨rfl, rfl, fun _ => rfl⟩
  | peers =>
    obtain ⟨p, e⟩ := q.peers (c.map (·.amount))
    rw [runTask_peers, settleSteer_of_below below, e]
    exact ⟨rfl, rfl, fun _ => rfl⟩
  | oscillator =>
    rw [runTask_oscillator_of_not_lost c (by rw [q.osc]; decide)]
    exact ⟨rfl, rfl, fun _ => rfl⟩
  | latch => simp [Machine.runTask, latch]
  | learning =>
    simp only [Machine.runTask, learningBoundary]
    (repeat' split) <;> simp
  | bus =>
    simp only [Machine.runTask, busBoundary]
    (repeat' split) <;> simp

end

theorem openBoundary_quiet {s : State} (osc : s.tsg.osc = .present)
    (held : ∀ p, s.mon.held = some p → p.tag ≠ (s.tsg.boundaryIndex + 1) % 4294967296)
    (point : s.pwr.state = .load ∨ (s.tsg.boundaryIndex + 1) % 4294967296 % s.cfg.pointInterval ≠ 0) :
    s.Quiet (openBoundary s) where
  toOpened := openBoundary_opened s
  osc := by rw [openBoundary_osc, osc]; rfl
  held p hp := by
    rw [(openBoundary_opened s).second]
    refine held p (hp.symm.trans ?_).symm
    simp [openBoundary, reachBoundary_of_present osc]
  point := by
    intro here
    rw [State.PointHere, (openBoundary_opened s).second, (openBoundary_opened s).pwr, (openBoundary_opened s).cfg] at here
    exact point.elim here.1 fun h => h here.2

/-! ### The steering-limit test -/

theorem engineBoundary_steerCount (s : State) : (engineBoundary s).eng.steerCount =
    if (s.eng.state = .locked ∨ s.eng.state = .follow) ∧ s.tsg.fSet.natAbs = 2000000 then
      s.eng.steerCount + 1 else 0 := by
  obtain ⟨p, u, o, e⟩ := engineBoundary_eng s
  rw [e]
  rfl

theorem engineBoundary_source (s : State) : (engineBoundary s).eng.source = s.eng.source := by
  obtain ⟨p, u, o, e⟩ := engineBoundary_eng s
  rw [e]
  rfl

/-- After the engine's task the state and the counter stand, the counter below the limit. -/
structure State.Tested (s : State) (st : EngineState) (n : Nat) (v : State) : Prop extends s.Quiet v where
  state : v.eng.state = st
  count : v.eng.steerCount = n

theorem State.Tested.runTask {s v : State} {st : EngineState} {n : Nat} (h : s.Tested st n v)
    (below : st = .locked ∨ st = .follow → n < 600) (c : Option Committed) {t : BoundaryTask} (ht : t ≠ .engine) :
    s.Tested st n (runTask c t v) := by
  have same := (h.eng c ht ((steerDue_iff v).mpr fun hs => by rw [h.count]; exact Nat.le_of_lt_succ (below (h.state ▸ hs)))).1
  exact ⟨h.toQuiet.runTask c t, by rw [same, h.state], by rw [same, h.count]⟩

/-- A steering limit is due, or was taken (R119). -/
structure State.AtSteerLimit (s v : State) : Prop extends s.Quiet v where
  limit : v.eng.state = .fault ∨ v.steerDue = true

theorem State.AtSteerLimit.runTask {s v : State} (h : s.AtSteerLimit v) (c : Option Committed) {t : BoundaryTask}
    (ht : t ≠ .engine) : s.AtSteerLimit (runTask c t v) := by
  refine ⟨h.toQuiet.runTask c t, ?_⟩
  obtain fault | due := h.limit
  · have tasks := (fault_kept (i := .busJoin) rfl).tasks (T := fun _ => True)
    exact .inl (tasks.runTask trivial c trivial v fault)
  · have taken : settleSteer v = takeSteerLimit v := if_pos due
    have fault : (settleSteer v).eng.state = .fault := by rw [taken]; exact enterFault_state _
    cases t with
    | engine => exact absurd rfl ht
    | monitor =>
      obtain ⟨m, e, -⟩ := h.settleSteer.monitor (stepNoticed c)
      exact .inl (by rw [runTask_monitor, e]; exact fault)
    | peers =>
      obtain ⟨p, e⟩ := h.settleSteer.peers (c.map (·.amount))
      exact .inl (by rw [runTask_peers, e]; exact fault)
    | oscillator =>
      rw [runTask_oscillator_of_not_lost c (by rw [h.osc]; decide)]
      exact .inr due
    | _ => exact .inr (by simpa [Machine.runTask, State.steerDue] using due)

section
variable {s : State} (order : List BoundaryTask) (quiet : s.Quiet (openBoundary s)) (below : s.steerDue = false)
include quiet below

/-- Before the engine's task of a quiet boundary the engine and the F set stand. -/
theorem ownBoundary_engine {Q : State → Prop}
    (act : ∀ v, s.Quiet v → v.eng = s.eng → v.tsg.fSet = s.tsg.fSet → Q (engineBoundary v))
    (after : ∀ t, t ≠ .engine → ∀ v, Q v → Q (runTask s.tsg.notice t v)) : Q (ownBoundary order s) := by
  refine ownBoundary_once .engine (P := fun v => s.Quiet v ∧ v.eng = s.eng ∧ v.tsg.fSet = s.tsg.fSet)
    (fun t ht v ⟨q, eng, f⟩ => ?_) (fun v ⟨q, eng, f⟩ => act v q eng f) after
    ⟨quiet, by simp, (openBoundary_steering s).1⟩
  obtain ⟨eng', f', -⟩ := q.eng s.tsg.notice ht (by simpa [State.steerDue, eng] using below)
  exact ⟨q.runTask _ t, eng'.trans eng, f'.trans f⟩

end

theorem steerDue_of_ready {s : State} (h : s.ready = true) : s.steerDue = false := by
  obtain ⟨-, settled⟩ := (ready_iff s).mp h
  simp only [State.settled, Bool.and_eq_true, Bool.not_eq_true'] at settled
  exact settled.1.1.2

/-! ### The entry to FAULT (R120) -/

theorem announce_bus_marks (old : EngineState) (s : State) :
    (announce old s).bus.mark = s.bus.mark ∧ (announce old s).bus.follow = s.bus.follow := by
  have status : ∀ t : State, (offerStatus t).bus.mark = t.bus.mark ∧ (offerStatus t).bus.follow = t.bus.follow :=
    fun t => by rw [offerStatus_bus]; exact ⟨rfl, rfl⟩
  unfold announce
  dsimp only
  (repeat' split) <;> simp [status]

/-- What FAULT empties (R120). -/
theorem enterFault_silences {s : State} (h : s.eng.state ≠ .fault) :
    (enterFault s).tsg.slot = none ∧ (enterFault s).tsg.outputsRunning = false ∧ (enterFault s).tsg.ppsOut = false ∧
    (enterFault s).bus.mark = none ∧ (enterFault s).bus.follow = none := by
  have slot := enterFault_slot (s := s) (.inr h)
  refine ⟨slot, ?_⟩
  simp [enterFault, h, announce_tsg, announce_bus_marks, refreshOutputs, State.muteCause, emptyMarkSlots]

end Sys2Proof.Machine

open Sys2Proof Sys2Proof.Machine

/-- Settles O15. -/
theorem steerLimitEntersFault : Obligations.SteerLimitEntersFault := by
  refine ⟨fun s order ready osc held point => ?_, fun s running tracks limit => ?_⟩
  · intro tracks limit
    have quiet := openBoundary_quiet osc held point
    have below := steerDue_of_ready ready
    have abs : limit ↔ s.tsg.fSet.natAbs = 2000000 := by omega
    have passes : ∀ n, (n = if tracks ∧ limit then s.eng.steerCount + 1 else 0) → (tracks → n < 600) →
        (ownBoundary order s).eng.steerCount = n ∧ (ownBoundary order s).eng.state = s.eng.state := by
      intro n hn small
      have tested : s.Tested s.eng.state n (ownBoundary order s) :=
        ownBoundary_engine order quiet below
          (fun v q eng f => ⟨q.runTask s.tsg.notice .engine, by rw [engineBoundary_state, eng], by
            rw [engineBoundary_steerCount, eng, f, hn]
            simp only [abs, tracks]⟩)
          fun t ht v h => h.runTask small _ ht
      exact ⟨tested.count, tested.state⟩
    refine ⟨ownBoundary order s, event_of_ready _ ready, fun ht hl small => ?_, fun ht hl full => ?_, fun ht hl => ?_,
      fun ht => ?_⟩
    · exact passes _ (if_pos ⟨ht, hl⟩).symm fun _ => by omega
    · have reached : s.AtSteerLimit (ownBoundary order s) :=
        ownBoundary_engine order quiet below
          (fun v q eng f => ⟨q.runTask s.tsg.notice .engine, .inr (by
            have count := engineBoundary_steerCount v
            rw [eng, f, if_pos ⟨ht, abs.mp hl⟩, full] at count
            have st : v.eng.state = .locked ∨ v.eng.state = .follow := eng ▸ ht
            simp [State.steerDue, count, st])⟩)
          fun t ht v h => h.runTask _ ht
      exact reached.limit
    · exact passes 0 (if_neg fun h => hl h.2).symm fun _ => by decide
    · exact passes 0 (if_neg fun h => ht h.1).symm fun _ => by decide
  · have due : s.steerDue = true := by simp [State.steerDue, tracks, limit]
    have alive : (raise .steerLimit s).eng.state ≠ .fault := by
      rw [(raise_keeps _ _).2.2.2.1]
      obtain h | h := tracks <;> rw [h] <;> decide
    have cls : (raise .steerLimit s).cls ≠ none := by
      obtain h | h := tracks <;> simp [State.cls, classOf, h]
    obtain ⟨slot, running', pps, mark, follow⟩ := enterFault_silences alive
    obtain ⟨next, f⟩ := enterFault_schedule (raise .steerLimit s)
    refine ⟨takeSteerLimit s, dueEvent_of_due _ running due, ?_, fun f => ?_, slot, f.trans (by simp), running', pps,
      next.trans (by simp), by simp, mark, follow, by simp⟩
    · rw [takeSteerLimit, enterFault_eng alive, (raise_keeps _ _).2.2.2.1]
      rfl
    · rw [takeSteerLimit, enterFault_raised, raise_raised]
      simp [cls]

end

section
/-! PROOF. Temperature sampling and the aging clock (R139, R140, R146 to R148).
-/

namespace Sys2Proof.Machine

/-! ### The Learning Unit's record at a boundary -/

/-- The record with another's table. -/
def Learning.tabled (l m : Learning) : Learning := { l with table := m.table }

/-- The operations of the other blocks reach the table alone. -/
theorem learning_walk (l : Learning) : Walk fun v => v.lrn.tabled l = l where
  learnOffer v s _ h := by
    obtain e | ⟨-, b, -, e⟩ := learnOffer_cases v s <;> rw [e]
    · exact h
    · exact h

/-- The record after the Learning Unit's own work at a boundary (R139, R146). -/
def Learning.started (l : Learning) (allowed : Bool) : Learning :=
  { l with converting := true, agingClock := if allowed then l.agingClock + 1 else 0 }

theorem learningBoundary_lrn (s : State) : (learningBoundary s).lrn = s.lrn.started s.learningAllowed := by
  unfold learningBoundary
  dsimp only
  (repeat' split) <;> simp [Learning.started, *]

theorem learning_tasks (l : Learning) : TaskKept (· ≠ .learning) fun v => v.lrn.tabled l = l :=
  (learning_walk l).engineKept.tasks (learning := fun h => absurd rfl h)

theorem ownBoundary_lrn (order : List BoundaryTask) (s : State) :
    ∃ allowed, (ownBoundary order s).lrn.tabled s.lrn = s.lrn.started allowed :=
  ownBoundary_once .learning (P := fun v => v.lrn.tabled s.lrn = s.lrn)
    (Q := fun v => ∃ allowed, v.lrn.tabled s.lrn = s.lrn.started allowed)
    (fun _ h => (learning_tasks _).runTask trivial _ h)
    (fun v h => ⟨v.learningAllowed, by
      show (learningBoundary v).lrn.tabled s.lrn = _
      rw [learningBoundary_lrn, ← h]
      rfl⟩)
    (fun _ h v ⟨allowed, hv⟩ => ⟨allowed, (learning_tasks (s.lrn.started allowed)).runTask trivial _ h v hv⟩)
    (by simp [Learning.tabled])

/-- TEMP_STALE is raised again while STALE (R140). -/
theorem ownBoundary_tempStale (order : List BoundaryTask) {s : State} (stale : s.lrn.sampling = .stale) :
    hasFlag (ownBoundary order s).scu.raised .tempStale = true := by
  have flag := (raised_kept (i := .busJoin) .tempStale rfl rfl).tasks (T := fun _ => True)
  refine ownBoundary_once .learning (P := fun v => v.lrn.tabled s.lrn = s.lrn)
    (Q := fun v => hasFlag v.scu.raised .tempStale = true)
    (fun _ h => (learning_tasks _).runTask trivial _ h) (fun v h => ?_)
    (fun k _ => flag.runTask trivial _ trivial) (by simp [Learning.tabled])
  have now : v.lrn.sampling = .stale := by
    rw [← stale, ← h]
    rfl
  show hasFlag (learningBoundary v).scu.raised .tempStale = true
  simp [learningBoundary, now, raise_raised]

/-! ### The aging clock at a quiet boundary -/

/-- The state of a quiet boundary whose steering count stays below the limit, by the tasks that were run. -/
structure State.QuietRun (s : State) (done : List BoundaryTask) (v : State) : Prop extends s.Quiet v where
  state : v.eng.state = s.eng.state
  source : v.eng.source = s.eng.source
  count : v.eng.steerCount ≤ if .engine ∈ done then 599 else 598

theorem State.QuietRun.below {s v : State} {done : List BoundaryTask} (h : s.QuietRun done v) : v.steerDue = false := by
  refine (steerDue_iff v).mpr fun _ => Nat.le_trans h.count ?_
  (repeat' split) <;> decide

theorem State.QuietRun.runTask {s v : State} {done : List BoundaryTask} (h : s.QuietRun done v) {c : Option Committed}
    {t : BoundaryTask} (ht : t ∉ done) : s.QuietRun (t :: done) (runTask c t v) := by
  by_cases engine : t = .engine
  · subst engine
    refine ⟨h.toQuiet.runTask c _, (engineBoundary_state v).trans h.state, (engineBoundary_source v).trans h.source, ?_⟩
    have count := h.count
    rw [if_neg ht] at count
    rw [if_pos List.mem_cons_self]
    show (engineBoundary v).eng.steerCount ≤ 599
    rw [engineBoundary_steerCount v]
    (repeat' split) <;> omega
  · obtain ⟨eng, -⟩ := h.toQuiet.eng c engine h.below
    refine ⟨h.toQuiet.runTask c t, by rw [eng, h.state], by rw [eng, h.source], ?_⟩
    have same : BoundaryTask.engine ∈ t :: done ↔ .engine ∈ done := by simp [Ne.symm engine]
    simpa only [eng, same] using h.count

theorem openBoundary_quietRun {s : State} (quiet : s.Quiet (openBoundary s)) (count : s.eng.steerCount < 599) :
    s.QuietRun [] (openBoundary s) :=
  ⟨quiet, by simp, by simp, by simpa using Nat.le_of_lt_succ count⟩

/-- The Learning Unit's record after a quiet boundary (R146). -/
theorem ownBoundary_quiet_lrn (order : List BoundaryTask) {s : State} (quiet : s.Quiet (openBoundary s))
    (count : s.eng.steerCount < 599) : (ownBoundary order s).lrn = s.lrn.started s.learningAllowed := by
  have step : ∀ done t v, t ∉ done → s.QuietRun done v ∧
        v.lrn = (if .learning ∈ done then s.lrn.started s.learningAllowed else s.lrn) →
      s.QuietRun (t :: done) (runTask s.tsg.notice t v) ∧ (runTask s.tsg.notice t v).lrn =
        if .learning ∈ t :: done then s.lrn.started s.learningAllowed else s.lrn := by
    rintro done t v ht ⟨run, lrn⟩
    refine ⟨run.runTask ht, ?_⟩
    by_cases learning : t = .learning
    · subst learning
      rw [if_neg ht] at lrn
      rw [if_pos List.mem_cons_self]
      show (learningBoundary v).lrn = _
      rw [learningBoundary_lrn, lrn]
      simp only [State.learningAllowed, run.state, run.source, lrn]
    · have same : BoundaryTask.learning ∈ t :: done ↔ .learning ∈ done := by simp [Ne.symm learning]
      simp only [same, ← lrn]
      by_cases engine : t = .engine
      · subst engine
        simp [runTask]
      · exact (run.toQuiet.eng _ engine run.below).2.2 learning
  obtain ⟨all, mem, -, lrn⟩ := ownBoundary_done (order := order) step ⟨openBoundary_quietRun quiet count, by simp⟩
  rwa [if_pos (mem _)] at lrn

/-! ### The aging sample (R147, R148) -/

/-- The sample that a boundary takes (R147). -/
def State.agingSample (s : State) : AgingSample :=
  ⟨meanInt s.eng.ring - s.lrn.currentBin.elim 0 s.lrn.tab, s.second⟩

theorem takeAgingSample_of_empty {s : State} (h : s.eng.ring = []) :
    takeAgingSample s = s.withLrn { s.lrn with agingClock := 0 } := if_pos h

theorem takeAgingSample_of_ring {s : State} (h : s.eng.ring ≠ []) : takeAgingSample s = s.withLrn { s.lrn with
    agingClock := 0
    aging := pushBounded 8 s.lrn.aging s.agingSample
    rate := agingRate (pushBounded 8 s.lrn.aging s.agingSample) s.lrn.rate } := by
  refine (if_neg h).trans ?_
  unfold State.agingSample
  cases s.lrn.currentBin <;> rfl

theorem pushBounded_getLast? {α : Type} (cap : Nat) (xs : List α) (x : α) :
    (pushBounded cap xs x).getLast? = some x := by simp [pushBounded]

/-- A is learned from samples that span a day (R148). -/
theorem agingRate_of_ends {ring : List AgingSample} {a b : AgingSample} (first : ring.head? = some a)
    (last : ring.getLast? = some b) (old : Int) : agingRate ring old =
      if 86400 ≤ secondsSince b.second a.second then
        clampAbs 1000 (roundDiv ((b.z - a.z) * 86400) (1000 * (secondsSince b.second a.second : Nat)))
      else old := by
  simp only [agingRate, first, last]

end Sys2Proof.Machine

open Sys2Proof Sys2Proof.Machine

/-- Settles O18. -/
theorem agingAndTemperatureSampling : Obligations.AgingAndTemperatureSampling := by
  refine ⟨fun s order ready => ?_, fun s running old => ?_, fun s t r ready converting low high => ?_,
    fun s t r ready converting out => ?_, fun s ready fresh => ?_⟩
  · obtain ⟨allowed, lrn⟩ := ownBoundary_lrn order s
    have field : ∀ {α : Type} (f : Learning → α), f ((ownBoundary order s).lrn.tabled s.lrn) = f (s.lrn.started allowed) :=
      fun f => congrArg f lrn
    refine ⟨ownBoundary order s, event_of_ready _ ready, field (·.converting), field (·.sampling), field (·.lastReading),
      field (·.aging), field (·.rate), ownBoundary_tempStale order, fun osc count held point => ?_⟩
    rw [ownBoundary_quiet_lrn order (openBoundary_quiet osc held point) count]
    refine ⟨rfl, ?_⟩
    simp [Learning.started, State.learningAllowed]
  · have due : s.agingDue = true := decide_eq_true old
    have taken : exec .agingSample s = .next (takeAgingSample s) := dueEvent_of_due _ running due
    rw [taken]
    by_cases ring : s.eng.ring = []
    · rw [takeAgingSample_of_empty ring]
      exact ⟨_, rfl, rfl, rfl, fun _ => rfl, fun h => absurd ring h⟩
    · rw [takeAgingSample_of_ring ring]
      refine ⟨_, rfl, rfl, rfl, fun h => absurd h ring, fun _ => ⟨s.agingSample.z, rfl, fun b hb => ?_, fun hb => ?_,
        pushBounded_getLast? .., fun a ha => ?_⟩⟩
      · simp [State.agingSample, hb]
      · simp [State.agingSample, hb]
      · have rate := agingRate_of_ends ha (pushBounded_getLast? 8 s.lrn.aging s.agingSample) s.lrn.rate
        refine ⟨fun long => rate.trans (if_pos long), fun short => rate.trans (if_neg (Nat.not_le.mpr short))⟩
  · show execTemperatureConversionEnd t (some r) s = _
    rw [execTemperatureConversionEnd, event_of_ready _ ready]
    simp [converting, low, high]
  · show execTemperatureConversionEnd t r s = _
    rw [execTemperatureConversionEnd, event_of_ready _ ready]
    cases r with
    | none => simp [converting]
    | some v =>
      have outside : ¬(-440 ≤ v ∧ v ≤ 1000) := by
        have := out v rfl
        omega
      simp [converting, outside]
  · have taken : exec .stalenessTimerExpiry s = .next
        (raise .tempStale ((s.at s.lrn.staleDue).withLrn { s.lrn with sampling := .stale })) := by
      show execStalenessTimerExpiry s = _
      rw [execStalenessTimerExpiry, event_of_ready _ ready]
      simp [fresh]
    exact ⟨_, taken, by simp, by simp [State.at], fun f => by simp [raise_raised], by simp, by simp, by simp, by simp,
      by simp, by simp⟩

end

section
/-! PROOF. The waveform of FREQ_OUT within a second (R6).
-/

namespace Sys2Proof.Machine

/-! ### Steps spread evenly -/

/-- A spread toward zero reaches its end, moves by at most one, and stays within one of its share. -/
theorem spread_nat {d n u : Nat} (hn : 0 < n) (hd : d ≤ n) :
    d * u / n ≤ d * (u + 1) / n ∧ d * (u + 1) / n ≤ d * u / n + 1 ∧ n * (d * u / n) ≤ d * u ∧
      d * u < n * (d * u / n) + n := by
  have low := Nat.div_add_mod (d * u) n
  have small := Nat.mod_lt (d * u) hn
  refine ⟨Nat.div_le_div_right (Nat.mul_le_mul_left d (Nat.le_succ u)), ?_, by omega, by omega⟩
  rw [← Nat.lt_succ_iff, Nat.div_lt_iff_lt_mul hn]
  have expand : (d * u / n + 1 + 1) * n = n * (d * u / n) + n + n := by
    rw [Nat.add_mul, Nat.add_mul, Nat.mul_comm (d * u / n) n, Nat.one_mul]
  have step : d * (u + 1) = d * u + d := Nat.mul_succ d u
  show d * (u + 1) < (d * u / n + 1 + 1) * n
  omega

theorem spread_int {D n u : Int} (hn : 0 < n) (hu : 0 ≤ u) (hd : (D.natAbs : Int) ≤ n) :
    ((D * (u + 1)).tdiv n - (D * u).tdiv n).natAbs ≤ 1 ∧
      (((D * u).tdiv n * n - D * u).natAbs : Int) < n := by
  obtain ⟨k, rfl⟩ := Int.eq_ofNat_of_zero_le hu
  obtain ⟨m, rfl⟩ := Int.eq_ofNat_of_zero_le (Int.le_of_lt hn)
  have hm : 0 < m := by exact_mod_cast hn
  have positive : ∀ d : Nat, d ≤ m →
      (((d : Int) * (k + 1)).tdiv m - ((d : Int) * k).tdiv m).natAbs ≤ 1 ∧
        ((((d : Int) * k).tdiv m * m - (d : Int) * k).natAbs : Int) < m := by
    intro d hd
    obtain ⟨up, low, under, over_⟩ := spread_nat (u := k) hm hd
    have next : ((d : Int) * (k + 1)).tdiv m = ((d * (k + 1) / m : Nat) : Int) := by
      rw [Int.tdiv_eq_ediv_of_nonneg (by exact_mod_cast Nat.zero_le _)]
      push_cast
      rfl
    have now : ((d : Int) * k).tdiv m = ((d * k / m : Nat) : Int) := by
      rw [Int.tdiv_eq_ediv_of_nonneg (by exact_mod_cast Nat.zero_le _)]
      push_cast
      rfl
    have share : ((d * k / m : Nat) : Int) * m = ((m * (d * k / m) : Nat) : Int) := by
      push_cast
      exact Int.mul_comm _ _
    have whole : (d : Int) * k = ((d * k : Nat) : Int) := by push_cast; rfl
    rw [next, now, share, whole]
    omega
  obtain ⟨d, rfl | rfl⟩ := D.eq_nat_or_neg
  · exact positive d (by simpa using hd)
  · obtain ⟨step, share⟩ := positive d (by simpa using hd)
    simp only [Int.neg_mul, Int.neg_tdiv]
    omega

section
variable {x : Timescale}

theorem Timescale.freqMadeBy_from : x.freqMadeBy x.freqFrom = x.freqMade := if_pos (Int.le_refl _)

/-- The steps made between where they were placed and where they all are (R6). -/
theorem Timescale.freqMadeBy_within {t : Instant} (low : x.freqFrom ≤ t) (high : t ≤ x.freqSpan)
    (room : x.freqFrom < x.freqSpan) : x.freqMadeBy t = x.freqMade +
      ((x.freqSteps - x.freqMade) * (t - x.freqFrom)).tdiv (x.freqSpan - x.freqFrom) := by
  unfold freqMadeBy
  repeat' split
  · next first =>
    have same : t = x.freqFrom := Int.le_antisymm first low
    simp [same]
  · next last =>
    have same : t = x.freqSpan := Int.le_antisymm high last
    have wide : x.freqSpan - x.freqFrom ≠ 0 := Int.ne_of_gt (Int.sub_pos_of_lt room)
    rw [same, Int.mul_tdiv_cancel _ wide]
    omega
  · rfl

/-- The steps are of at most 1 ns, evenly spread, and add up by the end (R6). -/
theorem Timescale.freqMadeBy_spread (room : x.freqFrom < x.freqSpan)
    (few : ((x.freqSteps - x.freqMade).natAbs : Int) ≤ x.freqSpan - x.freqFrom) :
    x.freqMadeBy x.freqFrom = x.freqMade ∧ x.freqMadeBy x.freqSpan = x.freqSteps ∧
    ∀ t, x.freqFrom ≤ t → t < x.freqSpan →
      (x.freqMadeBy (t + 1) - x.freqMadeBy t).natAbs ≤ 1 ∧
      (((x.freqMadeBy t - x.freqMade) * (x.freqSpan - x.freqFrom) -
        (x.freqSteps - x.freqMade) * (t - x.freqFrom)).natAbs : Int) < x.freqSpan - x.freqFrom := by
  refine ⟨freqMadeBy_from, ?_, fun t low high => ?_⟩
  · rw [freqMadeBy, if_neg (Int.not_le.mpr room), if_pos (Int.le_refl _)]
  · have wide : 0 < x.freqSpan - x.freqFrom := Int.sub_pos_of_lt room
    obtain ⟨step, share⟩ := spread_int (u := t - x.freqFrom) wide (Int.sub_nonneg_of_le low) few
    have next : t + 1 - x.freqFrom = t - x.freqFrom + 1 := Int.add_right_comm t 1 (-x.freqFrom)
    rw [freqMadeBy_within (Int.le_add_one low) high room, freqMadeBy_within low (Int.le_of_lt high) room, next]
    refine ⟨?_, ?_⟩
    · rwa [Int.add_sub_add_left]
    · rwa [Int.add_comm x.freqMade, Int.add_sub_cancel]

theorem Timescale.freqLevel_iff (t : Instant) : x.freqLevel t = true ↔
    x.outputsRunning = true ∧ t < x.freqNominal ∧ (t - x.lastBoundary + x.freqMadeBy t) % 100 < 50 := by
  rw [freqLevel, Bool.and_eq_true, Bool.and_eq_true, decide_eq_true_iff, decide_eq_true_iff, and_assoc]
  rfl

theorem Timescale.freqRises_iff {t : Instant} (h : x.lastBoundary < t) :
    x.freqRises t = true ↔ x.freqLevel t = true ∧ x.freqLevel (t - 1) = false := by
  simp [freqRises, Int.ne_of_gt h]

/-- FREQ_OUT has a rising edge at the boundary while it runs (R6). -/
theorem Timescale.freqLevel_boundary (running : x.outputsRunning = true) (made : x.freqMade = 0)
    (start : x.freqFrom = x.lastBoundary) (few : x.freqSteps < 1000000000) :
    x.freqLevel x.lastBoundary = true ∧ x.freqRises x.lastBoundary = true := by
  have level : x.freqLevel x.lastBoundary = true := by
    have now := x.freqMadeBy_from
    rw [start, made] at now
    rw [freqLevel_iff, now]
    refine ⟨running, ?_, by simp⟩
    exact Int.lt_sub_right_of_add_lt (Int.add_lt_add_left few _)
  exact ⟨level, by simp [freqRises, level]⟩

/-- Placing a boundary again moves no step made (R6). -/
theorem Timescale.schedule_freqMadeBy (x : Timescale) : x.schedule.freqMadeBy x.now = x.freqMadeBy x.now := by
  unfold schedule
  split
  · exact if_pos (Int.le_refl _)
  · rfl

end

end Sys2Proof.Machine
end

section
/-! PROOF. The bytes of a STATUS (R159, R173, R174).
-/

namespace Sys2Proof.Machine

theorem bit_toNat (b : Bool) : (bit b).toNat = b.toNat := by cases b <;> rfl

theorem zeroField_toNat (w : Nat) : (0 : BitVec w).toNat = 0 := by simp

/-- The states of the blocks share a byte. -/
theorem stateByte_toNat (a : BitVec 3) (b c : BitVec 2) :
    ((0 : BitVec 1) ++ a ++ b ++ c).toNat = 16 * a.toNat + 4 * b.toNat + c.toNat := by
  simp only [append_toNat, zeroField_toNat]
  omega

theorem classByte_toNat (a : BitVec 3) (n : Nat) (b : Bool) :
    (a ++ BitVec.ofNat 4 (min 15 n) ++ bit b).toNat = 32 * a.toNat + 2 * min 15 n + b.toNat := by
  simp only [append_toNat, bit_toNat, BitVec.toNat_ofNat]
  omega

theorem stepField_toNat (c : BitVec 2) (u : Nat) :
    (be24 (c ++ (0 : BitVec 1) ++ BitVec.ofNat 21 (min 2097151 u))).map BitVec.toNat =
      bytesOf 3 (4194304 * (c.toNat : Int) + (min 2097151 u : Nat)) := by
  rw [be24_toNat]
  congr 1
  simp only [append_toNat, BitVec.toNat_ofNat, zeroField_toNat]
  omega

theorem causeByte_toNat (c : BitVec 3) : (c ++ (0 : BitVec 5)).toNat = 32 * c.toNat := by
  simp only [append_toNat, zeroField_toNat]
  omega

theorem binsByte_toNat {n : Nat} (h : n ≤ 127) : ((1 : BitVec 1) ++ BitVec.ofNat 7 (min 127 n)).toNat = 128 + n := by
  have one : (1 : BitVec 1).toNat = 1 := rfl
  simp only [append_toNat, BitVec.toNat_ofNat, one]
  omega

/-- Part 0 field by field (R159). -/
theorem statusPart0_toNat (s : State) : (statusPart0 s).map BitVec.toNat =
    [16 * (engineCode s.eng.state).toNat + 4 * (qualCode s.mon.qual).toNat + (powerCode s.pwr.state).toNat,
      32 * (statusClassCode s.cls).toNat + 2 * min 15 s.ptu.activeCount + s.tsg.slewing.toNat] ++
    bytesOf 2 s.scu.raised.toNat ++
    bytesOf 3 (4194304 * (s.tsg.stepCount.toNat : Int) + (min 2097151 s.eng.u : Nat)) ++
    [32 * (causeCode s.scu.cause).toNat] := by
  simp only [statusPart0, List.map_append, be16_toNat, stepField_toNat, List.map_cons, List.map_nil, stateByte_toNat,
    classByte_toNat, causeByte_toNat, Config.saturatedU]

theorem populated_le (l : Learning) : l.populated ≤ 64 := by
  have := List.countP_le_length (p := fun b : Bin => decide (0 < b.count)) (l := l.table.toList)
  simpa [Learning.populated] using this

/-- Part 1 field by field (R159). -/
theorem statusPart1_toNat (s : State) : (statusPart1 s).map BitVec.toNat =
    [128 + s.lrn.populated] ++ bytesOf 3 (max (-8388608) (min 8388607 s.tsg.fInForce)) ++
    bytesOf 2 (s.eng.lastC.elim (-32768) fun c => clampAbs 32767 c.value) ++
    bytesOf 2 (s.lrn.lastReading.getD (-32768)) := by
  have bins := populated_le s.lrn
  unfold statusPart1
  rw [List.map_append, List.map_append, List.map_append, be24_ofInt, be16_ofInt, be16_ofInt, List.map_cons, List.map_nil,
    binsByte_toNat (by omega), clamp_eq (by decide)]
  cases s.eng.lastC <;> cases s.lrn.lastReading <;> rfl

end Sys2Proof.Machine
end

section
/-! PROOF. What falls due at a boundary, and when it is taken (R5, R6, R58, R63, R65).
-/

namespace Sys2Proof.Machine

/-! ### The bus at a boundary -/

/-- What the operations of the other blocks leave of the interface. -/
structure Bus.SameSchedule (b c : Bus) : Prop where
  markDue : c.markDue = b.markDue
  statusDue : c.statusDue = b.statusDue
  listenOnly : c.listenOnly = b.listenOnly
  error : c.error = b.error
  attempt : b.attempt = none → c.attempt = none

theorem raise_sameSchedule (f : Flag) (s : State) : s.bus.SameSchedule (raise f s).bus := by
  rw [raise_bus_alerted]
  unfold Bus.alerted
  (repeat' split) <;> exact ⟨rfl, rfl, rfl, rfl, id⟩

theorem offerStatus_sameSchedule (s : State) : s.bus.SameSchedule (offerStatus s).bus := by
  rw [offerStatus_bus]
  exact ⟨rfl, rfl, rfl, rfl, id⟩

theorem emptyMarkSlots_sameSchedule (s : State) : s.bus.SameSchedule (emptyMarkSlots s).bus := by
  refine ⟨rfl, rfl, rfl, rfl, fun h => ?_⟩
  simp [emptyMarkSlots, Bus.orphanAttempt, h]

theorem Bus.SameSchedule.trans {a b c : Bus} (h : a.SameSchedule b) (h' : b.SameSchedule c) : a.SameSchedule c :=
  ⟨h'.markDue.trans h.markDue, h'.statusDue.trans h.statusDue, h'.listenOnly.trans h.listenOnly,
    h'.error.trans h.error, h'.attempt ∘ h.attempt⟩

theorem schedule_walk (b : Bus) : Walk fun v => b.SameSchedule v.bus where
  raise f s h := h.trans (raise_sameSchedule f s)
  offerStatus s h := h.trans (offerStatus_sameSchedule s)
  emptyMarkSlots s h := h.trans (emptyMarkSlots_sameSchedule s)

theorem schedule_tasks (b : Bus) : TaskKept (· ≠ .bus) fun v => b.SameSchedule v.bus :=
  (schedule_walk b).engineKept.tasks
    (learning := fun _ s h => keeps_ite (P := fun v => b.SameSchedule v.bus)
      (fun _ => (schedule_walk b).raise _ (s.withLrn _) h) fun _ => h)
    (bus := fun h => absurd rfl h)

theorem runTask_schedule (c : Option Committed) {t : BoundaryTask} (h : t ≠ .bus) (s : State) :
    s.bus.SameSchedule (runTask c t s).bus :=
  (schedule_tasks s.bus).runTask trivial c h s ⟨rfl, rfl, rfl, rfl, id⟩

/-- The state in which the interface's task makes out what falls due. -/
def State.busWarned (s : State) : State :=
  if s.bus.error = .busOff then raise .busOff s else s

theorem busWarned_keeps (s : State) : s.busWarned.tsg = s.tsg ∧ s.busWarned.pwr = s.pwr ∧ s.busWarned.cfg = s.cfg ∧
    s.bus.SameSchedule s.busWarned.bus := by
  unfold State.busWarned
  split
  · exact ⟨by simp, by simp, by simp, raise_sameSchedule _ s⟩
  · exact ⟨rfl, rfl, rfl, rfl, rfl, rfl, rfl, id⟩

theorem State.isMultiple_congr {s t : State} (second : t.second = s.second) (n : Option Nat) :
    t.isMultiple n = s.isMultiple n := by
  cases n with
  | none => rfl
  | some n => simp only [State.isMultiple, second]

theorem State.due_congr {s t : State} (second : t.second = s.second) (last : t.tsg.lastBoundary = s.tsg.lastBoundary)
    (pwr : t.pwr = s.pwr) (cfg : t.cfg = s.cfg) :
    t.isMultiple t.markEff = s.isMultiple s.markEff ∧ t.isMultiple t.statusEff = s.isMultiple s.statusEff ∧
      t.markTime = s.markTime := by
  have mark : t.markEff = s.markEff := by
    unfold State.markEff
    rw [pwr, cfg]
  have status : t.statusEff = s.statusEff := by
    unfold State.statusEff
    rw [pwr, cfg]
  rw [mark, status]
  exact ⟨State.isMultiple_congr second _, State.isMultiple_congr second _, by simp only [State.markTime, last, pwr]⟩

/-- What falls due in the second just opened (R63, R65). -/
theorem busBoundary_due (s : State) :
    (busBoundary s).bus.markDue = (if s.isMultiple s.markEff then some s.markTime else none) ∧
    (busBoundary s).bus.statusDue = s.isMultiple s.statusEff := by
  obtain ⟨tsg, pwr, cfg, -⟩ := busWarned_keeps s
  have offered : ∀ t : State, t = s.busWarned ∨ t = offerStatus s.busWarned →
      t.isMultiple t.markEff = s.isMultiple s.markEff ∧ t.isMultiple t.statusEff = s.isMultiple s.statusEff ∧
        t.markTime = s.markTime := by
    rintro t (rfl | rfl)
    · exact State.due_congr (by simp [State.second, tsg]) (by simp [tsg]) pwr cfg
    · exact State.due_congr (by simp [State.second, tsg]) (by simp [tsg]) (by simp [pwr]) (by simp [cfg])
  obtain ⟨mark, status, time⟩ := offered (if s.busWarned.bus.statusDue then offerStatus s.busWarned else s.busWarned)
    (by (repeat' split) <;> simp)
  unfold busBoundary
  dsimp only
  rw [← mark, ← status, ← time]
  exact ⟨rfl, rfl⟩

/-- A STATUS whose second has closed is offered (R65). -/
theorem busBoundary_offers {s : State} (due : s.bus.statusDue = true) (heard : s.bus.listenOnly = false)
    (idle : s.bus.attempt = none) : (busBoundary s).bus.status0 ≠ none ∧ (busBoundary s).bus.status1 ≠ none := by
  obtain ⟨-, -, -, same⟩ := busWarned_keeps s
  show (if s.busWarned.bus.statusDue then offerStatus s.busWarned else s.busWarned).bus.status0 ≠ none ∧
    (if s.busWarned.bus.statusDue then offerStatus s.busWarned else s.busWarned).bus.status1 ≠ none
  rw [if_pos (same.statusDue.trans due)]
  simp [offerStatus, same.listenOnly.trans heard, Bus.attempting, same.attempt idle]

/-- BUS_OFF is raised again while it lasts (R58). -/
theorem busBoundary_raised {s : State} (off : s.bus.error = .busOff) :
    hasFlag (busBoundary s).scu.raised .busOff = true := by
  unfold busBoundary
  dsimp only
  rw [if_pos off]
  (repeat' split) <;> simp [raise_raised]

/-- No operation of the other blocks takes a STATUS from its slots. -/
theorem offered_walk : Walk fun v => v.bus.status0 ≠ none ∧ v.bus.status1 ≠ none where
  raise f s h := by simpa using h
  offerStatus s h := by
    unfold offerStatus
    dsimp only
    repeat' split
    · exact h
    all_goals simp [h]
  emptyMarkSlots s h := h

theorem offered_tasks : TaskKept (· ≠ .bus) fun v => v.bus.status0 ≠ none ∧ v.bus.status1 ≠ none :=
  offered_walk.engineKept.tasks
    (learning := fun _ s h => keeps_ite (P := fun v => v.bus.status0 ≠ none ∧ v.bus.status1 ≠ none)
      (fun _ => offered_walk.raise _ (s.withLrn _) h) fun _ => h)
    (bus := fun h => absurd rfl h)

section
variable (order : List BoundaryTask) (s : State)

theorem ownBoundary_due : (ownBoundary order s).bus.markDue =
      (if (openBoundary s).isMultiple (openBoundary s).markEff then some (openBoundary s).markTime else none) ∧
    (ownBoundary order s).bus.statusDue = (openBoundary s).isMultiple (openBoundary s).statusEff := by
  refine ownBoundary_once .bus (P := fun v => v.second = (openBoundary s).second ∧
      v.tsg.lastBoundary = (openBoundary s).tsg.lastBoundary ∧ v.pwr = (openBoundary s).pwr ∧
      v.cfg = (openBoundary s).cfg)
    (Q := fun v => v.bus.markDue =
        (if (openBoundary s).isMultiple (openBoundary s).markEff then some (openBoundary s).markTime else none) ∧
      v.bus.statusDue = (openBoundary s).isMultiple (openBoundary s).statusEff)
    (fun t _ v hv => by rw [runTask_second]; simpa using hv) (fun v hv => ?_) (fun t ht v hv => ?_)
    ⟨rfl, rfl, rfl, rfl⟩
  · obtain ⟨second, last, pwr, cfg⟩ := hv
    obtain ⟨mark, status, time⟩ := State.due_congr second last pwr cfg
    rw [← mark, ← status, ← time]
    exact busBoundary_due v
  · have same := runTask_schedule s.tsg.notice ht v
    exact ⟨same.markDue.trans hv.1, same.statusDue.trans hv.2⟩

theorem ownBoundary_offers (due : s.bus.statusDue = true) (heard : s.bus.listenOnly = false)
    (idle : s.bus.attempt = none) :
    (ownBoundary order s).bus.status0 ≠ none ∧ (ownBoundary order s).bus.status1 ≠ none :=
  ownBoundary_once .bus (P := fun v => s.bus.SameSchedule v.bus)
    (Q := fun v => v.bus.status0 ≠ none ∧ v.bus.status1 ≠ none)
    (fun _ ht => (schedule_tasks s.bus).runTask trivial _ ht)
    (fun _ h => busBoundary_offers (h.statusDue.trans due) (h.listenOnly.trans heard) (h.attempt idle))
    (fun _ ht => offered_tasks.runTask trivial _ ht) (by simpa using ⟨rfl, rfl, rfl, rfl, id⟩)

theorem ownBoundary_busOff (off : s.bus.error = .busOff) :
    hasFlag (ownBoundary order s).scu.raised .busOff = true :=
  ownBoundary_once .bus (P := fun v => s.bus.SameSchedule v.bus)
    (Q := fun v => hasFlag v.scu.raised .busOff = true)
    (fun _ ht => (schedule_tasks s.bus).runTask trivial _ ht)
    (fun _ h => busBoundary_raised (h.error.trans off))
    (fun _ _ => ((raised_kept (i := .busJoin) .busOff rfl rfl).tasks (T := fun _ => True)).runTask trivial _ trivial)
    (by simpa using ⟨rfl, rfl, rfl, rfl, id⟩)

end

/-! ### FREQ_OUT at a boundary -/

/-- No step of the second is made yet (R6). -/
structure Timescale.AtStart (x : Timescale) : Prop where
  now : x.now = x.lastBoundary
  start : x.freqFrom = x.lastBoundary
  made : x.freqMade = 0

theorem Timescale.AtStart.schedule {x : Timescale} (h : x.AtStart) : x.schedule.AtStart := by
  unfold Timescale.schedule
  split
  · refine ⟨h.now, h.now, ?_⟩
    have made := x.freqMadeBy_from
    rwa [h.start, ← h.now, h.made] at made
  · exact h

theorem Timescale.AtStart.congr {x y : Timescale} (h : x.AtStart) (now : y.now = x.now)
    (last : y.lastBoundary = x.lastBoundary) (start : y.freqFrom = x.freqFrom) (made : y.freqMade = x.freqMade) :
    y.AtStart :=
  ⟨by rw [now, last, h.now], by rw [start, last, h.start], by rw [made, h.made]⟩

theorem atStart_walk : Walk fun v => v.tsg.AtStart where
  setF f s _ h := h.congr rfl rfl rfl rfl
  refresh s h := h.congr rfl rfl rfl rfl
  requestStep y s _ h := by
    obtain e | ⟨-, ⟨d, -, e⟩ | ⟨d, e⟩⟩ := requestStep_cases y s <;> rw [e]
    · exact h
    · rw [takeCommitted, State.withTsg_tsg]
      exact .schedule (h.congr rfl rfl rfl rfl)
    · exact h.congr rfl rfl rfl rfl
  abortSlot s h := by
    unfold abortSlot
    dsimp only
    split
    · exact h.congr rfl rfl rfl rfl
    · split <;> exact h.congr rfl rfl rfl rfl
  loss s h := by
    have kept : s.tsg.discardCommitted.AtStart := by
      unfold Timescale.discardCommitted
      split
      · split <;> exact h.congr rfl rfl rfl rfl
      · exact h
    exact kept.schedule.congr rfl rfl rfl rfl

theorem openBoundary_atStart (s : State) : (openBoundary s).tsg.AtStart := by
  have reached : (reachBoundary s).tsg.AtStart := by
    obtain e | e | e := reachBoundary_tsg_cases s <;> rw [e]
    · unfold Timescale.reach
      dsimp only
      split <;> exact ⟨rfl, rfl, rfl⟩
    · exact ⟨rfl, rfl, rfl⟩
    · exact ⟨rfl, rfl, rfl⟩
  have outputs : (boundaryOutputs (reachBoundary s)).tsg.AtStart := reached.congr rfl rfl rfl rfl
  obtain e | ⟨r, -, e⟩ := commitDue_cases (boundaryOutputs (reachBoundary s)) <;> rw [openBoundary, e]
  · exact outputs.schedule
  · rw [State.withTsg_tsg, State.withTsg_tsg]
    exact .schedule (outputs.congr rfl rfl rfl rfl)

theorem ownBoundary_atStart (order : List BoundaryTask) (s : State) : (ownBoundary order s).tsg.AtStart :=
  (atStart_walk.engineKept.tasks (T := fun _ => True)
    (latch := fun _ v h =>
      (h.congr (y := { v.tsg with fInForce := v.tsg.fSet }) rfl rfl rfl rfl).schedule)).ownBoundary
    (fun _ => trivial) trivial (openBoundary_atStart s)

/-- An applied amount cuts the cycle short or stretches it (R6). -/
theorem Timescale.reach_freqCycle (x : Timescale) : x.reach.freqCycle =
    if 0 < x.committedAmount then .cutShort x.committedAmount
    else if x.committedAmount < 0 then .stretched (-x.committedAmount) else .whole := by
  cases h : x.committed <;> simp [reach, h, committedAmount, applyCommitted]

theorem ownBoundary_freqCycle (order : List BoundaryTask) (s : State) :
    (ownBoundary order s).tsg.freqCycle = (reachBoundary s).tsg.freqCycle :=
  TaskKept.ownBoundary (T := fun _ => True) (P := fun v => v.tsg.freqCycle = (reachBoundary s).tsg.freqCycle) (o := True)
    {} (fun _ => trivial) trivial (by simp [openBoundary])

/-- F makes no step while OSC_IN is lost (R9). -/
theorem lostSteps_walk : Walk fun v => v.tsg.osc = .lost ∧ v.tsg.freqSteps = 0 where
  requestStep y s _ h := by
    obtain e | ⟨-, ⟨d, -, e⟩ | ⟨d, e⟩⟩ := requestStep_cases y s <;> rw [e]
    · exact h
    · simpa [takeCommitted, Timescale.schedule, h.1] using h
    · exact h
  abortSlot s h := by
    unfold abortSlot
    dsimp only
    split
    · exact h
    · split <;> exact h
  loss s h := by
    have same : s.tsg.discardCommitted.freqSteps = s.tsg.freqSteps := by
      unfold Timescale.discardCommitted
      split
      · split <;> rfl
      · rfl
    simp [Timescale.schedule, h.1, same, h.2]

theorem ownBoundary_lostSteps (order : List BoundaryTask) {s : State} (lost : s.tsg.osc = .lost) :
    (ownBoundary order s).tsg.freqSteps = 0 := by
  refine ((lostSteps_walk.engineKept.tasks (T := fun _ => True) (latch := fun _ v hv => ?_)).ownBoundary
    (order := order) (s := s) (fun _ => trivial) trivial ?_).2
  · simpa [Machine.latch, Timescale.schedule, hv.1] using hv.2
  · have reached : (reachBoundary s).tsg.osc = .lost ∧ (reachBoundary s).tsg.freqSteps = 0 := by
      rw [reachBoundary_of_lost lost]
      exact ⟨by simpa [Timescale.reachLost] using lost, rfl⟩
    obtain e | ⟨r, -, e⟩ := commitDue_cases (boundaryOutputs (reachBoundary s)) <;>
      simp [openBoundary, e, Timescale.schedule, reached]

/-- M_eff and S_eff by the power state (R63, R65). -/
theorem State.markEff_eq (s : State) : (s.pwr.state = .load → s.markEff = none ∧ s.statusEff = none) ∧
    (s.pwr.state = .runNormal → s.markEff = some s.cfg.markInterval ∧ s.statusEff = some s.cfg.statusInterval) ∧
    (s.pwr.state = .runSave →
      s.markEff = some (if s.cfg.markInterval = 1 then 4 else if s.cfg.markInterval = 2 then 8 else 16) ∧
      s.statusEff = some (min 240 (4 * s.cfg.statusInterval))) := by
  refine ⟨fun h => ?_, fun h => ?_, fun h => ?_⟩ <;> simp only [State.markEff, State.statusEff, h, and_true]
  split <;> simp_all

/-- A MARK that falls due is queued where it may be sent (R63). -/
theorem markFallsDue_of_due {s : State} {d : Instant} (due : s.bus.markDue = some d) : markFallsDue s =
    if s.pwr.state ≠ .load ∧ ¬s.silent ∧ ¬s.bus.listenOnly then (s.at d).withBus { s.bus with
      markDue := none, mark := some ⟨s.bus.sequence, d + 300000000⟩, sequence := s.bus.sequence + 1 }
    else (s.at d).withBus { s.bus with markDue := none } := by
  unfold markFallsDue
  simp only [due]
  rfl

theorem statusFallsDue_of_due {s : State} (due : s.bus.statusDue = true) : statusFallsDue s = offerStatus
    ((s.at (min (s.tsg.lastBoundary + 600000000) s.tsg.nextBoundary)).withBus { s.bus with statusDue := false }) :=
  if_pos due

/-- With no attempt open both parts are offered at once (R65, R159). -/
theorem offerStatus_of_no_attempt {s : State} (listens : s.bus.listenOnly = false) (idle : s.bus.attempt = none) :
    offerStatus s = s.withBus { s.bus with status0 := some (statusPart0 s), status1 := some (statusPart1 s) } := by
  simp [offerStatus, listens, Bus.attempting, idle]

end Sys2Proof.Machine

open Sys2Proof Sys2Proof.Machine

/-- Settles O19. -/
theorem scheduledOutputs : Obligations.ScheduledOutputs := by
  refine ⟨fun s order ready => ?_, fun x => ⟨fun t _ => x.freqLevel_iff t, Timescale.freqLevel_boundary,
      fun t => Timescale.freqRises_iff, Timescale.freqMadeBy_spread, x.schedule_freqMadeBy⟩, fun s => ?_,
    fun s d ready due loaded heard listens => ?_, fun s d ready due out => ?_, fun s ready due listens idle => ?_,
    fun s ready pps => ?_⟩
  · intro k
    obtain ⟨mark, status⟩ := ownBoundary_due order s
    obtain ⟨now, start, made⟩ := ownBoundary_atStart order s
    obtain ⟨load, normal, save⟩ := (openBoundary s).markEff_eq
    have opened := openBoundary_opened s
    have last : (openBoundary s).tsg.lastBoundary = (ownBoundary order s).tsg.lastBoundary := by
      rw [(ownBoundary_clock order s).2.2.2.1]
      simp [openBoundary]
    rw [opened.pwr, opened.cfg] at *
    refine ⟨ownBoundary order s, event_of_ready _ ready, ownBoundary_busOff order s, ownBoundary_offers order s,
      fun h => ?_, fun m n h => ?_, made, start, fun osc => ?_, ownBoundary_lostSteps order⟩
    · rw [mark, status, (load h).1, (load h).2]
      exact ⟨rfl, rfl⟩
    · have eff : (openBoundary s).markEff = some m ∧ (openBoundary s).statusEff = some n := by
        obtain ⟨h, rfl, rfl⟩ | ⟨h, rfl, rfl⟩ := h
        · exact normal h
        · exact save h
      rw [mark, status, eff.1, eff.2, State.markTime, opened.pwr, last, State.isMultiple, State.isMultiple, opened.second]
      simp [k]
    · rw [ownBoundary_freqCycle, reachBoundary_of_present osc, State.withTsg_tsg, Timescale.reach_freqCycle]
  · intro engine cls reference power cause active bins
    have engine_ : (engineCode s.eng.state).toNat = engine := by cases h : s.eng.state <;> simp [engine, h, engineCode]
    have cls_ : (statusClassCode s.cls).toNat = cls := by
      cases h : s.eng.state <;> simp [cls, h, State.cls, classOf, statusClassCode, classCode]
    have reference_ : (qualCode s.mon.qual).toNat = reference := by
      cases h : s.mon.qual <;> simp [reference, h, qualCode]
    have power_ : (powerCode s.pwr.state).toNat = power := by cases h : s.pwr.state <;> simp [power, h, powerCode]
    have cause_ : (causeCode s.scu.cause).toNat = cause := by cases h : s.scu.cause <;> simp [cause, h, causeCode]
    have active_ : s.ptu.activeCount = active := by
      refine List.countP_congr fun e _ => ?_
      cases e <;> simp
    rw [statusPart0_toNat, statusPart1_toNat, engine_, cls_, reference_, power_, cause_, active_]
    refine ⟨rfl, ?_⟩
    cases s.eng.lastC with
    | none => rfl
    | some c =>
      rw [Option.elim_some, clampAbs_eq (by decide)]
      rfl
  · show execMarkDue s = _
    rw [execMarkDue, event_of_ready _ ready]
    rw [markFallsDue_of_due due, if_pos ⟨loaded, by simp [heard], by simp [listens]⟩]
  · show execMarkDue s = _
    rw [execMarkDue, event_of_ready _ ready, markFallsDue_of_due due, if_neg]
    rintro ⟨loaded, heard, listens⟩
    obtain h | h | h := out
    · exact loaded h
    · exact heard h
    · exact listens h
  · show execStatusPeriodicOffer s = _
    rw [execStatusPeriodicOffer, event_of_ready _ ready, statusFallsDue_of_due due,
      offerStatus_of_no_attempt (by exact listens) (by exact idle)]
    rfl
  · show execPpsPulseEnd s = _
    rw [execPpsPulseEnd, event_of_ready _ ready, if_pos pps, endPulse]
    cases h : s.cfg.auxMode <;> simp [h, State.at]

end

section
/-! PROOF. The boundary with OSC_IN present (R2, R3, R5, R13, R14, R16).
-/

namespace Sys2Proof.Machine

/-! ### A boundary that reaches no steering limit -/

/-- What inputs and selections keep, the tasks but the engine's keep while the counter stays below the limit. -/
theorem InputCourse.tasks {P : State → Prop} (w : InputCourse P) {n : Nat} (hn : n ≤ 599)
    (ptu : ∀ (p : PeerUnit) (s : State), s.ptu.Moves s.pwr.address p → P s → P (s.withPtu p) := by simp +contextual)
    (latch : ∀ s, P s → P (latch s) := by simp +contextual)
    (learning : ∀ s, P s → P (learningBoundary s) := by simp +contextual)
    (bus : ∀ s, P s → P (busBoundary s) := by simp +contextual) :
    TaskKept (· ≠ .engine) fun v => P v ∧ v.eng.SteerWithin n ∧ v.tsg.osc = .present := by
  have due := w.dueKept ptu
  have walk := (steerWithin_walk n).dueKept
  exact {
    raise := fun f s h => ⟨due.raise f s h.1, walk.raise f s h.2.1, by simpa using h.2.2⟩
    enterQual := fun q s h => ⟨due.enterQual q s h.1, walk.enterQual q s h.2.1, by simpa using h.2.2⟩
    takeObservation := fun _ y s h =>
      ⟨due.takeObservation trivial y s h.1, walk.takeObservation trivial y s h.2.1, by simpa using h.2.2⟩
    takePoint := fun _ s h => ⟨due.takePoint trivial s h.1, walk.takePoint trivial s h.2.1, by simpa using h.2.2⟩
    mon := fun m s hm h => ⟨due.mon m s hm h.1, h.2⟩
    ptu := fun p s hp h => ⟨ptu p s hp h.1, h.2⟩
    steer := fun s steer h => by
      have below : s.steerDue = false := (steerDue_iff s).mpr fun hs => Nat.le_trans (h.2.1 hs) hn
      simp [below] at steer
    loss := fun _ s lost h => by simp [h.2.2] at lost
    latch := fun _ s h => ⟨latch s h.1, by simpa using h.2.1, by simpa using h.2.2⟩
    engineBoundary := fun h => absurd rfl h
    learningBoundary := fun _ s h => ⟨learning s h.1, by simpa using h.2.1, by simpa using h.2.2⟩
    busBoundary := fun _ s h => ⟨bus s h.1, by simpa using h.2.1, by simpa using h.2.2⟩ }

theorem InputCourse.ownBoundary {P : State → Prop} (w : InputCourse P) {order : List BoundaryTask} {s : State}
    (osc : s.tsg.osc = .present) (count : s.eng.steerCount < 599) (start : P (openBoundary s))
    (ptu : ∀ (p : PeerUnit) (s : State), s.ptu.Moves s.pwr.address p → P s → P (s.withPtu p) := by simp +contextual)
    (latch : ∀ s, P s → P (latch s) := by simp +contextual)
    (learning : ∀ s, P s → P (learningBoundary s) := by simp +contextual)
    (bus : ∀ s, P s → P (busBoundary s) := by simp +contextual) :
    P (ownBoundary order s) := by
  have before := w.tasks (n := 598) (by decide) ptu latch learning bus
  have after := w.tasks (n := 599) (by decide) ptu latch learning bus
  refine (ownBoundary_once .engine
    (fun t ht => before.runTask trivial _ ht) (fun v h => ?_) (fun t ht => after.runTask trivial _ ht)
    ⟨start, fun _ => by simpa using Nat.le_of_lt_succ count, by rw [openBoundary_osc, osc]; rfl⟩).1
  obtain ⟨kept, within, present⟩ := h
  refine ⟨w.engineBoundary v kept, fun tracks => ?_, by simpa using present⟩
  have tracked : v.eng.state = .locked ∨ v.eng.state = .follow := by
    simpa using engineBoundary_state v ▸ tracks
  have few := within tracked
  show (Machine.engineBoundary v).eng.steerCount ≤ 599
  rw [engineBoundary_steerCount]
  (repeat' split) <;> omega

/-! ### The slot at the boundary (R13, R14) -/

/-- A commitment that ends its record: a step, the last portion of a slew, or one that has no record (R13). -/
def Timescale.isLast (x : Timescale) (c : Committed) : Bool :=
  c.detached || decide (c.kind = .step) || decide ((x.slot.elim 0 fun r => r.remaining - c.amount) = 0)

theorem Timescale.applyCommitted_eq (x : Timescale) (c : Committed) : x.applyCommitted c = { x with
    trim := if c.origin = .command then clampAbs 1000000 (x.trim + c.amount) else x.trim
    stepCount := if c.kind = .step then x.stepCount + 1
      else x.stepCount + (if c.first then 1 else 0) + (if x.isLast c then 1 else 0)
    slewing := if c.kind = .step then x.slewing else !x.isLast c
    slot := if c.detached then x.slot else if x.isLast c then none
      else x.slot.map fun r => { r with remaining := r.remaining - c.amount, started := true }
    committed := none
    freqCycle := if 0 < c.amount then .cutShort c.amount else if c.amount < 0 then .stretched (-c.amount) else .whole
    } := by
  unfold applyCommitted isLast
  cases x.slot <;> cases c.kind <;> rfl

theorem Timescale.reach_of_none {x : Timescale} (h : x.committed = none) : x.reach.slot = x.slot ∧
    x.reach.committed = none ∧ x.reach.stepCount = x.stepCount ∧ x.reach.slewing = x.slewing ∧
    x.reach.trim = x.trim := by
  simp [reach, h]

theorem Timescale.reach_of_some {x : Timescale} {c : Committed} (h : x.committed = some c) :
    x.reach.committed = none ∧
    x.reach.trim = (if c.origin = .command then clampAbs 1000000 (x.trim + c.amount) else x.trim) ∧
    (c.kind = .step → x.reach.stepCount = x.stepCount + 1 ∧ x.reach.slewing = x.slewing) ∧
    (c.kind = .slew → x.reach.stepCount =
        x.stepCount + (if c.first then 1 else 0) + (if x.isLast c then 1 else 0) ∧ x.reach.slewing = !x.isLast c) ∧
    x.reach.slot = (if c.detached then x.slot else if x.isLast c then none
      else x.slot.map fun r => { r with remaining := r.remaining - c.amount, started := true }) := by
  have reached : ∃ y : Timescale, x.reach = y.applyCommitted c ∧ y.trim = x.trim ∧ y.stepCount = x.stepCount ∧
      y.slewing = x.slewing ∧ y.slot = x.slot := by
    simp only [reach, h]
    exact ⟨_, rfl, rfl, rfl, rfl, rfl⟩
  obtain ⟨y, e, trim, count, slewing, slot⟩ := reached
  have last : y.isLast c = x.isLast c := by rw [isLast, isLast, slot]
  rw [e, applyCommitted_eq, last, trim, count, slewing, slot]
  exact ⟨rfl, rfl, fun hk => by simp [hk], fun hk => by simp [hk], rfl⟩

/-- What the slot commits to the next boundary (R13, step (5) of section 1.2). -/
theorem commitDue_slot {s : State} (free : s.tsg.committed = none) : (commitDue s).tsg.slot = s.tsg.slot ∧
    (commitDue s).tsg.stepCount = s.tsg.stepCount ∧ (commitDue s).tsg.slewing = s.tsg.slewing ∧
    (commitDue s).tsg.committed = s.tsg.slot.elim none fun r =>
      if r.started ∨ r.due = secondAfter s.second 1 then some (commitmentOf r s.cfg.slewRate) else none := by
  unfold commitDue
  dsimp only
  split
  · next r hr =>
    split
    · next due => exact ⟨rfl, rfl, rfl, by simp [hr, due]⟩
    · next due => exact ⟨rfl, rfl, rfl, by simp [hr, due, free]⟩
  · next hn => exact ⟨rfl, rfl, rfl, by simp [hn, free]⟩

section
variable {s : State} (osc : s.tsg.osc = .present)
include osc

/-- The slot after the boundary is reached (R13, R14). -/
theorem openBoundary_slot : (openBoundary s).tsg.slot = s.tsg.reach.slot ∧
    (openBoundary s).tsg.stepCount = s.tsg.reach.stepCount ∧ (openBoundary s).tsg.slewing = s.tsg.reach.slewing ∧
    (openBoundary s).tsg.committed = s.tsg.reach.slot.elim none fun r =>
      if r.started ∨ r.due = ((s.tsg.boundaryIndex + 1) % 4294967296 + 1) % 4294967296 then
        some (commitmentOf r s.cfg.slewRate) else none := by
  have free : s.tsg.reach.committed = none := by
    cases h : s.tsg.committed with
    | none => exact (Timescale.reach_of_none h).2.1
    | some c => exact (Timescale.reach_of_some h).1
  have tsg : (boundaryOutputs (reachBoundary s)).tsg.committed = none := by
    simpa [reachBoundary_of_present osc] using free
  have second : (boundaryOutputs (reachBoundary s)).second = (s.tsg.boundaryIndex + 1) % 4294967296 := by
    simp [State.second, reachBoundary_index, Config.secondModulus]
  obtain ⟨slot, count, slewing, committed⟩ := commitDue_slot tsg
  obtain ⟨slot', committed', count', -⟩ := Timescale.schedule_slot (commitDue (boundaryOutputs (reachBoundary s))).tsg
  have slewing' : (openBoundary s).tsg.slewing = (commitDue (boundaryOutputs (reachBoundary s))).tsg.slewing := by
    simp [openBoundary]
  have reached : (boundaryOutputs (reachBoundary s)).tsg.slot = s.tsg.reach.slot ∧
      (boundaryOutputs (reachBoundary s)).tsg.stepCount = s.tsg.reach.stepCount ∧
      (boundaryOutputs (reachBoundary s)).tsg.slewing = s.tsg.reach.slewing ∧
      (boundaryOutputs (reachBoundary s)).cfg = s.cfg := by
    rw [reachBoundary_of_present osc]
    exact ⟨rfl, rfl, rfl, rfl⟩
  rw [reached.1, second, reached.2.2.2] at committed
  exact ⟨slot'.trans (slot.trans reached.1), count'.trans (count.trans reached.2.1),
    slewing'.trans (slewing.trans reached.2.2.1), committed'.trans committed⟩

end

/-! ### What the tasks leave of it -/

@[simp] theorem latch_slot (s : State) : (latch s).tsg.slot = s.tsg.slot ∧
    (latch s).tsg.committed = s.tsg.committed ∧ (latch s).tsg.stepCount = s.tsg.stepCount ∧
    (latch s).tsg.slewing = s.tsg.slewing := by
  obtain ⟨slot, committed, count, -⟩ := Timescale.schedule_slot { s.tsg with fInForce := s.tsg.fSet }
  exact ⟨slot, committed, count, by simp [latch]⟩

/-- A record in the slot stands, with its commitment, for no step is requested over it (R11). -/
theorem heldSlot_course (r : AdjustRecord) (c : Option Committed) :
    InputCourse fun v => v.tsg.slot = some r ∧ v.tsg.committed = c :=
  InputWalk.course {
    requestStep := fun y s _ h => by
      obtain e | ⟨free, -⟩ := requestStep_cases y s
      · rwa [e]
      · simp [h.1] at free }

/-- A request leaves the step count and the slewing flag (R14). -/
theorem counts_course (n : BitVec 2) (b : Bool) : InputCourse fun v => v.tsg.stepCount = n ∧ v.tsg.slewing = b :=
  InputWalk.course {
    requestStep := fun y s _ h => by
      obtain e | ⟨-, ⟨d, -, e⟩ | ⟨d, e⟩⟩ := requestStep_cases y s <;> rw [e]
      · exact h
      · simpa [takeCommitted] using h
      · exact h }

/-- Only an engine step takes an empty slot (R11). -/
theorem freeSlot_course : InputCourse fun v =>
    v.tsg.slot = none ∨ ∃ q, v.tsg.slot = some q ∧ q.origin = .engine ∧ q.kind = .step :=
  InputWalk.course {
    requestStep := fun y s _ h => by
      obtain e | ⟨-, ⟨d, -, e⟩ | ⟨d, e⟩⟩ := requestStep_cases y s <;> rw [e]
      · exact h
      · exact .inr ⟨_, by simp [takeCommitted]; rfl, rfl, rfl⟩
      · exact .inr ⟨_, rfl, rfl, rfl⟩ }

/-! ### The outputs of an unmuted part (R5, R8) -/

/-- PPS_OUT and FREQ_OUT run and no cause mutes them, where an exhausted holdover does not (R8, R134). -/
structure State.Running (s : State) : Prop where
  pps : s.tsg.ppsOut = true
  outputs : s.tsg.outputsRunning = true
  heard : s.muteCause = false
  unlimited : s.cfg.muteOnExhaustion = false

theorem muteCause_eq_false_iff (s : State) : s.muteCause = false ↔ s.pwr.state ≠ .load ∧ s.eng.state ≠ .warmup ∧
    s.eng.state ≠ .fault ∧ s.eng.exhaustionOrder = false := by
  simp [State.muteCause, and_assoc]

theorem State.Running.congr {s t : State} (h : s.Running) (pps : t.tsg.ppsOut = s.tsg.ppsOut)
    (outputs : t.tsg.outputsRunning = s.tsg.outputsRunning) (pwr : t.pwr = s.pwr) (cfg : t.cfg = s.cfg)
    (state : t.eng.state ≠ .warmup ∧ t.eng.state ≠ .fault) (order : t.eng.exhaustionOrder = false) : t.Running := by
  obtain ⟨load, -⟩ := (muteCause_eq_false_iff s).mp h.heard
  exact ⟨pps.trans h.pps, outputs.trans h.outputs,
    (muteCause_eq_false_iff t).mpr ⟨pwr ▸ load, state.1, state.2, order⟩, cfg ▸ h.unlimited⟩

theorem State.Running.state {s : State} (h : s.Running) :
    (s.eng.state ≠ .warmup ∧ s.eng.state ≠ .fault) ∧ s.eng.exhaustionOrder = false := by
  obtain ⟨-, warm, fault, order⟩ := (muteCause_eq_false_iff s).mp h.heard
  exact ⟨⟨warm, fault⟩, order⟩

theorem announce_running (old : EngineState) {s : State} (h : s.Running) : (announce old s).Running := by
  have same : (announce old s).tsg.ppsOut = s.tsg.ppsOut ∧
      (announce old s).tsg.outputsRunning = s.tsg.outputsRunning := by
    rw [announce_tsg]
    simp [refreshOutputs, h.heard]
  exact h.congr same.1 same.2 (by simp) (by simp) (by simpa using h.state.1) (by simpa using h.state.2)

theorem exhaustionTest_running {s : State} (h : s.Running) : (exhaustionTest s).Running := by
  unfold exhaustionTest
  split
  · dsimp only
    rw [if_neg (by simp [h.unlimited])]
    exact h.congr (by simp) (by simp) (by simp) (by simp) (by simpa using h.state.1) (by simpa using h.state.2)
  · exact h

theorem running_course : InputCourse State.Running where
  eng e s stays h := h.congr rfl rfl rfl rfl (stays.state ▸ h.state.1) (stays.order ▸ h.state.2)
  mon m s _ h := h.congr rfl rfl rfl rfl h.state.1 h.state.2
  setF f s _ h := h.congr rfl rfl rfl rfl h.state.1 h.state.2
  raise f s h := h.congr (by simp) (by simp) (by simp) (by simp) (by simpa using h.state.1) (by simpa using h.state.2)
  offerStatus s h :=
    h.congr (by simp) (by simp) (by simp) (by simp) (by simpa using h.state.1) (by simpa using h.state.2)
  requestStep y s _ h :=
    h.congr (by simp) (by simp) (by simp) (by simp) (by simpa using h.state.1) (by simpa using h.state.2)
  learnOffer v s _ h :=
    h.congr (by simp) (by simp) (by simp) (by simp) (by simpa using h.state.1) (by simpa using h.state.2)
  exhaustionTest _ := exhaustionTest_running
  enterState st src f hst hf s h := by
    have entered : (s.withEng (s.eng.entering st src)).Running :=
      h.congr rfl rfl rfl rfl hst (by simp [Engine.entering, h.state.2])
    have acted := hf _ entered
    exact announce_running _ (exhaustionTest_running (acted.congr rfl rfl rfl rfl acted.state.1 acted.state.2))
  lockAchieved s h := by
    refine announce_running _ (h.congr rfl rfl rfl rfl ?_ h.state.2)
    show (if s.eng.source = some .reference then EngineState.locked else EngineState.follow) ≠ EngineState.warmup ∧
      (if s.eng.source = some .reference then EngineState.locked else EngineState.follow) ≠ EngineState.fault
    (repeat' split) <;> decide

/-- No task starts the outputs (R5). -/
theorem silentOutputs_tasks :
    TaskKept (fun _ => True) fun v => v.tsg.ppsOut = false ∧ v.tsg.outputsRunning = false :=
  Walk.engineKept {
    refresh := fun s h => by simp [refreshOutputs, h.1, h.2] } |>.tasks

/-- Only the latch moves the F in force (R3). -/
theorem fInForce_tasks (f : Int) : TaskKept (· ≠ .latch) (fun v => v.tsg.fInForce = f) where
  latch h := absurd rfl h

/-! ### The boundary -/

section
variable {s : State} (order : List BoundaryTask) (osc : s.tsg.osc = .present)
include osc

omit osc in
theorem ownBoundary_latched (head : order.head? = some .latch) :
    (Machine.ownBoundary order s).tsg.fInForce = s.tsg.fSet :=
  ownBoundary_head (P := fun v => v.tsg.fInForce = s.tsg.fSet) head
    (by simpa [runTask, latch] using (openBoundary_steering s).1)
    fun _ hk v => (fInForce_tasks s.tsg.fSet).runTask trivial _ hk v

theorem ownBoundary_trim :
    (∀ c, s.tsg.committed = some c → c.origin = .command →
      (Machine.ownBoundary order s).tsg.trim = clampAbs 1000000 (s.tsg.trim + c.amount)) ∧
    (s.tsg.committed = none ∨ (∃ c, s.tsg.committed = some c ∧ c.origin = .engine) →
      (Machine.ownBoundary order s).tsg.trim = s.tsg.trim) := by
  have trim : (Machine.ownBoundary order s).tsg.trim = s.tsg.reach.trim := by
    rw [(ownBoundary_clock order s).2.2.1, reachBoundary_of_present osc, State.withTsg_tsg]
  rw [trim]
  refine ⟨fun c hc ho => ?_, fun h => ?_⟩
  · rw [(Timescale.reach_of_some hc).2.1, if_pos ho]
  · obtain h | ⟨c, hc, ho⟩ := h
    · exact (Timescale.reach_of_none h).2.2.2.2
    · rw [(Timescale.reach_of_some hc).2.1, if_neg (by simp [ho])]

/-- An occupied slot, with what it commits, where no steering limit is reached (R13). -/
theorem ownBoundary_heldSlot (few : s.eng.steerCount < 599) {r : AdjustRecord} (slot : s.tsg.reach.slot = some r) :
    (Machine.ownBoundary order s).tsg.slot = some r ∧ (Machine.ownBoundary order s).tsg.committed =
      if r.started ∨ r.due = ((s.tsg.boundaryIndex + 1) % 4294967296 + 1) % 4294967296 then
        some (commitmentOf r s.cfg.slewRate) else none := by
  obtain ⟨slot', -, -, committed⟩ := openBoundary_slot osc
  rw [slot] at slot' committed
  exact (heldSlot_course r _).ownBoundary osc few ⟨slot', committed⟩

theorem ownBoundary_counts (few : s.eng.steerCount < 599) :
    (Machine.ownBoundary order s).tsg.stepCount = s.tsg.reach.stepCount ∧
    (Machine.ownBoundary order s).tsg.slewing = s.tsg.reach.slewing := by
  obtain ⟨-, count, slewing, -⟩ := openBoundary_slot osc
  exact (counts_course _ _).ownBoundary osc few ⟨count, slewing⟩

theorem ownBoundary_freeSlot (few : s.eng.steerCount < 599) (slot : s.tsg.reach.slot = none) :
    (Machine.ownBoundary order s).tsg.slot = none ∨
    ∃ q, (Machine.ownBoundary order s).tsg.slot = some q ∧ q.origin = .engine ∧ q.kind = .step :=
  freeSlot_course.ownBoundary osc few (.inl ((openBoundary_slot osc).1.trans slot))

theorem openBoundary_outputs : (openBoundary s).tsg.ppsOut = !s.muteCause ∧
    (openBoundary s).tsg.outputsRunning = !s.muteCause ∧ (openBoundary s).eng = s.eng := by
  have mute : (reachBoundary s).muteCause = s.muteCause := by
    rw [reachBoundary_of_present osc]
    rfl
  simp [openBoundary, boundaryOutputs, mute]

theorem ownBoundary_muted (mute : s.muteCause = true) : (Machine.ownBoundary order s).tsg.ppsOut = false ∧
    (Machine.ownBoundary order s).tsg.outputsRunning = false := by
  obtain ⟨pps, outputs, -⟩ := openBoundary_outputs osc
  exact silentOutputs_tasks.ownBoundary (fun _ => trivial) trivial ⟨by simp [pps, mute], by simp [outputs, mute]⟩

theorem ownBoundary_running (heard : s.muteCause = false) (unlimited : s.cfg.muteOnExhaustion = false)
    (few : s.eng.steerCount < 599) : (Machine.ownBoundary order s).tsg.ppsOut = true ∧
    (Machine.ownBoundary order s).tsg.outputsRunning = true := by
  obtain ⟨pps, outputs, eng⟩ := openBoundary_outputs osc
  have opened := openBoundary_opened s
  have mute : (openBoundary s).muteCause = s.muteCause := by
    simp only [State.muteCause, eng, opened.pwr]
  have kept := fun (v : State) (h : v.Running) => h.congr (t := busBoundary v) (by simp) (by simp) (by simp) (by simp)
    (by simpa using h.state.1) (by simpa using h.state.2)
  have running := running_course.ownBoundary (order := order) osc few
    ⟨by simp [pps, heard], by simp [outputs, heard], mute.trans heard, by rw [opened.cfg, unlimited]⟩
    (fun p v _ h => h.congr rfl rfl rfl rfl h.state.1 h.state.2)
    (fun v h => h.congr (by simp) (by simp) (by simp) (by simp) (by simpa using h.state.1) (by simpa using h.state.2))
    (fun v h => h.congr (by simp) (by simp) (by simp) (by simp) (by simpa using h.state.1) (by simpa using h.state.2))
    kept
  exact ⟨running.pps, running.outputs⟩

theorem notice_of_present : s.tsg.notice.map (·.amount) = s.tsg.committed.map (·.amount) := by
  rw [Timescale.notice, if_pos osc]

/-- The notice of the applied amount shifts the marks captured before the boundary (R84). -/
theorem ownBoundary_marks (a : Fin 16) : (Machine.ownBoundary order s).ptu.marks[a] = s.ptu.marks[a].map fun m =>
    let d := secondsSince ((s.tsg.boundaryIndex + 1) % 4294967296) m.rxSecond
    { m with correction := if 1 ≤ d ∧ d ≤ 2147483647 then m.correction - s.tsg.committedAmount else m.correction } := by
  obtain ⟨-, -, -, -, marks, -⟩ := (ownBoundary_passed order s).table
  have entry := congrArg (·[a]) marks
  rw [notice_of_present osc] at entry
  refine entry.trans ?_
  simp only [PeerUnit.noticed, Fin.getElem_fin, Vector.getElem_map, Timescale.committedAmount]
  refine Option.map_congr fun m _ => ?_
  cases s.tsg.committed with
  | none => simp [PendingMark.noticed]
  | some c =>
    simp only [PendingMark.noticed, Option.map_some, Option.elim_some, PendingMark.shifted]
    (repeat' split) <;> rfl

/-- The notice shifts the filtered leads (R85). -/
theorem ownBoundary_peer {a : Fin 16} {e : PeerEntry} (he : s.ptu.peers[a] = some e) :
    ∃ f, (Machine.ownBoundary order s).ptu.peers[a] = some f ∧ f.state = e.state ∧ f.window = e.window ∧
      f.lastHeard = e.lastHeard ∧ (s.tsg.committed = none → f.lf16 = e.lf16) ∧
      (s.tsg.committed ≠ none →
        f.lf16 = e.lf16.map fun v => fold 16000000000 (v - 16 * s.tsg.committedAmount)) := by
  obtain ⟨f, hf, late, counted⟩ := (ownBoundary_passed order s).entry he
  rw [notice_of_present osc] at late counted
  generalize noticed : e.noticed (s.tsg.committed.map (·.amount)) = g at late counted
  have same : f.state = g.state ∧ f.window = g.window ∧ f.lastHeard = g.lastHeard ∧ f.lf16 = g.lf16 := by
    by_cases h : ∃ a e, s.ptu.peers[(a : Fin 16)] = some e ∧
        50 ≤ secondsSince ((s.tsg.boundaryIndex + 1) % 4294967296) e.lastHeard
    · simp [late h]
    · simp [counted h]
  obtain ⟨state, window, heard, lead⟩ := same
  refine ⟨f, hf, ?_⟩
  rw [state, window, heard, lead, ← noticed]
  refine ⟨by simp, by simp, by simp, fun free => by simp [free, PeerEntry.noticed], fun taken => ?_⟩
  obtain ⟨c, hc⟩ := Option.ne_none_iff_exists'.mp taken
  simp [hc, PeerEntry.noticed, PeerEntry.shifted, Timescale.committedAmount, period16]

end

end Sys2Proof.Machine

open Sys2Proof Sys2Proof.Machine

/-- Settles O10. -/
theorem boundaryReached : Obligations.BoundaryReached := by
  intro s order ready osc
  refine ⟨ownBoundary order s, event_of_ready _ ready, ?_⟩
  obtain ⟨-, phi, -, last, osc'⟩ := ownBoundary_clock order s
  rw [reachBoundary_of_present osc, State.withTsg_tsg] at phi last osc'
  obtain ⟨-, -, phi', last', osc'', -⟩ := s.tsg.reach_clock
  have index := ownBoundary_index order s
  have second : (ownBoundary order s).second = (s.tsg.boundaryIndex + 1) % 4294967296 := by
    rw [State.second, index, Config.secondModulus]
  obtain ⟨commanded, uncommanded⟩ := ownBoundary_trim order osc
  refine ⟨index, second, phi.trans phi', last.trans last', osc'.trans (osc''.trans osc), commanded, uncommanded,
    ownBoundary_latched order, fun few => ?_, ownBoundary_muted order osc, ownBoundary_running order osc,
    fun a => ?_, by simp⟩
  · obtain ⟨count, slewing⟩ := ownBoundary_counts order osc few
    have held := fun r => ownBoundary_heldSlot order osc few (r := r)
    rw [second, count, slewing]
    refine ⟨fun free => ?_, fun c hc step => ?_, fun c r hc attached hr slew more => ?_, fun c hc slew last => ?_,
      fun c r hc detached hr => ?_, fun c r hc attached hr last => ?_⟩
    · obtain ⟨slot, -, count', slewing', -⟩ := Timescale.reach_of_none free
      exact ⟨count', slewing', fun r hr => held r (slot.trans hr)⟩
    · exact (Timescale.reach_of_some hc).2.2.1 step
    · obtain ⟨-, -, -, counts, slot⟩ := Timescale.reach_of_some hc
      have last : s.tsg.isLast c = false := by
        simp [Timescale.isLast, attached, slew, hr, Int.sub_eq_zero, more]
      obtain ⟨slot', committed⟩ := held _ (by rw [slot, attached, last, hr]; rfl)
      obtain ⟨count', slewing'⟩ := counts slew
      exact ⟨by simp [count', last], by simp [slewing', last], slot', by simpa [commitmentOf] using committed⟩
    · have isLast : s.tsg.isLast c = true := by
        obtain h | ⟨r, hr, h⟩ := last <;> simp [Timescale.isLast, *]
      obtain ⟨count', slewing'⟩ := (Timescale.reach_of_some hc).2.2.2.1 slew
      rw [count', slewing', isLast]
      cases c.first <;> simp [BitVec.add_assoc]
    · exact (held r (by rw [(Timescale.reach_of_some hc).2.2.2.2, detached, hr]; rfl)).1
    · have isLast : s.tsg.isLast c = true := by
        obtain h | h := last <;> simp [Timescale.isLast, hr, h]
      exact ownBoundary_freeSlot order osc few
        (by rw [(Timescale.reach_of_some hc).2.2.2.2, attached, isLast]; rfl)
  · have marks := ownBoundary_marks order osc a
    rw [second]
    exact ⟨fun m hm => by rw [marks, hm]; rfl, fun hm => by rw [marks, hm]; rfl,
      fun e he => ownBoundary_peer order osc he⟩
end

section
/-! PROOF. Inputs of the engine: observations, consensus and points (R97, R98, R109 to R117, R125 to R131).
-/

namespace Sys2Proof.Machine

/-! ### The loop update (R111) -/

/-- The integral after a loop update (R111). -/
def Engine.integralAfter (e : Engine) (y : Int) (period tau : Nat) : Int :=
  clampAbs 2000000000000 (e.integral + roundDiv (1000000000 * y * period) (tau * tau))

/-- The record after a loop update (R111). -/
def Engine.updated (e : Engine) (y : Int) (period tau : Nat) : Engine :=
  { e with integral := e.integralAfter y period tau, pt := roundDiv (2000 * y) tau }

/-- The F that a loop update sets (R111). -/
def Engine.steeredF (e : Engine) (y : Int) (period tau : Nat) : Int :=
  clampAbs 2000000 (roundDiv (e.integralAfter y period tau) 1000000 + roundDiv (2000 * y) tau)

theorem loopUpdate_updated (y : Int) (period tau : Nat) (s : State) :
    (loopUpdate y period tau s).eng = s.eng.updated y period tau ∧
    (loopUpdate y period tau s).tsg = { s.tsg with fSet := s.eng.steeredF y period tau } := by
  simp [loopUpdate, Engine.updated, Engine.steeredF, Engine.integralAfter, setF, Config.limitI, Config.limitF]

theorem learningAllowed_of_not_fresh {s : State} (h : s.lrn.sampling ≠ .fresh) : s.learningAllowed = false := by
  simp [State.learningAllowed, h]

/-- A loop update files a value in the table alone (R144). -/
theorem loopUpdate_aging (y : Int) (period tau : Nat) (s : State) :
    (loopUpdate y period tau s).lrn.aging = s.lrn.aging := by
  obtain ⟨v, u, e, lrn, -⟩ := loopUpdate_offers y period tau s
  rw [e, ← lrn]
  obtain e | ⟨-, b, -, e⟩ := learnOffer_cases v u <;> rw [e]
  rfl

/-! ### The engine step (R11) -/

theorem requestStep_withEng (y : Int) (e : Engine) (s : State) :
    requestStep y (s.withEng e) = (requestStep y s).withEng e := by
  unfold requestStep
  dsimp only [State.withEng_tsg]
  split
  · rfl
  · split <;> rfl

theorem requestStep_occupied {y : Int} {s : State} {r : AdjustRecord} (h : s.tsg.slot = some r) :
    requestStep y s = s := by
  simp [requestStep, h]

theorem requestStep_soon {y : Int} {s : State} (h : s.tsg.slot = none)
    (soon : s.tsg.committed = none ∧ s.tsg.now + 50000000 ≤ s.tsg.nextWith y) :
    (requestStep y s).tsg.slot = some ⟨.engine, .step, y, y, (s.tsg.boundaryIndex + 1) % 4294967296, false⟩ ∧
    (requestStep y s).tsg.committed = some ⟨y, .engine, .step, true, false⟩ ∧
    (requestStep y s).tsg.nextBoundary = s.tsg.nextWith y := by
  have due : secondAfter s.second 1 = (s.tsg.boundaryIndex + 1) % 4294967296 := by
    simp [secondAfter, State.second, Config.secondModulus]
  have taken : requestStep y s = takeCommitted ⟨.engine, .step, y, y, secondAfter s.second 1, false⟩ s := by
    simp only [requestStep, h, Config.guard, soon, and_self, if_true]
  obtain ⟨slot, committed, -, next⟩ := Timescale.schedule_slot { s.tsg with
    slot := some ⟨.engine, .step, y, y, secondAfter s.second 1, false⟩
    committed := some (commitmentOf ⟨.engine, .step, y, y, secondAfter s.second 1, false⟩ s.cfg.slewRate) }
  rw [taken, ← due]
  exact ⟨slot, committed, next⟩

theorem requestStep_later {y : Int} {s : State} (h : s.tsg.slot = none)
    (later : ¬(s.tsg.committed = none ∧ s.tsg.now + 50000000 ≤ s.tsg.nextWith y)) :
    (requestStep y s).tsg = { s.tsg with
      slot := some ⟨.engine, .step, y, y, (s.tsg.boundaryIndex + 2) % 4294967296, false⟩ } := by
  have due : secondAfter s.second 2 = (s.tsg.boundaryIndex + 2) % 4294967296 := by
    simp [secondAfter, State.second, Config.secondModulus]
  simp only [requestStep, h, Config.guard, later, if_false, due]
  rfl

/-- A step takes a free slot, and no other (R11). -/
theorem requestStep_slot (y : Int) (s : State) :
    (∀ r, s.tsg.slot = some r → (requestStep y s).tsg.slot = some r ∧
      (requestStep y s).tsg.committed = s.tsg.committed) ∧
    (s.tsg.slot = none → ∃ due, (requestStep y s).tsg.slot = some ⟨.engine, .step, y, y, due, false⟩) := by
  refine ⟨fun r hr => by simp [requestStep_occupied hr, hr], fun free => ?_⟩
  by_cases soon : s.tsg.committed = none ∧ s.tsg.now + 50000000 ≤ s.tsg.nextWith y
  · exact ⟨_, (requestStep_soon free soon).1⟩
  · exact ⟨_, by rw [requestStep_later free soon]⟩

/-! ### A change of engine state -/

/-- A change of class raises SOURCE_CHANGE (R103). -/
theorem announce_sourceChange {old : EngineState} {s : State} (h : classOf old ≠ s.cls) :
    hasFlag (announce old s).scu.raised .sourceChange = true := by
  have changed : classOf old ≠ (refreshOutputs s).cls := h
  unfold announce
  dsimp only
  rw [if_pos changed]
  (repeat' split) <;> simp [raise_raised]

@[simp] theorem announce_slot (old : EngineState) (s : State) : (announce old s).tsg.fSet = s.tsg.fSet ∧
    (announce old s).tsg.slot = s.tsg.slot ∧ (announce old s).tsg.committed = s.tsg.committed := by
  rw [announce_tsg]
  simp

theorem exhaustionTest_of_acquire {s : State} (h : s.eng.state = .acquire) : exhaustionTest s = s :=
  if_neg (by simp [h])

theorem uncertainty_of_acquire {s : State} (h : s.eng.state = .acquire) : s.uncertainty = 2097151 := by
  simp [State.uncertainty, h, Config.saturatedU]

/-- The record with which the engine comes back to ACQUIRE (R107, R116, R129, R135). -/
def Engine.returned (e : Engine) (src : Option Source) : Engine :=
  { e with
    state := .acquire, source := src, pt := 0, lockCount := 0, largeCount := 0, steerCount := 0, disagree := 0
    record := none, nudge := 0, lastPrediction := none, exhaustionOrder := false, u := 2097151 }

/-- The return to ACQUIRE of a third large input (R107, R116). -/
theorem returnToAcquire_of_tracking (src : Option Source) {s : State}
    (h : s.eng.state = .locked ∨ s.eng.state = .follow) :
    let t := enterState .acquire src setIntegralF s
    t.eng = s.eng.returned src ∧ t.tsg.fSet = roundDiv s.eng.integral 1000000 ∧ t.tsg.slot = s.tsg.slot ∧
    t.tsg.committed = s.tsg.committed ∧ hasFlag t.scu.raised .sourceChange = true ∧ t.lrn = s.lrn ∧ t.cfg = s.cfg := by
  have acquire : (recomputeU (setIntegralF (s.withEng (s.eng.entering .acquire src)))).eng.state = .acquire := rfl
  have u : (setIntegralF (s.withEng (s.eng.entering .acquire src))).uncertainty = 2097151 :=
    uncertainty_of_acquire rfl
  intro t
  have e : t = announce s.eng.state (recomputeU (setIntegralF (s.withEng (s.eng.entering .acquire src)))) := by
    rw [← exhaustionTest_of_acquire acquire]
    rfl
  have changed : classOf s.eng.state ≠
      (recomputeU (setIntegralF (s.withEng (s.eng.entering .acquire src)))).cls := by
    obtain h | h := h <;> rw [h, State.cls, acquire] <;> decide
  refine ⟨?_, ?_, ?_, ?_, e ▸ announce_sourceChange changed, enterState_lrn .., ?_⟩ <;> rw [e]
  · rw [(announce_keeps ..).2.2.1, recomputeU_eng, u]
    simp [Engine.entering, Engine.returned]
  · rw [(announce_slot ..).1]
    rfl
  · rw [(announce_slot ..).2.1]
    rfl
  · rw [(announce_slot ..).2.2]
    rfl
  · simp

/-! ### An input in ACQUIRE (R113, R115) -/

section
variable {y : Int} {s : State} (period : Nat)

theorem acquireInput_large (h : s.cfg.stepThreshold < y.natAbs) :
    acquireInput y period s = (requestStep y s).withEng { s.eng with lockCount := 0 } := by
  rw [acquireInput_of_large period h, requestStep_withEng]

theorem acquireInput_small (h : y.natAbs ≤ s.cfg.stepThreshold) (few : s.lockCountAfter y < 4) :
    (acquireInput y period s).eng = { s.eng.updated y period 64 with lockCount := s.lockCountAfter y } ∧
    (acquireInput y period s).tsg = { s.tsg with fSet := s.eng.steeredF y period 64 } ∧
    (acquireInput y period s).scu = s.scu := by
  obtain ⟨eng, tsg⟩ := loopUpdate_updated y period 64 s
  rw [acquireInput_of_small period h, if_neg (Nat.not_le.mpr few)]
  exact ⟨by rw [State.withEng_eng, eng], tsg, by simp⟩

/-- The fourth small input in a row brings LOCKED, or FOLLOW (R115). -/
theorem acquireInput_lock (h : y.natAbs ≤ s.cfg.stepThreshold) (many : 4 ≤ s.lockCountAfter y)
    (acquire : s.eng.state = .acquire) :
    (acquireInput y period s).eng = { (s.eng.updated y period 64).locked with
      u := (s.withEng (s.eng.updated y period 64).locked).uncertainty } ∧
    (acquireInput y period s).tsg.fSet = s.eng.steeredF y period 64 ∧
    (acquireInput y period s).tsg.slot = s.tsg.slot ∧
    hasFlag (acquireInput y period s).scu.raised .sourceChange = true := by
  obtain ⟨eng, tsg⟩ := loopUpdate_updated y period 64 s
  rw [acquireInput_of_small period h, if_pos many]
  refine ⟨?_, ?_, ?_, ?_⟩
  · rw [lockAchieved_eng, eng]
    have second : (loopUpdate y period 64 s).second = s.second := by simp [State.second]
    have cfg : (loopUpdate y period 64 s).cfg = s.cfg := by simp
    simp only [State.uncertainty, State.withEng_eng, State.withEng_cfg, cfg]
    rw [show ((loopUpdate y period 64 s).withEng (s.eng.updated y period 64).locked).second = s.second from second]
    rfl
  · rw [lockAchieved_eq, (announce_slot ..).1]
    show (loopUpdate y period 64 s).tsg.fSet = _
    rw [tsg]
  · rw [lockAchieved_eq, (announce_slot ..).2.1]
    show (loopUpdate y period 64 s).tsg.slot = s.tsg.slot
    rw [tsg]
  · rw [lockAchieved_eq]
    refine announce_sourceChange ?_
    have state : (loopUpdate y period 64 s).eng.state = .acquire := by simp [acquire]
    show classOf (loopUpdate y period 64 s).eng.state ≠
      classOf (if (loopUpdate y period 64 s).eng.source = some .reference then .locked else .follow)
    rw [state]
    (repeat' split) <;> decide

end

/-! ### An input in LOCKED and FOLLOW (R116) -/

/-- The count of consecutive large inputs that an input leaves (R116). -/
def State.largeCountAfter (s : State) (y : Int) : Nat :=
  if s.cfg.stepThreshold < y.natAbs then s.eng.largeCount + 1 else 0

section
variable {y : Int} {s : State} (period tau : Nat)

/-- An input of LOCKED and FOLLOW is an update, pushed into the ring in LOCKED and on TIER1 (R116, R117). -/
theorem trackInput_few (few : s.largeCountAfter y < 3) :
    (trackInput y period tau s).eng = { s.eng.updated y period tau with
      largeCount := s.largeCountAfter y
      ring := if s.eng.state = .locked ∨ s.eng.source = some (.tier .one) then
        pushBounded 16 s.eng.ring (roundDiv (s.eng.integralAfter y period tau) 1000) else s.eng.ring } ∧
    (trackInput y period tau s).tsg = { s.tsg with fSet := s.eng.steeredF y period tau } ∧
    (trackInput y period tau s).bus = s.bus ∧ (trackInput y period tau s).scu = s.scu ∧
    (trackInput y period tau s).lrn.aging = s.lrn.aging ∧
    (s.lrn.sampling ≠ .fresh → (trackInput y period tau s).lrn = s.lrn) := by
  have e : trackInput y period tau s = if s.eng.state = .locked ∨ s.eng.source = some (.tier .one) then
      pushRing (loopUpdate y period tau (s.withEng { s.eng with largeCount := s.largeCountAfter y }))
      else loopUpdate y period tau (s.withEng { s.eng with largeCount := s.largeCountAfter y }) := by
    refine (if_neg (Nat.not_le.mpr few)).trans ?_
    simp only [Bool.or_eq_true, decide_eq_true_eq]
    rfl
  obtain ⟨eng, tsg⟩ := loopUpdate_updated y period tau (s.withEng { s.eng with largeCount := s.largeCountAfter y })
  have aging := loopUpdate_aging y period tau (s.withEng { s.eng with largeCount := s.largeCountAfter y })
  have lrn := fun stale : s.lrn.sampling ≠ .fresh => loopUpdate_lrn
    (s := s.withEng { s.eng with largeCount := s.largeCountAfter y }) (learningAllowed_of_not_fresh stale) y period tau
  rw [e]
  split
  · refine ⟨?_, (pushRing_keeps _).1.trans tsg, by simp, by simp, by simpa using aging, fun h => by simpa using lrn h⟩
    rw [pushRing, State.withEng_eng, eng]
    rfl
  · refine ⟨?_, tsg, by simp, by simp, aging, lrn⟩
    rw [eng]
    rfl

/-- A third consecutive large input goes back to ACQUIRE and asks for a step there (R116). -/
theorem trackInput_third (many : 3 ≤ s.largeCountAfter y) (h : s.eng.state = .locked ∨ s.eng.state = .follow) :
    (trackInput y period tau s).eng = s.eng.returned s.eng.source ∧
    (trackInput y period tau s).tsg.fSet = roundDiv s.eng.integral 1000000 ∧
    hasFlag (trackInput y period tau s).scu.raised .sourceChange = true ∧
    (∀ r, s.tsg.slot = some r → (trackInput y period tau s).tsg.slot = some r ∧
      (trackInput y period tau s).tsg.committed = s.tsg.committed) ∧
    (s.tsg.slot = none → ∃ due, (trackInput y period tau s).tsg.slot = some ⟨.engine, .step, y, y, due, false⟩) ∧
    (trackInput y period tau s).lrn = s.lrn := by
  have large : s.cfg.stepThreshold < y.natAbs := by
    refine Decidable.byContradiction fun small => ?_
    rw [State.largeCountAfter, if_neg small] at many
    cases many
  obtain ⟨eng, f, slot, committed, flag, lrn, cfg⟩ := returnToAcquire_of_tracking s.eng.source h
  obtain ⟨occupied, free⟩ := requestStep_slot y (enterState .acquire s.eng.source setIntegralF s)
  have e : trackInput y period tau s =
      acquireInput y period (enterState .acquire s.eng.source setIntegralF s) := if_pos many
  rw [e, acquireInput_large period (by rwa [cfg])]
  rw [slot, committed] at occupied
  rw [slot] at free
  refine ⟨by rw [State.withEng_eng, eng]; rfl, ?_, ?_, occupied, free, ?_⟩
  · exact (requestStep_fSet ..).trans f
  · simpa using flag
  · simpa using lrn

end

end Sys2Proof.Machine
end

section
/-! PROOF. What sets F (R97, R98, R109 to R117, R125 to R131).
-/

namespace Sys2Proof.Machine

/-! ### The input recorded (R112, R131, R132) -/

section
variable {s : State}

theorem recordY_of_locked (y : Int) (h : s.eng.state = .locked) :
    recordY y s = s.withEng { s.eng with lastY := some y, u := min 2097151 (20 + y.natAbs) } := by
  simp [recordY, recomputeU, State.uncertainty, h, Config.saturatedU]

theorem recordY_of_acquire (y : Int) (h : s.eng.state = .acquire) :
    recordY y s = s.withEng { s.eng with lastY := some y, u := 2097151 } := by
  simp [recordY, recomputeU, State.uncertainty, h, Config.saturatedU]

/-- The record with a consensus noted (R112, R132). -/
def Engine.noted (e : Engine) (c : Consensus) (k : Tier) (u : Nat) : Engine :=
  { e with lastC := some ⟨c.value, k⟩, followedU := some c.leastU, u := u }

theorem recordC_of_follow (c : Consensus) (k : Tier) (h : s.eng.state = .follow) :
    recordC c k s = s.withEng (s.eng.noted c k (min 2097151 (c.leastU + 100 + c.value.natAbs))) := by
  simp [recordC, recomputeU, State.uncertainty, h, Config.saturatedU, Engine.noted]

theorem recordC_of_acquire (c : Consensus) (k : Tier) (h : s.eng.state = .acquire) :
    recordC c k s = s.withEng (s.eng.noted c k 2097151) := by
  simp [recordC, recomputeU, State.uncertainty, h, Config.saturatedU, Engine.noted]

theorem recordC_of_holdover (c : Consensus) (k : Tier) (h : s.eng.state = .holdover) :
    recordC c k s = s.withEng (s.eng.noted c k s.uncertainty) := by
  simp [recordC, recomputeU, State.uncertainty, h, Engine.noted, State.second]

end

/-! ### Observations (R109) -/

/-- The reference is QUALIFIED, uninhibited and the engine's source. -/
structure State.OnTrusted (s : State) : Prop where
  source : s.eng.source = some .reference
  inhibit : s.eng.inhibit = false
  qual : s.mon.qual = .qualified

/-- An engine that tracks a trusted reference stays on it (R107). -/
theorem selectSource_of_onTrusted {s : State} (h : s.OnTrusted)
    (tracks : s.eng.state = .locked ∨ s.eng.state = .acquire) : selectSource s = s := by
  have selected : s.selected = .source .reference := State.selected_reference_iff.mpr ⟨h.qual, h.inhibit⟩
  have on : s.onSource .reference = true := by
    obtain st | st := tracks <;> simp [State.onSource, h.source, st]
  have silent : s.silent = false := by
    obtain st | st := tracks <;> simp [State.silent, st]
  rw [selectSource_of_not_silent silent]
  simp [applySelection, selected, on]

section
variable {s : State} {y : Int} (trusted : s.OnTrusted)
include trusted

/-- An observation whose input leaves the engine tracking the reference is that input (R107, R109). -/
theorem takeObservation_of_input {e : Engine} (input : (s.observationInput y).eng = e) (source : e.source = s.eng.source)
    (inhibit : e.inhibit = s.eng.inhibit) (tracks : e.state = .locked ∨ e.state = .acquire) :
    takeObservation y s = s.observationInput y := by
  rw [takeObservation_eq]
  exact selectSource_of_onTrusted ⟨by rw [input, source, trusted.source], by rw [input, inhibit, trusted.inhibit], by
    rw [observationInput_mon, trusted.qual]⟩ (by rwa [input])

omit trusted in
theorem observationInput_of_locked (inhibit : s.eng.inhibit = false) (h : s.eng.state = .locked) :
    s.observationInput y = trackInput y s.cfg.decimation s.cfg.tauRef
      (s.withEng { s.eng with lastY := some y, u := min 2097151 (20 + y.natAbs) }) := by
  rw [State.observationInput, if_neg (by simp [inhibit]), if_pos h, recordY_of_locked y h]

theorem observationInput_of_acquire (h : s.eng.state = .acquire) :
    s.observationInput y = acquireInput y s.cfg.decimation
      (s.withEng { s.eng with lastY := some y, u := 2097151 }) := by
  rw [State.observationInput, if_neg (by simp [trusted.inhibit]), if_neg (by simp [h]), if_pos ⟨h, trusted.source⟩,
    recordY_of_acquire y h]

/-- An observation in LOCKED (R109, R111, R116, R117). -/
theorem takeObservation_locked (h : s.eng.state = .locked) (few : s.largeCountAfter y < 3) :
    (takeObservation y s).eng = { s.eng.updated y s.cfg.decimation s.cfg.tauRef with
      lastY := some y, largeCount := s.largeCountAfter y, u := min 2097151 (20 + y.natAbs)
      ring := pushBounded 16 s.eng.ring
        (roundDiv (s.eng.integralAfter y s.cfg.decimation s.cfg.tauRef) 1000) } ∧
    (takeObservation y s).tsg = { s.tsg with fSet := s.eng.steeredF y s.cfg.decimation s.cfg.tauRef } ∧
    (takeObservation y s).bus = s.bus ∧ (takeObservation y s).scu = s.scu ∧
    (takeObservation y s).lrn.aging = s.lrn.aging ∧
    (s.lrn.sampling ≠ .fresh → (takeObservation y s).lrn = s.lrn) := by
  have input := observationInput_of_locked (y := y) trusted.inhibit h
  obtain ⟨eng, rest⟩ := trackInput_few s.cfg.decimation s.cfg.tauRef
    (s := s.withEng { s.eng with lastY := some y, u := min 2097151 (20 + y.natAbs) }) few
  rw [← input, if_pos (.inl h)] at eng
  rw [← input] at rest
  rw [takeObservation_of_input trusted eng rfl rfl (.inl h)]
  exact ⟨eng, rest⟩

/-- The third large observation in a row goes back to ACQUIRE (R116). -/
theorem takeObservation_third (h : s.eng.state = .locked) (many : 3 ≤ s.largeCountAfter y) :
    (takeObservation y s).eng = { s.eng.returned s.eng.source with lastY := some y } ∧
    (takeObservation y s).tsg.fSet = roundDiv s.eng.integral 1000000 ∧
    hasFlag (takeObservation y s).scu.raised .sourceChange = true ∧
    (∀ r, s.tsg.slot = some r → (takeObservation y s).tsg.slot = some r ∧
      (takeObservation y s).tsg.committed = s.tsg.committed) ∧
    (s.tsg.slot = none → ∃ due, (takeObservation y s).tsg.slot = some ⟨.engine, .step, y, y, due, false⟩) ∧
    (takeObservation y s).lrn = s.lrn := by
  have input := observationInput_of_locked (y := y) trusted.inhibit h
  obtain ⟨eng, rest⟩ := trackInput_third s.cfg.decimation s.cfg.tauRef
    (s := s.withEng { s.eng with lastY := some y, u := min 2097151 (20 + y.natAbs) }) many (.inl h)
  rw [← input] at eng rest
  rw [takeObservation_of_input trusted eng rfl rfl (.inr rfl)]
  exact ⟨eng, rest⟩

/-- A large observation in ACQUIRE asks for a step (R113). -/
theorem takeObservation_acquire_large (h : s.eng.state = .acquire) (large : s.cfg.stepThreshold < y.natAbs) :
    takeObservation y s = (requestStep y s).withEng { s.eng with lockCount := 0, lastY := some y, u := 2097151 } := by
  have input : s.observationInput y =
      (requestStep y s).withEng { s.eng with lockCount := 0, lastY := some y, u := 2097151 } := by
    rw [observationInput_of_acquire trusted h, acquireInput_large (s := s.withEng { s.eng with
      lastY := some y, u := 2097151 }) _ large, requestStep_withEng]
    rfl
  rw [takeObservation_of_input trusted (congrArg State.eng input) rfl rfl (.inr h), input]

/-- A small observation in ACQUIRE is an update (R113). -/
theorem takeObservation_acquire_small (h : s.eng.state = .acquire) (small : y.natAbs ≤ s.cfg.stepThreshold)
    (few : s.lockCountAfter y < 4) :
    (takeObservation y s).eng = { s.eng.updated y s.cfg.decimation 64 with
      lockCount := s.lockCountAfter y, lastY := some y, u := 2097151 } ∧
    (takeObservation y s).tsg = { s.tsg with fSet := s.eng.steeredF y s.cfg.decimation 64 } ∧
    (takeObservation y s).scu = s.scu := by
  have input := observationInput_of_acquire (y := y) trusted h
  obtain ⟨eng, rest⟩ := acquireInput_small s.cfg.decimation
    (s := s.withEng { s.eng with lastY := some y, u := 2097151 }) small few
  rw [← input] at eng rest
  rw [takeObservation_of_input trusted eng rfl rfl (.inr h)]
  exact ⟨eng, rest⟩

/-- The fourth small observation in a row brings LOCKED (R115). -/
theorem takeObservation_acquire_lock (h : s.eng.state = .acquire) (small : y.natAbs ≤ s.cfg.stepThreshold)
    (many : 4 ≤ s.lockCountAfter y) :
    (takeObservation y s).eng = { s.eng.updated y s.cfg.decimation 64 with
      state := .locked, lockCount := 0, largeCount := 0, steerCount := 0, lastY := some y
      u := min 2097151 (20 + y.natAbs) } ∧
    (takeObservation y s).tsg.fSet = s.eng.steeredF y s.cfg.decimation 64 ∧
    (takeObservation y s).tsg.slot = s.tsg.slot ∧
    hasFlag (takeObservation y s).scu.raised .sourceChange = true := by
  have input := observationInput_of_acquire (y := y) trusted h
  obtain ⟨eng, rest⟩ := acquireInput_lock s.cfg.decimation
    (s := s.withEng { s.eng with lastY := some y, u := 2097151 }) small many h
  have locked : (({ s.eng with lastY := some y, u := 2097151 } : Engine).updated y s.cfg.decimation 64).locked =
      { s.eng.updated y s.cfg.decimation 64 with
        state := .locked, lockCount := 0, largeCount := 0, steerCount := 0, lastY := some y, u := 2097151 } := by
    simp [Engine.locked, Engine.updated, trusted.source, Engine.integralAfter]
  have u : ((s.withEng { s.eng with lastY := some y, u := 2097151 }).withEng { s.eng.updated y s.cfg.decimation 64 with
      state := .locked, lockCount := 0, largeCount := 0, steerCount := 0, lastY := some y, u := 2097151 }).uncertainty =
        min 2097151 (20 + y.natAbs) := rfl
  simp only [State.withEng_eng, locked, u] at eng
  rw [← input] at eng rest
  rw [takeObservation_of_input trusted eng rfl rfl (.inl rfl)]
  exact ⟨eng, rest⟩

end

theorem takeObservation_acquire_lrn {s : State} (h : s.eng.state = .acquire) (y : Int) : (takeObservation y s).lrn = s.lrn :=
  takeObservation_lrn (by simp [h]) y

/-! ### A consensus as an input (R110, R112) -/

theorem saturateInput_eq (c : Int) : saturateInput c = max (-32767) (min 32767 c) := by
  simp only [saturateInput, clampAbs, clamp, Config.limitObservation]
  (repeat' split) <;> omega

section
variable {s : State} {k : Tier} (source : s.eng.source = some (.tier k))
include source

theorem consensusInput_of_absent (h : (s.ptu.tier k).consensus = none) : consensusInput s = s := by
  simp [consensusInput, source, h]

variable {c : Consensus} (present : (s.ptu.tier k).consensus = some c)
include present

theorem consensusInput_of_follow (h : s.eng.state = .follow) : consensusInput s =
    trackInput (saturateInput c.value) s.cfg.pointInterval s.cfg.tauFollow
      (s.withEng (s.eng.noted c k (min 2097151 (c.leastU + 100 + c.value.natAbs)))) := by
  simp [consensusInput, source, present, h, recordC_of_follow]

theorem consensusInput_of_acquire (h : s.eng.state = .acquire) : consensusInput s =
    acquireInput (saturateInput c.value) s.cfg.pointInterval (s.withEng (s.eng.noted c k 2097151)) := by
  simp [consensusInput, source, present, h, recordC_of_acquire]

/-- The fourth small consensus in a row brings FOLLOW (R115). -/
theorem consensusInput_lock (h : s.eng.state = .acquire)
    (small : (saturateInput c.value).natAbs ≤ s.cfg.stepThreshold) (many : 4 ≤ s.lockCountAfter (saturateInput c.value)) :
    (consensusInput s).eng = { (s.eng.updated (saturateInput c.value) s.cfg.pointInterval 64).noted c k
        (min 2097151 (c.leastU + 100 + c.value.natAbs)) with
      state := .follow, lockCount := 0, largeCount := 0, steerCount := 0 } ∧
    (consensusInput s).tsg.fSet = s.eng.steeredF (saturateInput c.value) s.cfg.pointInterval 64 ∧
    hasFlag (consensusInput s).scu.raised .sourceChange = true := by
  obtain ⟨eng, f, -, flag⟩ := acquireInput_lock s.cfg.pointInterval (s := s.withEng (s.eng.noted c k 2097151)) small many h
  have locked : ((s.eng.noted c k 2097151).updated (saturateInput c.value) s.cfg.pointInterval 64).locked =
      { (s.eng.updated (saturateInput c.value) s.cfg.pointInterval 64).noted c k 2097151 with
        state := .follow, lockCount := 0, largeCount := 0, steerCount := 0 } := by
    simp [Engine.locked, Engine.updated, Engine.noted, source, Engine.integralAfter]
  simp only [State.withEng_eng, locked] at eng
  rw [consensusInput_of_acquire source present h]
  exact ⟨eng, f, flag⟩

end

/-! ### The disagreement check (R97, R98) -/

/-- The result disagrees with the station (R97). -/
def State.Disagrees (s : State) (r : Option Consensus) : Prop := ∃ c, r = some c ∧ 2 ≤ c.count ∧
  c.spread ≤ s.cfg.disagreeThreshold ∧ s.cfg.disagreeThreshold < c.value.natAbs

theorem disagreeing_iff (s : State) (r : Option Consensus) :
    disagreeing r s.cfg.disagreeThreshold = true ↔ s.Disagrees r := by
  cases r <;> simp [disagreeing, State.Disagrees]

section
variable {s : State} (locked : s.eng.state = .locked)
include locked

theorem disagreementCheck_of_agreeing (h : ¬s.Disagrees s.ptu.tier1.consensus) (positive : 0 < s.cfg.disagreeCount) :
    disagreementCheck s = (s.withEng { s.eng with disagree := 0 }, false) := by
  have agrees : disagreeing s.ptu.tier1.consensus s.cfg.disagreeThreshold = false :=
    Bool.eq_false_iff.mpr fun d => h ((disagreeing_iff s _).mp d)
  simp [disagreementCheck, locked, agrees, Nat.ne_of_gt positive]

theorem disagreementCheck_of_few (h : s.Disagrees s.ptu.tier1.consensus) (few : s.eng.disagree + 1 < s.cfg.disagreeCount) :
    disagreementCheck s = (s.withEng { s.eng with disagree := s.eng.disagree + 1 }, false) := by
  simp [disagreementCheck, locked, (disagreeing_iff s _).mpr h, Nat.not_le.mpr few]

theorem disagreementCheck_of_count (h : s.Disagrees s.ptu.tier1.consensus)
    (count : s.cfg.disagreeCount ≤ s.eng.disagree + 1) :
    disagreementCheck s = (raise .refDisagree (s.withEng { s.eng with disagree := 0 }), true) := by
  simp [disagreementCheck, locked, (disagreeing_iff s _).mpr h, count]

end

theorem disagreementCheck_of_not_locked {s : State} (h : s.eng.state ≠ .locked) : disagreementCheck s = (s, false) :=
  if_neg h

theorem acquireInput_disagree (y : Int) (period : Nat) (s : State) :
    (acquireInput y period s).eng.disagree = s.eng.disagree := by
  obtain h | h := Nat.lt_or_ge s.cfg.stepThreshold y.natAbs
  · rw [acquireInput_large period h]
    rfl
  · rw [acquireInput_of_small period h]
    split
    · rw [lockAchieved_eng, loopUpdate_eng]
      rfl
    · rw [loopUpdate_eng]
      rfl

theorem enterFollow_disagree (k : Tier) (c : Consensus) (s : State) : (enterFollow k c s).eng.disagree = 0 := by
  obtain ⟨o, e⟩ := enterState_eng .follow (some (.tier k)) (followEntry k c) s
  rw [enterFollow_eq, e]
  rfl

theorem enterAcquireTier_disagree (k : Tier) (c : Consensus) (s : State) : (enterAcquireTier k c s).eng.disagree = 0 := by
  obtain ⟨o, e⟩ := enterState_eng .acquire (some (.tier k)) (tierEntry k c) s
  rw [enterAcquireTier_eq, e]
  exact acquireInput_disagree ..

/-- A selected tier is followed or acquired (R107). -/
theorem applySelection_tier {s : State} {k : Tier} (h : s.selected = .source (.tier k)) (zero : s.eng.disagree = 0) :
    (applySelection s).eng.source = some (.tier k) ∧ (applySelection s).eng.disagree = 0 ∧
    (applySelection s).silent = false := by
  obtain ⟨c, hc⟩ := State.consensus_of_selected h
  cases on : s.onSource (.tier k) with
  | true =>
    have stays : applySelection s = s := by simp [applySelection, h, on]
    simp only [State.onSource, Bool.and_eq_true, decide_eq_true_eq, Bool.or_eq_true, reduceCtorEq, if_false] at on
    obtain ⟨source, state⟩ := on
    rw [stays]
    exact ⟨source, zero, by obtain st | st := state <;> simp [State.silent, st]⟩
  | false =>
    rw [applySelection_of_selected.2.1 k c h on hc]
    split
    · obtain ⟨state, source, -⟩ := enterFollow_course k c s
      exact ⟨source, enterFollow_disagree .., by simp [State.silent, state]⟩
    · exact ⟨enterAcquireTier_source .., enterAcquireTier_disagree .., by
        simp [State.silent, enterAcquireTier_state]⟩

/-- A point whose disagreement count is reached takes the engine off the reference, which is disqualified (R98). -/
theorem observationPoint_ordered {s : State} (locked : s.eng.state = .locked) (source : s.eng.source = some .reference)
    (qual : s.mon.qual = .qualified) (disagrees : s.Disagrees (consensusOf (s.contributors .one)))
    (count : s.cfg.disagreeCount ≤ s.eng.disagree + 1) :
    (observationPoint s).ptu.tier1 = ⟨consensusOf (s.contributors .one), some s.second⟩ ∧
    (observationPoint s).mon.qual = .disqualified ∧ (observationPoint s).mon.holdoffTimer = some s.cfg.holdoff ∧
    (observationPoint s).mon.history = s.mon.history ∧
    hasFlag (observationPoint s).scu.raised .refDisagree = true ∧
    (observationPoint s).eng.source = some (.tier .one) ∧ (observationPoint s).eng.disagree = 0 := by
  generalize formed : formResults s = f
  have tier1 : f.ptu.tier1 = ⟨consensusOf (s.contributors .one), some s.second⟩ := by rw [← formed]; rfl
  have same : f.eng = s.eng ∧ f.mon = s.mon ∧ f.cfg = s.cfg := by rw [← formed]; exact ⟨rfl, rfl, rfl⟩
  obtain ⟨eng, mon, cfg⟩ := same
  have present : f.ptu.tier1.consensus.isSome := by
    obtain ⟨c, hc, -⟩ := disagrees
    rw [tier1, hc]
    rfl
  have check : disagreementCheck f = (raise .refDisagree (f.withEng { f.eng with disagree := 0 }), true) :=
    disagreementCheck_of_count (by rw [eng, locked]) (by simpa [State.Disagrees, tier1, cfg] using disagrees)
      (by simpa [eng, cfg] using count)
  generalize raised : raise .refDisagree (f.withEng { f.eng with disagree := 0 }) = v at check
  have unit : v.eng = { s.eng with disagree := 0 } ∧ v.mon = s.mon ∧ v.cfg = s.cfg ∧ v.ptu = f.ptu ∧
      hasFlag v.scu.raised .refDisagree = true := by
    rw [← raised]
    simp [eng, mon, cfg, raise_raised]
  obtain ⟨veng, vmon, vcfg, vptu, flag⟩ := unit
  have input : f.silent = false := by simp [State.silent, eng, locked]
  have none_ : takeNudge (consensusInput v) = v := by
    have consensus : consensusInput v = v := by simp [consensusInput, veng, source]
    rw [consensus, takeNudge, if_neg (by simp [veng, locked])]
  have point : observationPoint s = orderDisqualification (selectSource v) := by
    have taken : takePoint f = (selectSource v, true) := by
      rw [takePoint_of_not_silent input, State.pointInput, check, none_]
    simp [observationPoint, formed, taken]
  have selection : (selectSource v).eng.disagree = 0 ∧ (selectSource v).silent = false := by
    have silent : v.silent = false := by simp [State.silent, veng, locked]
    rw [selectSource_of_not_silent silent]
    cases inhibit : s.eng.inhibit with
    | false =>
      have stays : applySelection v = v := by
        rw [← selectSource_of_not_silent silent]
        exact selectSource_of_onTrusted ⟨by rw [veng, source], by rw [veng, inhibit], by rw [vmon, qual]⟩
          (.inl (by rw [veng, locked]))
      rw [stays]
      exact ⟨by rw [veng], silent⟩
    | true =>
      have selected : v.selected = .source (.tier .one) := by simp [State.selected, veng, inhibit, vptu, present]
      exact (applySelection_tier selected (by rw [veng])).2
  have flagged : hasFlag (selectSource v).scu.raised .refDisagree = true :=
    (raised_kept (i := .busJoin) .refDisagree rfl rfl).selectSource _ flag
  generalize hw : selectSource v = w at point selection flagged
  have wmon : w.mon = s.mon ∧ w.cfg = s.cfg ∧ w.ptu = f.ptu := by rw [← hw]; simp [vmon, vcfg, vptu]
  obtain ⟨wmon, wcfg, wptu⟩ := wmon
  have order : observationPoint s = (enterQual .disqualified w).withMon { (enterQual .disqualified w).mon with
      ordered := some ⟨w.tsg.now, w.mon.window⟩ } := by
    rw [point, orderDisqualification, if_pos (by rw [wmon, qual])]
  have entered : enterQual .disqualified w = applySelection (w.withMon (w.mon.entered w.cfg .disqualified)) :=
    selectSource_of_not_silent (by exact selection.2)
  have selected : (w.withMon (w.mon.entered w.cfg .disqualified)).selected = .source (.tier .one) := by
    simp [State.selected, Monitor.entered, wptu, present]
  obtain ⟨source', disagree', -⟩ := applySelection_tier selected (by exact selection.1)
  have flagged' : hasFlag (enterQual .disqualified w).scu.raised .refDisagree = true :=
    (raised_kept (i := .busJoin) .refDisagree rfl rfl).enterQual _ _ flagged
  rw [order]
  refine ⟨?_, ?_, ?_, ?_, flagged', ?_, ?_⟩
  · simp [enterQual, wptu, tier1]
  · simp [Monitor.entered]
  · simp [Monitor.entered, wcfg]
  · simp [Monitor.entered_keeps, wmon]
  · rw [State.withMon_eng, entered, source']
  · rw [State.withMon_eng, entered, disagree']

/-! ### The nudge (R127, R128) -/

section
variable {s : State} (holdover : s.eng.state = .holdover)
include holdover

theorem takeNudge_of_present {p : Int} (last : s.eng.lastPrediction = some p) {c : Consensus}
    (present : s.ptu.tier2.consensus = some c) :
    takeNudge s = (s.withEng { s.eng.noted c .two s.uncertainty with
        nudge := clampAbs 1000 (roundDiv (2000 * c.value) s.cfg.tauEns) }).withTsg { s.tsg with
      fSet := clampAbs 2000000 (p + clampAbs 1000 (roundDiv (2000 * c.value) s.cfg.tauEns)) } := by
  simp only [takeNudge, holdover, if_true, present, nudgeOf, recordC_of_holdover c .two holdover]
  simp [setF, Engine.noted, last, Config.limitF]

theorem takeNudge_of_absent {p : Int} (last : s.eng.lastPrediction = some p) (absent : s.ptu.tier2.consensus = none) :
    takeNudge s = (s.withEng { s.eng with nudge := 0 }).withTsg { s.tsg with fSet := clampAbs 2000000 p } := by
  simp [takeNudge, holdover, absent, nudgeOf, setF, last, Config.limitF]

/-- The F and the nudge of a point in HOLDOVER (R127, R128). -/
theorem takeNudge_sets : (takeNudge s).eng.nudge = nudgeOf s.ptu.tier2.consensus s.cfg.tauEns ∧
    (takeNudge s).tsg.fSet =
      clampAbs 2000000 (s.eng.lastPrediction.getD 0 + nudgeOf s.ptu.tier2.consensus s.cfg.tauEns) := by
  cases present : s.ptu.tier2.consensus with
  | none => simp [takeNudge, holdover, present, setF, Config.limitF]
  | some c => simp [takeNudge, holdover, present, setF, recordC_of_holdover, Engine.noted, Config.limitF]

/-- The engine's work of a boundary in HOLDOVER (R125). -/
theorem engineBoundary_of_holdover {r : HoldoverRecord} (record : s.eng.record = some r) :
    (engineBoundary s).eng.lastPrediction = some (s.prediction r) ∧ (engineBoundary s).eng.nudge = s.eng.nudge ∧
    (engineBoundary s).eng.record = some r ∧
    (engineBoundary s).tsg.fSet = clampAbs 2000000 (s.prediction r + s.eng.nudge) := by
  have counted : s.engineCounted.eng.record = some r := record
  have predicted : predict s.engineCounted = setF (clampAbs 2000000 (s.prediction r + s.eng.nudge))
      (s.engineCounted.withEng { s.engineCounted.eng with lastPrediction := some (s.prediction r) }) := by
    rw [predict, counted]
    rfl
  obtain ⟨o, e, -⟩ := exhaustionTest_eng (recomputeU (predict s.engineCounted))
  have f : (exhaustionTest (recomputeU (predict s.engineCounted))).tsg.fSet =
      (recomputeU (predict s.engineCounted)).tsg.fSet := by simp
  rw [engineBoundary_eq, if_pos holdover, e, f, predicted, recomputeU_eng]
  exact ⟨rfl, rfl, counted, rfl⟩

/-- The boundary's work and the nudge lead to one F in either order (R128). -/
theorem takeNudge_engineBoundary {r : HoldoverRecord} (record : s.eng.record = some r) :
    (takeNudge (engineBoundary s)).tsg.fSet = (engineBoundary (takeNudge s)).tsg.fSet ∧
    (takeNudge (engineBoundary s)).eng.nudge = (engineBoundary (takeNudge s)).eng.nudge := by
  obtain ⟨last, -⟩ := engineBoundary_of_holdover holdover record
  obtain ⟨nudge, f⟩ := takeNudge_sets (s := engineBoundary s) (by simp [holdover])
  obtain ⟨state', record', -⟩ := takeNudge_stay s
  obtain ⟨nudge', f'⟩ := takeNudge_sets holdover
  obtain ⟨-, nudge'', -, f''⟩ := engineBoundary_of_holdover (s := takeNudge s) (by rw [state', holdover])
    (by rw [record', record])
  have prediction : (takeNudge s).prediction r = s.prediction r := by
    have second : (takeNudge s).second = s.second := by simp [State.second]
    have lrn : (takeNudge s).lrn = s.lrn := by simp
    rw [State.prediction, second, lrn]
    rfl
  rw [nudge, f, nudge'', f'', nudge', prediction, last]
  simp

end

/-! ### F at a boundary in HOLDOVER and FREERUN (R125, R130) -/

/-- What the prediction and F in FREERUN read of the Learning Unit. -/
def Learning.SameTable (l m : Learning) : Prop := m.tab = l.tab ∧ m.rate = l.rate ∧ m.currentBin = l.currentBin

/-- A quiet boundary of an engine that tracks nothing is the engine's own work (R125, R130). -/
theorem ownBoundary_adrift (order : List BoundaryTask) {s : State} (quiet : s.Quiet (openBoundary s))
    (adrift : s.eng.state = .holdover ∨ s.eng.state = .freerun) :
    ∃ v, s.Quiet v ∧ v.eng = s.eng ∧ s.lrn.SameTable v.lrn ∧ (ownBoundary order s).eng = (engineBoundary v).eng ∧
      (ownBoundary order s).tsg.fSet = (engineBoundary v).tsg.fSet := by
  have below : ∀ v : State, v.eng.state = s.eng.state → v.steerDue = false := fun v h => by
    obtain st | st := adrift <;> simp [State.steerDue, h, st]
  have once := ownBoundary_once (s := s) (order := order) .engine
    (P := fun v => s.Quiet v ∧ v.eng = s.eng ∧ s.lrn.SameTable v.lrn)
    (Q := fun u => s.Quiet u ∧ ∃ v, s.Quiet v ∧ v.eng = s.eng ∧ s.lrn.SameTable v.lrn ∧ u.eng = (engineBoundary v).eng ∧
      u.tsg.fSet = (engineBoundary v).tsg.fSet)
    (fun t ht v ⟨q, eng, table⟩ => ?_) (fun v ⟨q, eng, table⟩ => ?_) (fun t ht u ⟨q, v, qv, eng, table, eng', f'⟩ => ?_)
    ⟨quiet, by simp, by simp [Learning.SameTable]⟩
  · obtain ⟨-, v, found⟩ := once
    exact ⟨v, found⟩
  · obtain ⟨same, -, lrn⟩ := q.eng s.tsg.notice ht (below v (by rw [eng]))
    refine ⟨q.runTask _ t, same.trans eng, ?_⟩
    by_cases learning : t = .learning
    · subst learning
      show s.lrn.SameTable (learningBoundary v).lrn
      rw [learningBoundary_lrn]
      exact table
    · rwa [lrn learning]
  · exact ⟨q.runTask _ .engine, v, q, eng, table, rfl, rfl⟩
  · obtain ⟨same, f, -⟩ := q.eng s.tsg.notice ht (below u (by rw [eng', engineBoundary_state, eng]))
    exact ⟨q.runTask _ t, v, qv, eng, table, same.trans eng', f.trans f'⟩

theorem engineBoundary_integral (s : State) : (engineBoundary s).eng.integral = s.eng.integral ∧
    (engineBoundary s).eng.ring = s.eng.ring := by
  obtain ⟨p, u, o, e⟩ := engineBoundary_eng s
  rw [e]
  exact ⟨rfl, rfl⟩

theorem engineBoundary_of_freerun {s : State} (freerun : s.eng.state = .freerun) :
    (engineBoundary s).tsg.fSet = freeRunF s := by
  rw [engineBoundary_eq, if_neg (by simp [freerun]), if_pos freerun]
  simp [setF, freeRunF, State.engineCounted]

end Sys2Proof.Machine

open Sys2Proof Sys2Proof.Machine

/-- Settles O43. -/
theorem lockedObservationSteers : Obligations.LockedObservationSteers := by
  refine ⟨fun s y locked source inhibit qual => ?_, fun s y locked source inhibit qual large third => ?_,
    fun s y acquire source inhibit qual => ?_, fun s k source => ⟨consensusInput_of_absent source, fun c present => ?_⟩,
    fun s => ?_, fun s order ready osc held point => ?_, fun s p holdover last => ?_, fun s r holdover record =>
      takeNudge_engineBoundary holdover record⟩
  · intro large few i p t
    obtain ⟨eng, tsg, bus, scu, aging, lrn⟩ := takeObservation_locked ⟨source, inhibit, qual⟩ locked few
    exact ⟨eng, tsg, by simp [t], by simp [t], bus, scu, aging, lrn⟩
  · obtain ⟨eng, f, flag, occupied, free, lrn⟩ := takeObservation_third (y := y) ⟨source, inhibit, qual⟩ locked
      (by rw [State.largeCountAfter, if_pos large]; omega)
    exact ⟨eng, f, flag, occupied, free, by simp, by simp, lrn⟩
  · intro t next soon i p n
    have trusted : s.OnTrusted := ⟨source, inhibit, qual⟩
    refine ⟨fun large => ?_, fun small few => ?_, fun small many => ?_, by simp [t], by simp [t],
      takeObservation_acquire_lrn acquire y⟩
    · have step : t = _ := takeObservation_acquire_large trusted acquire large
      rw [step]
      refine ⟨rfl, fun taken => ?_, fun free => requestStep_soon free, fun free => requestStep_later free, by simp⟩
      obtain ⟨r, hr⟩ := Option.ne_none_iff_exists'.mp taken
      rw [State.withEng_tsg, requestStep_occupied hr]
    · exact takeObservation_acquire_small trusted acquire small few
    · exact takeObservation_acquire_lock trusted acquire small many
  · intro y t tau i p f u taken
    have input : saturateInput c.value = y := saturateInput_eq _
    have rates : (s.eng.state = .follow → tau = s.cfg.tauFollow) ∧ (s.eng.state = .acquire → tau = 64) :=
      ⟨fun h => if_pos h, fun h => if_neg (by simp [h])⟩
    obtain ⟨followRate, acquireRate⟩ := rates
    clear_value tau
    refine ⟨fun follow => ?_, fun acquire => ?_, by simp [t], by simp [t]⟩
    · obtain rfl := followRate follow
      have tracked : t = _ := consensusInput_of_follow source present follow
      rw [input] at tracked
      refine ⟨fun few => ?_, fun many => ?_⟩
      · obtain ⟨eng, tsg, -, scu, -⟩ := trackInput_few s.cfg.pointInterval s.cfg.tauFollow (y := y)
          (s := s.withEng (s.eng.noted c k u)) few
        have pushes : ((s.withEng (s.eng.noted c k u)).eng.state = .locked ∨
            (s.withEng (s.eng.noted c k u)).eng.source = some (.tier .one)) ↔ k = .one := by
          simp [Engine.noted, follow, source]
        simp only [pushes] at eng
        rw [← tracked] at eng tsg scu
        exact ⟨eng, tsg, scu⟩
      · obtain ⟨eng, f', -, -, free, -⟩ := trackInput_third s.cfg.pointInterval s.cfg.tauFollow (y := y)
          (s := s.withEng (s.eng.noted c k u)) many (.inr follow)
        rw [← tracked] at eng f' free
        exact ⟨eng, f', free⟩
    · obtain rfl := acquireRate acquire
      have acquired : t = _ := consensusInput_of_acquire source present acquire
      rw [input] at acquired
      refine ⟨fun large => ?_, fun small few => ?_, fun small many => ?_⟩
      · rw [acquired, acquireInput_large (s := s.withEng (s.eng.noted c k 2097151)) _ large]
        exact ⟨rfl, (requestStep_slot y (s.withEng (s.eng.noted c k 2097151))).2⟩
      · obtain ⟨eng, tsg, -⟩ := acquireInput_small s.cfg.pointInterval (y := y)
          (s := s.withEng (s.eng.noted c k 2097151)) small few
        rw [← acquired] at eng tsg
        exact ⟨eng, tsg⟩
      · rw [← input] at small many
        have lock := consensusInput_lock source present acquire small many
        rw [input] at lock
        exact lock
  · refine ⟨disagreementCheck_of_not_locked, disagreementCheck_of_agreeing, fun locked h =>
      ⟨disagreementCheck_of_few locked h, disagreementCheck_of_count locked h⟩, takePoint_of_silent,
      takePoint_of_not_silent, observationPoint_ordered⟩
  · have quiet := openBoundary_quiet osc held point
    refine ⟨?_, fun freerun => ?_⟩
    · intro r holdover record now temperature p
      obtain ⟨v, q, eng, ⟨tab, rate, bin⟩, eng', f'⟩ := ownBoundary_adrift order quiet (.inl holdover)
      have prediction : v.prediction r = p := by
        simp only [State.prediction, q.second, tab, rate, bin]
        rfl
      obtain ⟨last, nudge, record', f⟩ := engineBoundary_of_holdover (s := v) (by rw [eng, holdover])
        (by rw [eng, record])
      obtain ⟨integral, ring⟩ := engineBoundary_integral v
      refine ⟨ownBoundary order s, event_of_ready _ ready, ?_⟩
      rw [eng', f', engineBoundary_state, integral, ring, last, nudge, f, eng, prediction]
      exact ⟨holdover, record', rfl, rfl, rfl, rfl, rfl⟩
    · obtain ⟨v, q, eng, ⟨tab, -, bin⟩, eng', f'⟩ := ownBoundary_adrift order quiet (.inr freerun)
      obtain ⟨integral, ring⟩ := engineBoundary_integral v
      refine ⟨ownBoundary order s, event_of_ready _ ready, ?_⟩
      rw [eng', f', engineBoundary_state, integral, ring, eng, engineBoundary_of_freerun (by rw [eng, freerun])]
      refine ⟨freerun, fun none_ => ?_, fun b some_ => ?_, rfl, rfl⟩
      · simp [freeRunF, bin, none_]
      · simp [freeRunF, bin, some_, tab]
  · refine ⟨fun c present => ?_, takeNudge_of_absent holdover last⟩
    intro n t
    have e : t = _ := takeNudge_of_present holdover last present
    rw [e]
    exact ⟨rfl, rfl⟩

end

section
/-! PROOF. The pulse held for a boundary plays no part in what an entry to a qualification state brings (R40, R45, R105).
-/

namespace Sys2Proof.Machine

/-- The state with `h` for the pulse held (R21). -/
def State.holding (h : Option Pulse) (s : State) : State := s.withMon { s.mon with held := h }

section
variable (h : Option Pulse) (s : State)

@[simp] theorem State.holding_keeps : (s.holding h).tsg = s.tsg ∧ (s.holding h).bus = s.bus ∧
    (s.holding h).ptu = s.ptu ∧ (s.holding h).eng = s.eng ∧ (s.holding h).lrn = s.lrn ∧ (s.holding h).scu = s.scu ∧
    (s.holding h).pwr = s.pwr ∧ (s.holding h).cfg = s.cfg ∧ (s.holding h).eeprom = s.eeprom ∧
    (s.holding h).pending = s.pending ∧ (s.holding h).mon.qual = s.mon.qual := by simp [holding]

/-- What reads neither the pulse held nor anything that depends on it. -/
@[simp] theorem State.holding_reads : (s.holding h).second = s.second ∧ (s.holding h).cls = s.cls ∧
    (s.holding h).silent = s.silent ∧ (s.holding h).muteCause = s.muteCause ∧ (s.holding h).selected = s.selected ∧
    (s.holding h).uncertainty = s.uncertainty ∧ (s.holding h).learningAllowed = s.learningAllowed ∧
    (s.holding h).newRecord = s.newRecord ∧ statusPart0 (s.holding h) = statusPart0 s ∧
    statusPart1 (s.holding h) = statusPart1 s ∧ freeRunF (s.holding h) = freeRunF s :=
  ⟨rfl, rfl, rfl, rfl, rfl, rfl, rfl, rfl, rfl, rfl, rfl⟩

@[simp] theorem State.holding_onSource (src : Source) : (s.holding h).onSource src = s.onSource src := rfl

@[simp] theorem State.holding_prediction (r : HoldoverRecord) : (s.holding h).prediction r = s.prediction r := rfl

@[simp] theorem State.withTsg_holding (x : Timescale) : (s.holding h).withTsg x = (s.withTsg x).holding h := rfl
@[simp] theorem State.withBus_holding (b : Bus) : (s.holding h).withBus b = (s.withBus b).holding h := rfl
@[simp] theorem State.withEng_holding (e : Engine) : (s.holding h).withEng e = (s.withEng e).holding h := rfl
@[simp] theorem State.withLrn_holding (l : Learning) : (s.holding h).withLrn l = (s.withLrn l).holding h := rfl
@[simp] theorem State.withScu_holding (u : StatusUnit) : (s.holding h).withScu u = (s.withScu u).holding h := rfl

/-! ### The parts of a selection -/

@[simp] theorem raise_holding (f : Flag) : raise f (s.holding h) = (raise f s).holding h := by
  rw [State.holding, raise_withMon, State.holding, (raise_keeps f s).2.1]

@[simp] theorem offerStatus_holding : offerStatus (s.holding h) = (offerStatus s).holding h := by
  simp only [offerStatus, State.holding_keeps, State.holding_reads, State.withBus_holding]
  (repeat' split) <;> rfl

@[simp] theorem refreshOutputs_holding : refreshOutputs (s.holding h) = (refreshOutputs s).holding h := rfl

@[simp] theorem announce_holding (old : EngineState) : announce old (s.holding h) = (announce old s).holding h := by
  simp only [announce, refreshOutputs_holding, State.holding_reads, raise_holding]
  by_cases changed : classOf old ≠ (refreshOutputs s).cls
  · simp only [if_pos changed, State.holding_keeps, offerStatus_holding]
    (repeat' split) <;> rfl
  · simp only [if_neg changed, State.holding_keeps, offerStatus_holding]
    (repeat' split) <;> rfl

@[simp] theorem recomputeU_holding : recomputeU (s.holding h) = (recomputeU s).holding h := rfl

@[simp] theorem exhaustionTest_holding : exhaustionTest (s.holding h) = (exhaustionTest s).holding h := by
  simp only [exhaustionTest, State.holding_keeps, raise_holding, State.withEng_holding, refreshOutputs_holding]
  (repeat' split) <;> rfl

@[simp] theorem predict_holding : predict (s.holding h) = (predict s).holding h := by
  unfold predict
  simp only [State.holding_keeps]
  split <;> rfl

@[simp] theorem learnOffer_holding (v : Int) : learnOffer v (s.holding h) = (learnOffer v s).holding h := by
  unfold learnOffer
  simp only [State.holding_keeps, State.holding_reads]
  split
  · split <;> rfl
  · rfl

@[simp] theorem loopUpdate_holding (y : Int) (period tau : Nat) :
    loopUpdate y period tau (s.holding h) = (loopUpdate y period tau s).holding h := by
  simp only [loopUpdate, setF, State.holding_keeps, State.withEng_holding, State.withTsg_holding, learnOffer_holding]

@[simp] theorem requestStep_holding (y : Int) : requestStep y (s.holding h) = (requestStep y s).holding h := by
  unfold requestStep
  simp only [State.holding_keeps, State.holding_reads]
  split
  · rfl
  · (repeat' split) <;> rfl

@[simp] theorem lockAchieved_holding : lockAchieved (s.holding h) = (lockAchieved s).holding h :=
  announce_holding h (recomputeU (s.withEng s.eng.locked)) s.eng.state

@[simp] theorem acquireInput_holding (y : Int) (period : Nat) :
    acquireInput y period (s.holding h) = (acquireInput y period s).holding h := by
  obtain large | small := Nat.lt_or_ge s.cfg.stepThreshold y.natAbs
  · rw [acquireInput_large period large, acquireInput_large (s := s.holding h) period large, requestStep_holding]
    rfl
  · rw [acquireInput_of_small period small, acquireInput_of_small (s := s.holding h) period small, loopUpdate_holding]
    have count : (s.holding h).lockCountAfter y = s.lockCountAfter y := rfl
    rw [count]
    split
    · exact lockAchieved_holding h _
    · rfl

theorem enterState_holding {f : State → State} (hf : ∀ s, f (s.holding h) = (f s).holding h) (st : EngineState)
    (src : Option Source) : enterState st src f (s.holding h) = (enterState st src f s).holding h := by
  simp only [enterState_eq, State.holding_keeps, State.withEng_holding, hf, recomputeU_holding, exhaustionTest_holding,
    announce_holding]

theorem followEntry_holding (k : Tier) (c : Consensus) :
    followEntry k c (s.holding h) = (followEntry k c s).holding h := rfl

theorem tierEntry_holding (k : Tier) (c : Consensus) : tierEntry k c (s.holding h) = (tierEntry k c s).holding h := by
  rw [tierEntry, followEntry_holding, acquireInput_holding, (State.holding_keeps h s).2.2.2.2.2.2.2.1, tierEntry]

theorem holdoverEntry_holding (r : HoldoverRecord) :
    holdoverEntry r (s.holding h) = (holdoverEntry r s).holding h := by
  simp only [holdoverEntry, State.holding_keeps, State.withEng_holding, predict_holding]

@[simp] theorem applySelection_holding : applySelection (s.holding h) = (applySelection s).holding h := by
  have follow : ∀ k c, enterFollow k c (s.holding h) = (enterFollow k c s).holding h := fun k c => by
    rw [enterFollow_eq, enterState_holding h s (f := followEntry k c) (followEntry_holding h · k c), enterFollow_eq]
  have tier : ∀ k c, enterAcquireTier k c (s.holding h) = (enterAcquireTier k c s).holding h := fun k c => by
    rw [enterAcquireTier_eq, enterState_holding h s (f := tierEntry k c) (tierEntry_holding h · k c),
      enterAcquireTier_eq]
  have reference : enterAcquireReference (s.holding h) = (enterAcquireReference s).holding h :=
    enterState_holding h s (f := setIntegralF) (fun _ => rfl) ..
  have holdover : enterHoldover (s.holding h) = (enterHoldover s).holding h := by
    rw [enterHoldover_eq, enterHoldover_eq]
    exact enterState_holding h s (f := holdoverEntry s.newRecord) (holdoverEntry_holding h · _) ..
  have freerun : enterFreerun (s.holding h) = (enterFreerun s).holding h := by
    rw [enterFreerun_eq, enterFreerun_eq]
    exact enterState_holding h s (f := freerunEntry) (fun _ => rfl) ..
  unfold applySelection
  simp only [State.holding_keeps, State.holding_reads, State.holding_onSource, follow, tier, reference, holdover, freerun]
  split
  · (repeat' split) <;> rfl
  · split
    · rfl
    · split
      · (repeat' split) <;> rfl
      · rfl
  · (repeat' split) <;> rfl
  · (repeat' split) <;> rfl

@[simp] theorem selectSource_holding : selectSource (s.holding h) = (selectSource s).holding h := by
  simp only [selectSource, State.holding_reads, applySelection_holding]
  (repeat' split) <;> rfl

/-- An entry to a state with pulses keeps the pulse held (R40). -/
theorem enterQual_holding {q : Qualification} (hq : q ≠ .absent) :
    enterQual q (s.holding h) = (enterQual q s).holding h := by
  have entered : (s.holding h).mon.entered s.cfg q = { s.mon.entered s.cfg q with held := h } := by
    cases q with
    | absent => exact absurd rfl hq
    | _ => rfl
  have start : (s.holding h).withMon ((s.holding h).mon.entered s.cfg q) =
      (s.withMon (s.mon.entered s.cfg q)).holding h := by
    rw [entered]
    rfl
  rw [enterQual, (State.holding_keeps h s).2.2.2.2.2.2.2.1, start, selectSource_holding]
  rfl

/-- An entry to ABSENT drops it (R30). -/
theorem enterQual_absent_holding : enterQual .absent (s.holding h) = enterQual .absent s := rfl

end

end Sys2Proof.Machine
end

section
/-! PROOF. The monitor's work and its events (R21, R27, R42, R44, R45).
-/

namespace Sys2Proof.Machine

/-! ### The monitor's work, case by case -/

/-- The record after the notice of a boundary, that of an engine step where `b` (R28). -/
def Monitor.noticed (b : Bool) (m : Monitor) : Monitor :=
  if b = true then { m with blockSum := 0, blockCount := 0, blockOpen := none, seedRequest := true } else m

/-- The block is open for too long at second `k` (R27). -/
def Monitor.StaleAt (m : Monitor) (c : Settings) (k : Second) : Prop :=
  0 < m.blockCount ∧ ∃ o, m.blockOpen = some o ∧ c.decimation + 4 < secondsSince k o

theorem blockStale_iff (s : State) : s.blockStale = true ↔ s.mon.StaleAt s.cfg s.second := by
  unfold State.blockStale Monitor.StaleAt
  cases s.mon.blockOpen <;> simp

theorem Monitor.timerDue_iff (m : Monitor) : m.timerDue = true ↔
    (m.qual = .candidate ∧ m.qualTimer = some 0) ∨ (m.qual = .disqualified ∧ m.holdoffTimer = some 0) := by
  simp [timerDue]

section
variable (b : Bool) {s : State}

theorem monitorBoundary_eq : monitorBoundary b s =
    if (s.withMon (s.mon.noticed b)).blockStale then s.withMon { s.mon.noticed b with stage := .stale }
    else countDown (s.withMon (s.mon.noticed b)) := by
  cases b <;> rfl

theorem monitorBoundary_of_stale (stale : (s.mon.noticed b).StaleAt s.cfg s.second) :
    monitorBoundary b s = s.withMon { s.mon.noticed b with stage := .stale } := by
  rw [monitorBoundary_eq, if_pos ((blockStale_iff _).mpr stale)]

theorem monitorBoundary_of_fresh (fresh : ¬(s.mon.noticed b).StaleAt s.cfg s.second) :
    monitorBoundary b s = countDown (s.withMon (s.mon.noticed b)) := by
  rw [monitorBoundary_eq, if_neg fun h => fresh ((blockStale_iff _).mp h)]

end

section
variable {s : State}

theorem countDown_of_due (due : s.mon.counted.timerDue = true) :
    countDown s = s.withMon { s.mon.counted with stage := .expiry } := by
  rw [countDown_eq, if_pos due]

theorem countDown_of_not_due (due : ¬s.mon.counted.timerDue = true) :
    countDown s = measureHeld (s.withMon { s.mon.counted with stage := .idle }) := by
  rw [countDown_eq, if_neg due]

/-- The pulse held for the boundary is measured (R45). -/
theorem measureHeld_of_held {p : Pulse} (held : s.mon.held = some p) (tag : p.tag = s.second) :
    measureHeld s = checkMeasurement (s.measurement p.instant) p.tag
      (s.withMon { s.mon with stage := .idle, held := none }) := by
  have whole : measureHeld s = if p.tag = s.second then measure p.instant s.tsg.lastBoundary p.tag
      (s.withMon { s.mon with stage := .idle, held := none }) else s.withMon { s.mon with stage := .idle } := by
    unfold measureHeld
    simp only [State.withMon_mon, held]
    rfl
  rw [whole, if_pos tag]
  rfl

end

/-! ### An event with a pulse held (R45) -/

/-- What becomes of the pulse `p`, which measures `m`, when the monitor's work has come to `v` without it (R30, R45). -/
def State.afterHeld (m : Int) (p : Pulse) (v : State) : State :=
  if v.mon.stage ≠ .idle then v.holding (some p)
  else if v.mon.qual = .absent then v
  else checkMeasurement m p.tag v

section
variable {s : State} {p : Pulse} (tag : p.tag = s.second)
include tag

theorem measureHeld_holding :
    measureHeld (s.holding (some p)) = (measureHeld (s.holding none)).afterHeld (s.measurement p.instant) p := by
  have empty : measureHeld (s.holding none) = s.withMon { s.mon with stage := .idle, held := none } :=
    measureHeld_of_not_held (s := s.holding none) (fun q hq => by cases hq)
  rw [measureHeld_of_held (s := s.holding (some p)) rfl tag, empty, State.afterHeld, if_neg (by simp)]
  split
  · next absent => exact checkMeasurement_of_absent _ _ absent
  · rfl

theorem countDown_holding :
    countDown (s.holding (some p)) = (countDown (s.holding none)).afterHeld (s.measurement p.instant) p := by
  by_cases due : s.mon.counted.timerDue = true
  · rw [countDown_of_due (s := s.holding (some p)) due, countDown_of_due (s := s.holding none) due, State.afterHeld,
      if_pos (by simp)]
    rfl
  · rw [countDown_of_not_due (s := s.holding (some p)) due, countDown_of_not_due (s := s.holding none) due]
    exact measureHeld_holding (s := s.withMon { s.mon.counted with stage := .idle }) tag

theorem takeStaleBlock_holding :
    takeStaleBlock (s.holding (some p)) = (takeStaleBlock (s.holding none)).afterHeld (s.measurement p.instant) p :=
  countDown_holding (s := s.withMon s.mon.emptyBlock) tag

theorem measureHeld_enterQual_holding (q : Qualification) : measureHeld (enterQual q (s.holding (some p))) =
    (measureHeld (enterQual q (s.holding none))).afterHeld (s.measurement p.instant) p := by
  by_cases absent : q = .absent
  · subst absent
    have qual : (measureHeld (enterQual .absent s)).mon.qual = .absent := by
      rw [measureHeld_of_not_held (fun q hq => by simp [Monitor.entered] at hq)]
      simp [Monitor.entered]
    rw [enterQual_absent_holding, enterQual_absent_holding, State.afterHeld, if_neg (by simp), if_pos qual]
  · have time : (enterQual q s).second = s.second ∧ (enterQual q s).measurement p.instant = s.measurement p.instant := by
      simp [State.second, State.measurement]
    rw [enterQual_holding _ _ absent, enterQual_holding _ _ absent, ← time.2]
    exact measureHeld_holding (tag.trans time.1.symm)

end

theorem State.holding_self {s : State} {h : Option Pulse} (held : s.mon.held = h) : s.holding h = s := by
  subst held
  rfl

/-- The monitor's three events with a pulse held for their boundary (R45). -/
theorem exec_monitorEvent_holding {s v : State} {i : Instr} {p : Pulse} (running : s.running = true)
    (below : s.steerDue = false)
    (event : i = .staleBlock ∧ s.mon.stage = .stale ∨
      i = .qualificationTimerExpiry ∧ s.mon.stage = .expiry ∧ s.mon.qual = .candidate ∨
      i = .holdoffExpiry ∧ s.mon.stage = .expiry ∧ s.mon.qual = .disqualified)
    (held : s.mon.held = some p) (tag : p.tag = s.second) (without : exec i (s.holding none) = .next v) :
    exec i s = .next (v.afterHeld (s.measurement p.instant) p) := by
  have self : s.holding (some p) = s := State.holding_self held
  have settled : ∀ h, settleSteer (s.holding h) = s.holding h := fun h => settleSteer_of_below below
  have outcome : ∃ f : State → State, (∀ h, exec i (s.holding h) = .next (f (s.holding h))) ∧
      f (s.holding (some p)) = (f (s.holding none)).afterHeld (s.measurement p.instant) p := by
    obtain ⟨rfl, stage⟩ | ⟨rfl, stage, qual⟩ | ⟨rfl, stage, qual⟩ := event
    · refine ⟨takeStaleBlock, fun h => ?_, takeStaleBlock_holding tag⟩
      have taken := dueEvent_of_due (s := s.holding h) (due := fun s => s.mon.stage = .stale)
        (fun s => takeStaleBlock (settleSteer s)) running (by simp [State.holding, stage])
      rw [settled] at taken
      exact taken
    · refine ⟨takeQualification, fun h => ?_, measureHeld_enterQual_holding tag .qualified⟩
      have taken := dueEvent_of_due (s := s.holding h) (due := fun s => s.mon.stage = .expiry && s.mon.qual = .candidate)
        (fun s => takeQualification (settleSteer s)) running (by simp [State.holding, stage, qual])
      rw [settled] at taken
      exact taken
    · refine ⟨takeHoldoff, fun h => ?_,
        measureHeld_enterQual_holding tag (if s.mon.pulsesPresent then .candidate else .absent)⟩
      have taken := dueEvent_of_due (s := s.holding h)
        (due := fun s => s.mon.stage = .expiry && s.mon.qual = .disqualified)
        (fun s => takeHoldoff (settleSteer s)) running (by simp [State.holding, stage, qual])
      rw [settled] at taken
      exact taken
  obtain ⟨f, taken, holding⟩ := outcome
  have same : f (s.holding none) = v := by
    rw [taken] at without
    exact Host.Outcome.next.inj without
  have run := taken (some p)
  rwa [holding, same, self] at run

/-! ### The events without a pulse held -/

section
variable {s : State} (none_ : s.NoHeldPulse)
include none_

/-- A block emptied as stale, and the timers (R27, R42, R44). -/
theorem takeStaleBlock_of_not_held : ∃ st, takeStaleBlock s = s.withMon { s.mon.emptyBlock.counted with stage := st } := by
  show ∃ st, countDown (s.withMon s.mon.emptyBlock) = _
  by_cases due : s.mon.emptyBlock.counted.timerDue = true
  · exact ⟨.expiry, countDown_of_due (s := s.withMon s.mon.emptyBlock) due⟩
  · exact ⟨.idle, (countDown_of_not_due (s := s.withMon s.mon.emptyBlock) due).trans
      (measureHeld_of_not_held none_)⟩

/-- An entry at the end of a timer (R42, R44, R45). -/
theorem measureHeld_enterQual_of_not_held (q : Qualification) :
    measureHeld (enterQual q s) = (enterQual q s).withMon { s.mon.entered s.cfg q with stage := .idle } := by
  rw [measureHeld_of_not_held, enterQual_mon]
  intro p hp
  have held : s.mon.held = some p := by
    rw [enterQual_mon] at hp
    cases q with
    | absent => simp [Monitor.entered] at hp
    | _ => exact hp
  simpa [State.second] using none_ p held

end

/-- A reference that becomes QUALIFIED is acquired (R106, R107). -/
theorem enterQual_qualified_acquires {s : State} (loud : s.silent = false) (inhibit : s.eng.inhibit = false)
    (source : s.eng.source ≠ some .reference) : (enterQual .qualified s).eng.state = .acquire ∧
    (enterQual .qualified s).eng.source = some .reference ∧ (enterQual .qualified s).eng.lockCount = 0 ∧
    (enterQual .qualified s).tsg.fSet = roundDiv s.eng.integral 1000000 := by
  have selected : (s.withMon (s.mon.entered s.cfg .qualified)).selected = .source .reference :=
    State.selected_reference_iff.mpr ⟨rfl, inhibit⟩
  have off : (s.withMon (s.mon.entered s.cfg .qualified)).onSource .reference = false := by
    simp [State.onSource, source]
  have entered : enterQual .qualified s = enterAcquireReference (s.withMon (s.mon.entered s.cfg .qualified)) :=
    (selectSource_of_not_silent (by exact loud)).trans (applySelection_of_selected.1 selected off)
  obtain ⟨state, source', -⟩ := enterAcquireReference_course (s.withMon (s.mon.entered s.cfg .qualified))
  obtain ⟨o, e⟩ := enterState_eng .acquire (some .reference) setIntegralF (s.withMon (s.mon.entered s.cfg .qualified))
  rw [entered]
  refine ⟨state, source', ?_, ?_⟩
  · rw [enterAcquireReference, e]
    rfl
  · rw [enterAcquireReference, enterState_fSet]
    rfl

end Sys2Proof.Machine
end

section
/-! PROOF. The monitor's record over an own boundary (R45, R98).
-/

namespace Sys2Proof.Machine

/-! ### The disagreement count rises at a point alone (R97, R129) -/

/-- A selection leaves the count, or empties it with an entry (R107). -/
theorem applySelection_disagree (s : State) : (applySelection s).eng.disagree ≤ s.eng.disagree := by
  have entry : ∀ {u : State}, u.eng.disagree = 0 → u.eng.disagree ≤ s.eng.disagree := fun h => h ▸ Nat.zero_le _
  have reference : (enterAcquireReference s).eng.disagree = 0 := by
    obtain ⟨o, e⟩ := enterState_eng .acquire (some .reference) setIntegralF s
    rw [enterAcquireReference, e]
    rfl
  have holdover : (enterHoldover s).eng.disagree = 0 := by
    obtain ⟨o, e⟩ := enterState_eng .holdover none (holdoverEntry s.newRecord) s
    obtain ⟨p, e', -⟩ := predict_eng ((s.withEng (s.eng.entering .holdover none)).withEng
      { (s.withEng (s.eng.entering .holdover none)).eng with record := some s.newRecord })
    rw [enterHoldover_eq, e, holdoverEntry, e']
    rfl
  have freerun : (enterFreerun s).eng.disagree = 0 := by
    obtain ⟨o, e⟩ := enterState_eng .freerun none freerunEntry s
    rw [enterFreerun_eq, e]
    rfl
  unfold applySelection
  split
  · split
    · exact Nat.le_refl _
    · exact entry reference
  · split
    · exact Nat.le_refl _
    · split
      · split
        · exact entry (enterFollow_disagree ..)
        · exact entry (enterAcquireTier_disagree ..)
      · exact Nat.le_refl _
  · split
    · exact Nat.le_refl _
    · exact entry holdover
  · split
    · exact Nat.le_refl _
    · exact entry freerun

theorem selectSource_disagree (s : State) : (selectSource s).eng.disagree ≤ s.eng.disagree := by
  unfold selectSource
  split
  · exact Nat.le_refl _
  · exact applySelection_disagree s

theorem observationInput_disagree (y : Int) (s : State) : (s.observationInput y).eng.disagree ≤ s.eng.disagree := by
  unfold State.observationInput
  repeat' split
  · exact Nat.le_refl _
  · next locked =>
    obtain few | many := Nat.lt_or_ge ((recordY y s).largeCountAfter y) 3
    · rw [(trackInput_few _ _ few).1]
      exact Nat.le_refl _
    · rw [(trackInput_third _ _ many (.inl locked)).1]
      exact Nat.zero_le _
  · exact Nat.le_of_eq (acquireInput_disagree ..)
  · exact Nat.le_refl _

theorem disagree_monitorKept (n : Nat) : MonitorKept fun v => v.eng.disagree ≤ n where
  enterQual q s h := Nat.le_trans (selectSource_disagree _) h
  takeObservation _ y s h := by
    rw [takeObservation_eq]
    exact Nat.le_trans (selectSource_disagree _) (Nat.le_trans (observationInput_disagree y s) h)

theorem enterFault_disagree (s : State) : (enterFault s).eng.disagree ≤ s.eng.disagree := by
  by_cases fault : s.eng.state = .fault
  · exact Nat.le_of_eq (by rw [enterFault, if_pos fault])
  · rw [enterFault_eng fault]
    exact Nat.zero_le _

theorem settleSteer_disagree (s : State) : (settleSteer s).eng.disagree ≤ s.eng.disagree := by
  unfold settleSteer
  split
  · exact Nat.le_trans (enterFault_disagree _) (by simp)
  · exact Nat.le_refl _

theorem runTask_disagree (c : Option Committed) {t : BoundaryTask} (ht : t ≠ .peers) (s : State) :
    (runTask c t s).eng.disagree ≤ s.eng.disagree := by
  cases t with
  | peers => exact absurd rfl ht
  | oscillator =>
    by_cases lost : s.tsg.osc = .lost
    · rw [runTask_oscillator_of_lost c lost]
      exact Nat.le_trans (enterFault_disagree _) (by simpa using settleSteer_disagree s)
    · exact Nat.le_of_eq (by rw [runTask_oscillator_of_not_lost c lost])
  | monitor =>
    rw [runTask_monitor]
    exact (disagree_monitorKept _).monitorBoundary trivial _ _ (settleSteer_disagree s)
  | engine =>
    obtain ⟨p, u, o, e⟩ := engineBoundary_eng s
    show (engineBoundary s).eng.disagree ≤ _
    rw [e]
    exact Nat.le_refl _
  | _ => simp [runTask]

/-- A count that the next disagreement does not reach gives no order (R98). -/
theorem observationPoint_mon_of_few {s : State} (few : s.eng.disagree + 1 < s.cfg.disagreeCount) :
    (observationPoint s).mon = s.mon := by
  have order : (takePoint (formResults s)).2 = false := by
    cases silent : (formResults s).silent with
    | true => rw [takePoint_of_silent silent]
    | false =>
      rw [takePoint_of_not_silent silent]
      by_cases locked : s.eng.state = .locked
      · by_cases disagrees : (formResults s).Disagrees (formResults s).ptu.tier1.consensus
        · rw [disagreementCheck_of_few (s := formResults s) locked disagrees few]
        · rw [disagreementCheck_of_agreeing (s := formResults s) locked disagrees
            (show 0 < s.cfg.disagreeCount by omega)]
      · rw [disagreementCheck_of_not_locked (s := formResults s) locked]
  unfold observationPoint
  dsimp only
  rw [order, if_neg (by decide), (takePoint_keeps _).1]
  rfl

/-- The peers' work reaches the monitor by an order alone (R46, R98). -/
theorem peersBoundary_mon (n : Option Int) {s : State}
    (few : ¬s.PointHere ∨ s.eng.disagree + 1 < s.cfg.disagreeCount) : (peersBoundary n s).mon = s.mon := by
  by_cases here : s.PointHere
  · by_cases late : s.PeerLate
    · rw [peersBoundary_of_late late, State.withPtu_mon]
    · by_cases ended : s.PeerEnded
      · rw [peersBoundary_of_ended late ended, State.withPtu_mon]
      · rw [peersBoundary_of_rest late ended,
          pointDue_of_here (s := s.withPtu (s.ptu.noticed n s.second).counted) here]
        exact observationPoint_mon_of_few (few.resolve_left fun absent => absent here)
  · obtain ⟨p, e⟩ := peersBoundary_of_no_point n here
    rw [e, State.withPtu_mon]

/-- The monitor's record changes in the monitor's own task, where no order comes. -/
theorem runTask_mon (c : Option Committed) {t : BoundaryTask} (ht : t ≠ .monitor) {s : State}
    (few : t = .peers → ¬s.PointHere ∨ s.eng.disagree + 1 < s.cfg.disagreeCount) : (runTask c t s).mon = s.mon := by
  cases t with
  | monitor => exact absurd rfl ht
  | peers =>
    have same : (settleSteer s).PointHere ↔ s.PointHere := by simp [State.PointHere, State.second]
    rw [runTask_peers, peersBoundary_mon _ ((few rfl).imp (fun h => h ∘ same.mp) fun h => ?_), (settleSteer_keeps s).1]
    have settled := settleSteer_disagree s
    simp only [settleSteer_keeps]
    omega
  | oscillator =>
    by_cases lost : s.tsg.osc = .lost
    · rw [runTask_oscillator_of_lost c lost]
      simp
    · rw [runTask_oscillator_of_not_lost c lost]
  | _ => simp [runTask]

/-! ### What the monitor's task makes of the record (R27, R28, R42, R44, R45) -/

section
variable {v w : State} (mon : v.mon = w.mon) (cfg : v.cfg = w.cfg)
include mon cfg

theorem addToBlock_mon_congr (m : Int) (tag : Second) : (addToBlock m tag v).mon = (addToBlock m tag w).mon := by
  rw [addToBlock_mon, addToBlock_mon, mon, cfg]

theorem residualFault_mon_congr : (residualFault v).mon = (residualFault w).mon := by
  rw [residualFault_mon, residualFault_mon, mon, cfg]

/-- What a measurement makes of the record depends on the record, the settings and the instant alone. -/
theorem checkMeasurement_mon_congr (now : v.tsg.now = w.tsg.now) (m : Int) (tag : Second) :
    (checkMeasurement m tag v).mon = (checkMeasurement m tag w).mon := by
  by_cases absent : w.mon.qual = .absent
  · rw [checkMeasurement_of_absent m tag absent, checkMeasurement_of_absent m tag (mon ▸ absent), mon]
  · by_cases seed : w.mon.seedRequest = true ∨ w.mon.prediction = none
    · rw [checkMeasurement_of_seed m tag absent seed, checkMeasurement_of_seed (s := v) m tag (mon ▸ absent) (mon ▸ seed)]
      exact addToBlock_mon_congr (v := v.withMon { v.mon with prediction := some m, seedRequest := false })
        (w := w.withMon { w.mon with prediction := some m, seedRequest := false }) (by simp only [State.withMon_mon, mon])
        cfg m tag
    · obtain ⟨unseeded, predicted⟩ := not_or.mp seed
      obtain ⟨p, hp⟩ := Option.ne_none_iff_exists'.mp predicted
      have unseeded' : w.mon.seedRequest = false := Bool.eq_false_iff.mpr unseeded
      have tested : v.testedWindow = w.testedWindow := by simp only [State.testedWindow, mon, now]
      have judged : v.judged (m - p) = w.judged (m - p) := by simp only [State.judged, mon, cfg]
      rw [checkMeasurement_of_residual m tag absent unseeded' hp,
        checkMeasurement_of_residual (s := v) m tag (mon ▸ absent) (by rw [mon, unseeded']) (by rw [mon, hp]),
        cfg, tested, judged]
      repeat' split
      · exact residualFault_mon_congr rfl cfg
      · rfl
      · exact addToBlock_mon_congr (v := v.withMon (w.judged (m - p))) (w := w.withMon (w.judged (m - p))) rfl cfg m tag

end

/-- The record `x` that the boundary of `s` leaves, with the trim `trim` and the notice of an engine step where `b`. -/
structure State.MonitorPassed (s : State) (b : Bool) (trim : Int) (x : Monitor) : Prop where
  stale : (s.mon.noticed b).StaleAt s.cfg ((s.tsg.boundaryIndex + 1) % 4294967296) →
    x = { s.mon.noticed b with stage := .stale }
  expiry : ¬(s.mon.noticed b).StaleAt s.cfg ((s.tsg.boundaryIndex + 1) % 4294967296) →
    (s.mon.noticed b).counted.timerDue = true → x = { (s.mon.noticed b).counted with stage := .expiry }
  rest : ¬(s.mon.noticed b).StaleAt s.cfg ((s.tsg.boundaryIndex + 1) % 4294967296) →
    ¬(s.mon.noticed b).counted.timerDue = true →
    (∀ p, s.mon.held = some p → p.tag ≠ (s.tsg.boundaryIndex + 1) % 4294967296) →
    x = { (s.mon.noticed b).counted with stage := .idle }
  measured : ¬(s.mon.noticed b).StaleAt s.cfg ((s.tsg.boundaryIndex + 1) % 4294967296) →
    ¬(s.mon.noticed b).counted.timerDue = true →
    ∀ p, s.mon.held = some p → p.tag = (s.tsg.boundaryIndex + 1) % 4294967296 →
    x = (checkMeasurement (fold 1000000000 (s.tsg.nextBoundary - p.instant) + s.cfg.cableDelay + trim) p.tag
      ((s.at s.tsg.nextBoundary).withMon { (s.mon.noticed b).counted with stage := .idle, held := none })).mon

/-- The clock of a boundary's tasks, with the disagreement count before the peers' task. -/
structure State.Watched (s : State) (trim : Int) (done : List BoundaryTask) (v : State) : Prop extends s.Opened v where
  now : v.tsg.now = s.tsg.nextBoundary
  last : v.tsg.lastBoundary = s.tsg.nextBoundary
  trim : v.tsg.trim = trim
  few : .peers ∉ done → v.eng.disagree ≤ s.eng.disagree

theorem State.Watched.runTask {s v : State} {trim : Int} {done : List BoundaryTask} (h : s.Watched trim done v)
    (c : Option Committed) (t : BoundaryTask) : s.Watched trim (t :: done) (runTask c t v) where
  toOpened := h.toOpened.runTask c t
  now := by simp [h.now]
  last := by simp [h.last]
  trim := by simp [h.trim]
  few hp := by
    obtain ⟨other, before⟩ := not_or.mp ((not_congr List.mem_cons).mp hp)
    exact Nat.le_trans (runTask_disagree c (Ne.symm other) v) (h.few before)

theorem Monitor.noticed_held (b : Bool) (m : Monitor) : (m.noticed b).held = m.held := by cases b <;> rfl

theorem monitorBoundary_passed {s v : State} {trim : Int} {done : List BoundaryTask} (h : s.Watched trim done v)
    (mon : v.mon = s.mon) (b : Bool) : s.MonitorPassed b trim (monitorBoundary b v).mon where
  stale hs := by
    rw [monitorBoundary_of_stale b (by rwa [mon, h.cfg, h.second]), State.withMon_mon, mon]
  expiry hs due := by
    rw [monitorBoundary_of_fresh b (by rwa [mon, h.cfg, h.second]), mon,
      countDown_of_due (s := v.withMon (s.mon.noticed b)) due]
    rfl
  rest hs due held := by
    rw [monitorBoundary_of_fresh b (by rwa [mon, h.cfg, h.second]), mon,
      countDown_of_not_due (s := v.withMon (s.mon.noticed b)) due, measureHeld_of_not_held]
    · rfl
    · intro p hp
      have second : v.second = _ := h.second
      exact second ▸ held p ((Monitor.noticed_held b s.mon).symm.trans hp)
  measured hs due p held tag := by
    rw [monitorBoundary_of_fresh b (by rwa [mon, h.cfg, h.second]), mon,
      countDown_of_not_due (s := v.withMon (s.mon.noticed b)) due,
      measureHeld_of_held (s := (v.withMon (s.mon.noticed b)).withMon
        { (v.withMon (s.mon.noticed b)).mon.counted with stage := .idle }) ((Monitor.noticed_held b s.mon).trans held) (tag.trans h.second.symm)]
    have measurement : State.measurement (((v.withMon (s.mon.noticed b)).withMon
        { (v.withMon (s.mon.noticed b)).mon.counted with stage := .idle })) p.instant =
        fold 1000000000 (s.tsg.nextBoundary - p.instant) + s.cfg.cableDelay + trim := by
      show fold 1000000000 (v.tsg.lastBoundary - p.instant) + v.cfg.cableDelay + v.tsg.trim = _
      rw [h.last, h.cfg, h.trim]
    rw [measurement]
    exact checkMeasurement_mon_congr
      (v := v.withMon { (s.mon.noticed b).counted with stage := .idle, held := none })
      (w := (s.at s.tsg.nextBoundary).withMon { (s.mon.noticed b).counted with stage := .idle, held := none })
      rfl h.cfg h.now _ _

theorem openBoundary_watched {s : State} (osc : s.tsg.osc ≠ .returning) :
    s.Watched (openBoundary s).tsg.trim [] (openBoundary s) ∧ (openBoundary s).mon = s.mon := by
  have clock : (openBoundary s).tsg.now = (reachBoundary s).tsg.now ∧
      (openBoundary s).tsg.lastBoundary = (reachBoundary s).tsg.lastBoundary ∧
      (openBoundary s).mon = (reachBoundary s).mon := by simp [openBoundary]
  have reached : (reachBoundary s).tsg.now = s.tsg.nextBoundary ∧
      (reachBoundary s).tsg.lastBoundary = s.tsg.nextBoundary ∧ (reachBoundary s).mon = s.mon := by
    cases h : s.tsg.osc with
    | returning => exact absurd h osc
    | present =>
      obtain ⟨now, -, -, last, -⟩ := s.tsg.reach_clock
      rw [reachBoundary_of_present h]
      exact ⟨now, last, rfl⟩
    | lost =>
      rw [reachBoundary_of_lost h]
      exact ⟨rfl, rfl, rfl⟩
  obtain ⟨now, last, mon⟩ := clock
  obtain ⟨now', last', mon'⟩ := reached
  exact ⟨⟨openBoundary_opened s, now.trans now', last.trans last', rfl, fun _ => by simp⟩, mon.trans mon'⟩

/-- The monitor's record after a boundary that gives no order (R45, R98). -/
theorem ownBoundary_monitor (order : List BoundaryTask) {s : State} (osc : s.tsg.osc ≠ .returning)
    (few : s.pwr.state = .load ∨ (s.tsg.boundaryIndex + 1) % 4294967296 % s.cfg.pointInterval ≠ 0 ∨
      s.eng.disagree + 1 < s.cfg.disagreeCount) :
    s.MonitorPassed (stepNoticed s.tsg.notice) (ownBoundary order s).tsg.trim (ownBoundary order s).mon := by
  have trim : (ownBoundary order s).tsg.trim = (openBoundary s).tsg.trim := by
    rw [(ownBoundary_clock order s).2.2.1]
    simp [openBoundary]
  obtain ⟨watched, mon⟩ := openBoundary_watched osc
  have step : ∀ done t v, t ∉ done →
      s.Watched (openBoundary s).tsg.trim done v ∧ (.monitor ∉ done → v.mon = s.mon) ∧
        (.monitor ∈ done → s.MonitorPassed (stepNoticed s.tsg.notice) (openBoundary s).tsg.trim v.mon) →
      s.Watched (openBoundary s).tsg.trim (t :: done) (runTask s.tsg.notice t v) ∧
        (.monitor ∉ t :: done → (runTask s.tsg.notice t v).mon = s.mon) ∧
        (.monitor ∈ t :: done → s.MonitorPassed (stepNoticed s.tsg.notice) (openBoundary s).tsg.trim
          (runTask s.tsg.notice t v).mon) := by
    rintro done t v ht ⟨watch, before, after⟩
    refine ⟨watch.runTask _ t, ?_⟩
    by_cases monitor : t = .monitor
    · subst monitor
      refine ⟨fun h => absurd List.mem_cons_self h, fun _ => ?_⟩
      have settled : s.Watched (openBoundary s).tsg.trim (.peers :: done) (settleSteer v) :=
        ⟨watch.toOpened.settleSteer, by simp [watch.now], by simp [watch.last], by simp [watch.trim],
          fun h => absurd List.mem_cons_self h⟩
      rw [runTask_monitor]
      exact monitorBoundary_passed settled (by simpa using before ht) _
    · have same : (runTask s.tsg.notice t v).mon = v.mon := by
        refine runTask_mon _ monitor fun peers => ?_
        obtain load | off | few := few
        · exact .inl fun here => here.1 (by rw [watch.pwr, load])
        · exact .inl fun here => off (by rw [← watch.second, ← watch.cfg]; exact here.2)
        · refine .inr ?_
          have bound := watch.few (peers ▸ ht)
          rw [watch.cfg]
          omega
      rw [same]
      have iff : BoundaryTask.monitor ∈ t :: done ↔ .monitor ∈ done := by simp [Ne.symm monitor]
      exact ⟨fun h => before (h ∘ iff.mpr), fun h => after (iff.mp h)⟩
  obtain ⟨all, mem, -, -, passed⟩ := ownBoundary_done (order := order) step
    ⟨watched, fun _ => mon, fun h => absurd h List.not_mem_nil⟩
  rw [trim]
  exact passed (mem _)

end Sys2Proof.Machine

open Sys2Proof Sys2Proof.Machine

/-- Settles O13. -/
theorem monitorBoundaryEvents : Obligations.MonitorBoundaryEvents := by
  refine ⟨fun s order ready osc => ?_, fun s v i p running below event held tag without =>
      exec_monitorEvent_holding running below event held tag without,
    fun s t ready accepted present now => by rw [exec_refPulse t ready, takePulse_of_now accepted present now]; rfl,
    fun s running stage below none_ => ?_, fun s running stage qual below none_ => ?_,
    fun s running stage qual none_ => ?_⟩
  · intro k few b stale m expiry
    have noticed : b = s.mon.noticed (stepNoticed s.tsg.notice) := by
      by_cases present : s.tsg.osc = .present
      · cases committed : s.tsg.committed <;>
          simp [b, present, committed, Monitor.noticed, stepNoticed, Timescale.notice]
      · simp [b, present, Monitor.noticed, stepNoticed, Timescale.notice]
    have due : expiry ↔ (s.mon.noticed (stepNoticed s.tsg.notice)).counted.timerDue = true := by
      rw [Monitor.timerDue_iff, ← noticed]
      rfl
    obtain ⟨onStale, onExpiry, rest, measured⟩ := ownBoundary_monitor order osc few
    refine ⟨ownBoundary order s, event_of_ready _ ready, ?_⟩
    rw [← due, ← noticed] at onExpiry rest measured
    rw [← noticed] at onStale
    exact ⟨onStale, onExpiry, rest, fun fresh timer p held tag => by
      rw [measured fresh timer p held tag, tag]
      rfl⟩
  · obtain ⟨st, e⟩ := takeStaleBlock_of_not_held none_
    refine ⟨{ s.mon.emptyBlock.counted with stage := st }, ?_, rfl, rfl, rfl, rfl, rfl, rfl, rfl, rfl, rfl⟩
    have taken := dueEvent_of_due (s := s) (due := fun s => s.mon.stage = .stale)
      (fun s => takeStaleBlock (settleSteer s)) running (by simp [stage])
    rwa [settleSteer_of_below below, e] at taken
  · have taken := dueEvent_of_due (s := s) (due := fun s => s.mon.stage = .expiry && s.mon.qual = .candidate)
      (fun s => takeQualification (settleSteer s)) running (by simp [stage, qual])
    rw [settleSteer_of_below below, takeQualification, measureHeld_enterQual_of_not_held none_] at taken
    exact ⟨_, taken, rfl, fun silent => enterQual_eng_of_silent _ silent,
      fun loud inhibit source => enterQual_qualified_acquires loud inhibit source, by simp⟩
  · have taken := dueEvent_of_due (s := s) (due := fun s => s.mon.stage = .expiry && s.mon.qual = .disqualified)
      (fun s => takeHoldoff (settleSteer s)) running (by simp [stage, qual])
    have quiet : (settleSteer s).NoHeldPulse := by simpa [State.NoHeldPulse, State.second] using none_
    rw [takeHoldoff, measureHeld_enterQual_of_not_held quiet] at taken
    have pulses : (settleSteer s).mon.pulsesPresent = true ↔ s.mon.lastPulse ≠ none ∧ s.mon.consecutiveMissing = 0 := by
      simp [Monitor.pulsesPresent, Option.isSome_iff_ne_none]
    refine ⟨_, taken, ?_⟩
    by_cases present : s.mon.lastPulse ≠ none ∧ s.mon.consecutiveMissing = 0
    · rw [if_pos (pulses.mpr present)]
      refine ⟨fun _ => by simp [Monitor.entered], fun h => absurd present h, ?_⟩
      simp [Monitor.entered, Monitor.emptyBlock]
    · rw [if_neg (mt pulses.mp present)]
      refine ⟨fun h => absurd h present, fun _ => by simp [Monitor.entered, Monitor.emptyBlock], ?_⟩
      simp [Monitor.entered, Monitor.emptyBlock]

end
